-- ==== Sys2Proof/Word.lean ====
section
/-! DEFINITION. The link byte: the only word the manual treats as bits (R193, R194, R203). -/
namespace Sys2Proof

/-- One byte of the host link or of the machine line (R193, R29). -/
abbrev Byte := BitVec 8

/-- A byte holding the low eight bits of a number. -/
def Byte.ofNat (n : Nat) : Byte := BitVec.ofNat 8 n

end Sys2Proof
end

