-- ==== Sys2Proof/Syntax.lean ====
section
/-! DEFINITION. The commands of the WL64: the enumerations and records their operands are made of, the host
requests of the message catalogue (10.6), and `Instr`, one constructor per row of spec/opcode_table.json. -/
namespace Sys2Proof

/-! ## Numbers of things -/

/-- Machine number, also the node address (R1, R28). -/
abbrev MachineNo := Fin 64
/-- Room number (R1). -/
abbrev RoomNo := Fin 4
/-- Account index (R92). -/
abbrev AccountNo := Fin 1024
/-- Payment context number (R97). -/
abbrev ContextNo := Fin 8
/-- Programme index (R120, R121). -/
abbrev ProgrammeNo := Fin 8
/-- Flat-table page number (R54). -/
abbrev FlatPageNo := Fin 64
/-- Card-table page number (R54). -/
abbrev CardPageNo := Fin 512

/-! ## Enumerations (10.5) -/

/-- The machine class of the machine record (R1). -/
inductive MachineClass where
  | washer | dryer
  deriving DecidableEq, Repr

/-- The twelve states of a machine record (1.1). -/
inductive MachineState where
  | unassigned | offline | recovering | idle | authorising | armed | delayed | running | stranded
  | settling | done | lockedOut
  deriving DecidableEq, Repr

/-- The mode of a session (R4). -/
inductive Mode where
  | immediate | delayed | service | unbilled
  deriving DecidableEq, Repr

/-- The heat state of a session (R4, R13). -/
inductive HeatState where
  | none | waiting | granted | withdrawn
  deriving DecidableEq, Repr

/-- The seven node fault codes a FAULT report can carry (R31, R159). -/
inductive NodeFault where
  | doorLock | noWater | drain | heater | motor | overheat | imbalance
  deriving DecidableEq, Repr

/-- The fault codes of R158; the node codes first. -/
inductive FaultCode where
  | node (f : NodeFault)
  | nodeLost | overrun | doorOpenRunning | heatWithoutGrant | leak | powerInterrupt
  | storeDamaged | storeRepair | foreignRun | operatorLock | restoredLockout | leakCleared
  deriving DecidableEq, Repr

/-- The end cause of a session (R4). -/
inductive EndCause where
  | completed | aborted | armExpired
  | fault (code : FaultCode)
  deriving DecidableEq, Repr

/-- Fault severities (8.1). -/
inductive Severity where
  | note | stop | lockout | room
  deriving DecidableEq, Repr

/-- Account states (R93). -/
inductive AccountState where
  | free | opened | suspended
  deriving DecidableEq, Repr

/-- Status codes of a reply (10.5). -/
inductive Status where
  | ok | unknownRequest | badArgument | notReady | busy | refusedState | locked | notAcknowledged
  | full | notEmpty | notFound | storeUnavailable | limit
  deriving DecidableEq, Repr, Inhabited

/-- Refusal reasons sent in REFUSE and REFUSAL (10.5). -/
inductive Reason where
  | insufficient | suspended | accountClosed | accountDamaged | unknownSite | unknownCard | windowRefused
  | classNotAllowed | storeUnavailable | programmeInvalid | outOfOrder | roomClosed | machineBusy
  | partLimit | armExpired
  deriving DecidableEq, Repr

/-- Levels of the card directory (R57). -/
inductive Level where
  | floor | flat | card
  deriving DecidableEq, Repr

/-- Descriptor kinds as a host message carries them (10.5). -/
inductive DescriptorKind where
  | invalid | table | account | indirect
  deriving DecidableEq, Repr

/-- Edge select of a leak input (R172). -/
inductive EdgeSelect where
  | off | rising | falling
  deriving DecidableEq, Repr

/-- Class filter of an open window (R49). -/
inductive ClassFilter where
  | any | washers | dryers
  deriving DecidableEq, Repr

/-- Replacement policy of the cache (R83). -/
inductive Replacement where
  | lru | roundRobin
  deriving DecidableEq, Repr

/-- Arbitration mode of the feeder budget unit (R140). -/
inductive Arbitration where
  | resumeFirst | alternate
  deriving DecidableEq, Repr

/-- Lamp patterns (R44). -/
inductive LampPattern where
  | off | on | slow | fast
  deriving DecidableEq, Repr

/-! ## Records carried by commands -/

/-- A computed lamp pattern: pattern and invert (R44). -/
structure Lamp where
  pattern : LampPattern
  invert : Bool
  deriving DecidableEq, Repr

/-- The LAMP item: one lamp per lamp source, in the order of its default table (R44). -/
structure LampMap where
  available : Lamp
  armed : Lamp
  inUse : Lamp
  heatHold : Lamp
  done : Lamp
  outOfOrder : Lamp
  deriving DecidableEq, Repr

/-- The NOTICE_MASK item: one selection per kind, FAULT split by severity (R200). -/
structure NoticeMask where
  session : Bool
  refusal : Bool
  unknownCard : Bool
  faultNote : Bool
  faultStop : Bool
  faultLockout : Bool
  faultRoom : Bool
  backlog : Bool
  demandEnd : Bool
  store : Bool
  startUp : Bool
  deriving DecidableEq, Repr

/-- A card path floor/flat/ordinal. -/
structure CardPath where
  floor : Fin 64
  flat : Fin 16
  ordinal : Fin 4
  deriving DecidableEq, Repr

/-- A card identifier: site code and path. -/
structure CardId where
  site : Nat
  path : CardPath
  deriving DecidableEq, Repr

/-- An attribute set drawn from STAFF, PEAK_EXEMPT, WASHERS_ONLY, DRYERS_ONLY (R55). -/
structure Attributes where
  staff : Bool
  peakExempt : Bool
  washersOnly : Bool
  dryersOnly : Bool
  deriving DecidableEq, Repr

/-- A path as a host request carries it, its numbers not yet judged (10.5). -/
structure RawPath where
  level : Level
  floor : Nat
  flat : Nat
  ordinal : Nat
  deriving DecidableEq, Repr

/-- A descriptor as a DIRECTORY_WRITE carries it, its numbers not yet judged (10.5, R62). The targeted marker, the
last-use day and the page are ignored in a DIRECTORY_WRITE, so they are not held. -/
structure RawDescriptor where
  kind : DescriptorKind
  hold : Bool
  attributes : Attributes
  account : Nat
  targetFloor : Nat
  targetFlat : Nat
  targetOrdinal : Nat
  deriving DecidableEq, Repr

/-- The action of a WINDOW item, its account index not yet judged (R49). -/
inductive WindowItemAction where
  | free
  | house (account : Nat)
  | refuse
  deriving DecidableEq, Repr

/-- The WINDOW item's fields, not yet judged; `none` is ANY (R49). -/
structure WindowItem where
  enabled : Bool
  site : Nat
  floorLow : Nat
  floorHigh : Nat
  flat : Option Nat
  ordinal : Option Nat
  filter : ClassFilter
  action : WindowItemAction
  deriving DecidableEq, Repr

/-- The CACHE item's fields (R83). -/
structure CacheItem where
  mask : Vector Bool 4
  replacement : Replacement
  sweepBurst : Nat
  lookupBurst : Nat
  deriving DecidableEq, Repr

/-- The PROGRAMME item: class, index and every field of that programme (R120 to R122). -/
inductive ProgrammeItem where
  | washer (index price duration heat : Nat)
  | dryer (index price length maximum heat : Nat)
  deriving DecidableEq, Repr

/-- One configuration item with its index, as CONFIG_SET carries it (R204, 11.1). Numbers are not yet judged. -/
inductive ConfigItem where
  | site (code : Nat)
  | room (room capacity : Nat) (edge : EdgeSelect)
  | machine (machine room : Nat) (cls : MachineClass) (assigned : Bool)
  | programme (p : ProgrammeItem)
  | band (band start factor : Nat)
  | tariffGroup (group discount : Nat)
  | surcharge (permille : Nat)
  | cap (cents : Nat)
  | grace (minutes : Nat)
  | pause (allowance credit : Nat)
  | arm (seconds : Nat)
  | overrun (minutes : Nat)
  | nodeGrace (minutes : Nat)
  | window (index : Nat) (w : WindowItem)
  | cache (c : CacheItem)
  | grant (mode : Arbitration) (limit high low : Nat)
  | lamp (m : LampMap)
  | noticeMask (m : NoticeMask)
  deriving DecidableEq, Repr

/-- Every field of an ACCOUNT_SET giving every field (R117). -/
structure AccountFields where
  state : AccountState
  balance : Int
  overdraft : Nat
  group : Nat
  vends : Nat
  lastDay : Nat
  deriving DecidableEq, Repr

/-- RULES_SET's selectors and values (10.6): enables by bit, and one severity per node code where it is selected. -/
structure RulesItem where
  enableSelector : Vector Bool 8
  enableValues : Vector Bool 8
  severities : Vector (Option Severity) 7
  deriving DecidableEq, Repr

/-- Scope of a CACHE_FLUSH (R91). -/
inductive FlushScope where
  | all | residents
  | floor (f : Nat)
  | flat (f n : Nat)
  deriving DecidableEq, Repr

/-- A host request as its owner takes it (10.6). -/
inductive Request where
  | identify
  | configSet (item : ConfigItem)
  | configGet (item index : Nat)
  | configSave
  | clockSet (minute day : Nat)
  | reset
  | machineQuery (machine : Nat)
  | serviceStart (machine programme increments : Nat)
  | abort (machine : Nat)
  | lock (machine : Nat)
  | lockoutClear (machine : Nat)
  | nodeEnable (machine : Nat)
  | nodeDisable (machine : Nat)
  | directoryWrite (path : RawPath) (descriptor : RawDescriptor)
  | directoryRead (path : RawPath)
  | cardProbe (card : CardId) (cls : MachineClass)
  | accountOpen (account overdraft group : Nat)
  | accountRead (account : Nat)
  | accountSet (account : Nat) (state : Option AccountState) (overdraft group : Option Nat)
  | accountSetAll (account : Nat) (fields : AccountFields)
  | accountCredit (account amount : Nat)
  | accountAdjust (account : Nat) (amount : Int)
  | accountClose (account : Nat)
  | cacheFlush (scope : FlushScope)
  | demandSet (limit duration : Nat)
  | budgetQuery
  | faultRead (start count : Nat)
  | faultAck (sequence : Nat)
  | rulesSet (item : RulesItem)
  | rulesLock
  | valveOpen (room : Nat)
  deriving DecidableEq, Repr

/-- Washer phases reported by a node (R14). -/
inductive Phase where
  | fill | heatRequest | heatDone | wash | rinse | spin | finished
  deriving DecidableEq, Repr

/-- The node's own view of its appliance (R30). `ended` is ENDED, `held` is HELD. -/
inductive NodeState where
  | idle | armed | running | held | ended | interrupted
  deriving DecidableEq, Repr

/-- Door field of the status summary (R30). -/
inductive Door where
  | opened | closed | locked
  deriving DecidableEq, Repr

/-- The status summary of a node reply (R30). -/
structure Summary where
  state : NodeState
  sessionId : Nat
  door : Door
  heater : Bool
  deriving DecidableEq, Repr

/-- A command of the machine line with its arguments (R34). -/
inductive NodeCommand where
  | stop (id : Nat)
  | lock (on : Bool)
  | enable (id : Nat) (programme : ProgrammeNo) (price : Nat) (mode : Mode)
  | disable (id : Nat)
  | go (id : Nat)
  | finish (id : Nat)
  | heatGrant (id : Nat)
  | heatHold (id : Nat)
  | refuse (reason : Reason)
  | lamp (l : Lamp)
  deriving DecidableEq, Repr

/-- A node report (R31). -/
inductive Report where
  | card (card : CardId) (programme count : Nat)
  | startPressed
  | phase (p : Phase)
  | door (opened : Bool)
  | fault (f : NodeFault)
  | nodeReset (wasRunning : Bool)
  deriving DecidableEq, Repr

/-- A frame that reaches the part from a node (R29). `late` says that tREPLY had run out for the exchange it answers.
`body` is every byte from the address to the end of the report and `check` the check byte after them; the coding of the
body is the machine line protocol's, so the fields it carries stand beside it. DESIGN CHOICE (log entry 16). -/
structure NodeReply where
  late : Bool
  body : List Byte
  check : Byte
  address : MachineNo
  summary : Summary
  echo : Option NodeCommand
  report : Option (Report × Bool)
  deriving DecidableEq, Repr

/-- What a power loss leaves of the store write being carried out (R177). DEDUCED (log entry 13). -/
inductive PowerCut where
  /-- Nothing of it reached the record. -/
  | beforeWrite
  /-- It was cut short, and the record is left with a check that fails. -/
  | duringWrite
  /-- It stood complete in the record. -/
  | afterWrite
  deriving DecidableEq, Repr

/-! ## The commands -/

/-- The commands of the block: one constructor per row of spec/opcode_table.json, in the table's order. A host request
carries its tag (R197). Events of timers and store transactions carry the number of the machine, node or room they
concern where the row does not settle it. DESIGN CHOICE (log entry 66). -/
inductive Instr where
  | powerOnReset
  | softReset
  | hostByteReceived (b : Byte)
  | gapTimerExpiry
  | hostFrameSent
  | identify (tag : Byte)
  | configSetSite (tag : Byte) (code : Nat)
  | configSetRoom (tag : Byte) (room capacity : Nat) (edge : EdgeSelect)
  | configSetMachine (tag : Byte) (machine room : Nat) (cls : MachineClass) (assigned : Bool)
  | configSetProgramme (tag : Byte) (p : ProgrammeItem)
  | configSetBand (tag : Byte) (band start factor : Nat)
  | configSetTariffGroup (tag : Byte) (group discount : Nat)
  | configSetSurcharge (tag : Byte) (permille : Nat)
  | configSetCap (tag : Byte) (cents : Nat)
  | configSetGrace (tag : Byte) (minutes : Nat)
  | configSetPause (tag : Byte) (allowance credit : Nat)
  | configSetArm (tag : Byte) (seconds : Nat)
  | configSetOverrun (tag : Byte) (minutes : Nat)
  | configSetNodeGrace (tag : Byte) (minutes : Nat)
  | configSetWindow (tag : Byte) (index : Nat) (w : WindowItem)
  | configSetCache (tag : Byte) (c : CacheItem)
  | configSetGrant (tag : Byte) (mode : Arbitration) (limit high low : Nat)
  | configSetLamp (tag : Byte) (m : LampMap)
  | configSetNoticeMask (tag : Byte) (m : NoticeMask)
  | configGet (tag : Byte) (item index : Nat)
  | configSave (tag : Byte)
  | configSegmentWriteDone
  | clockSet (tag : Byte) (minute day : Nat)
  | reset (tag : Byte)
  | machineQuery (tag : Byte) (machine : Nat)
  | serviceStart (tag : Byte) (machine programme increments : Nat)
  | abort (tag : Byte) (machine : Nat)
  | lock (tag : Byte) (machine : Nat)
  | lockoutClear (tag : Byte) (machine : Nat)
  | nodeEnable (tag : Byte) (machine : Nat)
  | nodeDisable (tag : Byte) (machine : Nat)
  | directoryWrite (tag : Byte) (path : RawPath) (descriptor : RawDescriptor)
  | directoryRead (tag : Byte) (path : RawPath)
  | cardProbe (tag : Byte) (card : CardId) (cls : MachineClass)
  | accountOpen (tag : Byte) (account overdraft group : Nat)
  | accountRead (tag : Byte) (account : Nat)
  | accountSet (tag : Byte) (account : Nat) (state : Option AccountState) (overdraft group : Option Nat)
  | accountSetEveryField (tag : Byte) (account : Nat) (fields : AccountFields)
  | accountCredit (tag : Byte) (account amount : Nat)
  | accountAdjust (tag : Byte) (account : Nat) (amount : Int)
  | accountClose (tag : Byte) (account : Nat)
  | cacheFlushAll (tag : Byte)
  | cacheFlushResidents (tag : Byte)
  | cacheFlushFloor (tag : Byte) (floor : Nat)
  | cacheFlushFlat (tag : Byte) (floor flat : Nat)
  | demandSet (tag : Byte) (limit duration : Nat)
  | budgetQuery (tag : Byte)
  | faultRead (tag : Byte) (start count : Nat)
  | faultAck (tag : Byte) (sequence : Nat)
  | rulesSet (tag : Byte) (item : RulesItem)
  | rulesLock (tag : Byte)
  | valveOpen (tag : Byte) (room : Nat)
  | nodeReply (r : NodeReply)
  | replyTimeout
  | slowTimerExpiry (node : MachineNo)
  | lostTimerExpiry (node : MachineNo)
  | armTimerExpiry (machine : MachineNo)
  | minuteTimerExpiry (machine : MachineNo)
  | graceTimerExpiry (machine : MachineNo)
  | recoveryWindowExpiry (machine : MachineNo)
  | authoriseResult (machine : MachineNo)
  | extendResult (machine : MachineNo)
  | settleComplete (machine : MachineNo)
  | partReleaseComplete (machine : MachineNo)
  | contextTakeRequest
  | cacheLookup
  | sweepStep
  | walkReadDone
  | accountReadDone
  | accountWriteDone
  | slotReadDone
  | slotWriteDone
  | directoryStoreWriteDone
  | demandTimerExpiry
  /-- The level at the room's leak input pin becomes high (`true`) or low. -/
  | leakInputChange (room : RoomNo) (high : Bool)
  | debounceExpiry (room : RoomNo)
  | storeFailure
  | probeTimerExpiry
  /-- The probe's status read completes; `valid` says whether the memory gave a valid status. -/
  | probeComplete (valid : Bool)
  | dayUpdateDone
  | slotRefreshDone
  | scanTransactionDone
  | timebaseMinute
  | powerLoss (cut : PowerCut)
  deriving DecidableEq, Repr

end Sys2Proof
end

