-- ==== Sys2Proof/Decode.lean ====
section
/-! DEFINITION. The command a word of the opcode table spells. -/
namespace Sys2Proof

/-- The command that the bits of a table word spell. spec/opcode_table.json gives no row any bits: its commands are events and
host requests, which arrive as frames (see `State.hostByte`), so no word spells one. -/
def decodeTableWord (_nbits _w : Nat) : Option Instr := none

end Sys2Proof
end

