-- ==== Sys2Proof/Config.lean ====
section
/-! DEFINITION. What the WL64 fixes (its constants), and the values the manual leaves open: each an `opaque` constant with
no body, so that nothing can be proved of its value. -/
namespace Sys2Proof

/-! ## Records of the store -/

/-- The records the store holds (R177), each named by its kind and its place among its kind. -/
inductive RecordName where
  | segment (k : Nat)
  | floors
  | flatPage (p : Nat)
  | cardPage (p : Nat)
  | account (a : Nat)
  | slot (m : Nat)
  deriving DecidableEq, Repr

namespace Config

/-! ## Constants of the part -/

/-- Product code of the WL64 (R208). -/
def productCode : Nat := 0x0B40
/-- Start byte of a host frame (R193). -/
def startByte : Byte := 0x7E#8
/-- Requests the receive buffer holds (R195). -/
def bufferSize : Nat := 2
/-- Notices the notice queue holds (R201). -/
def noticeQueueSize : Nat := 32
/-- Where the host link's counters stop (R194, R195, R201). -/
def counterLimit : Nat := 65535
/-- The miss limit (R28). -/
def missLimit : Nat := 3
/-- Charge parts of one session at most (R5). -/
def partLimit : Nat := 4
/-- Longest delay a washer card may ask for, minutes (R8). -/
def delayLimit : Nat := 480
/-- Entries of the damaged list (R94). -/
def damagedSize : Nat := 16
/-- DEFERRED requests that may wait in the payment request queue (R96). -/
def deferredWaiting : Nat := 7
/-- Contexts that may hold requests of the session engine's kinds at once (R96). -/
def sessionContexts : Nat := 7
/-- Entries of the deferred settlement list (R185). -/
def deferredSize : Nat := 64
/-- Entries of the write-back list (R61, R180). -/
def dayListSize : Nat := 8
/-- Transactions the store port's FIFO holds (R179). -/
def storeQueueSize : Nat := 16
/-- Sweeps waiting in the sweep queue (R85). -/
def sweepQueueSize : Nat := 4
/-- Records of the fault log (R165). -/
def faultLogSize : Nat := 80
/-- Longest demand limit, minutes (R152). -/
def demandDurationLimit : Nat := 240
/-- Highest balance of an account, cents (R92). -/
def balanceMax : Int := 999999
/-- Lowest balance of an account, cents (R92). -/
def balanceMin : Int := -10000
/-- Highest overdraft limit, cents (R92). -/
def overdraftMax : Nat := 10000

/-! ## Free values -/

/-- The revision byte of the part: R208 reports it and no rule gives it. DESIGN CHOICE (log entry 7). -/
opaque revision : Byte

/-- Minutes remaining of a running demand limit (R157), before it is brought into 1 to the most that can remain: how much
of the duration has run is a matter of time, which this model does not hold. The argument is the model's free index.
DESIGN CHOICE (log entry 6). -/
opaque demandMinutes : Nat → Nat

/-- Which of the contexts that wait with a deferred entry places it when one leaves the full list (R185), before it is
brought into range: the manual gives no order. The argument is the model's free index.
DESIGN CHOICE (log entry 8). -/
opaque heldContext : Nat → Nat

/-- The status of the reply to a flat-level DIRECTORY_WRITE below an INVALID floor descriptor: no rule states it.
DESIGN CHOICE (log entry 9). -/
opaque orphanFlatStatus : Status

/-- The record number of each record, as bytes: R177 fixes one for each and gives none. DESIGN CHOICE (log entry 15). -/
opaque recordNumber : RecordName → List Byte

/-- The bytes of a record's contents: R177 names the fields and gives no layout. DESIGN CHOICE (log entry 15). -/
opaque recordContents {α : Type} : α → List Byte

/-- The bytes of a master frame from its kind to its payload: R28 gives the fields and no coding. The arguments are the
command, `none` for POLL, and the ack toggle. DESIGN CHOICE (log entry 16). -/
opaque masterCoding : Option NodeCommand → Option Bool → List Byte

end Config
end Sys2Proof
end

