-- ==== Sys2Proof/Machine/State.lean ====
section
/-! DEFINITION. State: every piece of state the manual gives the WL64, block by block, as plain data; the external store's
records; `Fault` and `Refusal`; and `State.reset`, the part right after power-on reset. -/
namespace Sys2Proof.Machine

/-! ## Faults and refusals -/

/-- What stops the machine with a fault. No rule stops the WL64: every command leads to a next state, so there is no
constructor. Safe: nothing is claimed of a stop. -/
inductive Fault where
  deriving DecidableEq, Repr

/-- What the model refuses to run. -/
inductive Refusal where
  /-- A command that has no meaning yet. Raised by `exec` alone, in the arm of that command. Safe: the model stops where
  the part goes on. No arm raises it. -/
  | notModelled (mnemonic : String)
  deriving DecidableEq, Repr

/-! ## Sessions and machine records (chapter 1) -/

/-- Where a part's payer came from (R5, R48). -/
inductive PayerSource where
  | directory
  | window (n : Fin 4)
  deriving DecidableEq, Repr

/-- A charge part (R5, R177): `charge` is C, absent until settlement. -/
structure Part where
  payer : Option AccountNo
  source : PayerSource
  start : Nat
  units : Nat
  price : Nat
  hold : Nat
  charge : Option Nat
  factor : Nat
  band : Fin 4
  surcharged : Bool
  deriving DecidableEq, Repr

/-- The state a session resumes after STRANDED (R4). -/
inductive StrandedFrom where
  | running | delayed
  deriving DecidableEq, Repr

/-- A session record (R4). Machine and class are those of the record that holds it. `allowance` is the overrun allowance
the session took (R16). -/
structure Session where
  id : Nat
  programme : ProgrammeNo
  mode : Mode
  delay : Nat
  units : Nat
  elapsed : Nat
  paused : Nat
  heat : HeatState
  increment : Nat
  finishSent : Bool
  overrunRaised : Bool
  doorFaultRaised : Bool
  strandedFrom : Option StrandedFrom
  parts : List Part
  endCause : Option EndCause
  startDay : Nat
  startMinute : Nat
  allowance : Nat
  deriving DecidableEq, Repr

/-- The one payment request a machine may have in the payment unit (R1). -/
inductive Outstanding where
  | none | authorise | extend | settle | partRelease
  deriving DecidableEq, Repr

/-- The after-settle state (R1), with the lockout code LOCKED_OUT will take (R7). -/
inductive AfterSettle where
  | idle | done | offline
  | lockedOut (code : FaultCode)
  deriving DecidableEq, Repr

/-- The mark of an abandoned authorisation (R1, R9). -/
inductive Abandonment where
  | nodeLoss
  | lockout (code : FaultCode)
  | leak
  deriving DecidableEq, Repr

/-- A machine record (R1) with the session timers of its machine: `armTimer` the seconds tARM was started with,
`graceTimer` the minutes tGRACE was started with, each `none` when the timer does not run. -/
structure MachineRecord where
  room : RoomNo
  cls : MachineClass
  assigned : Bool
  enabled : Bool
  state : MachineState
  lampSent : Lamp
  lockout : Option FaultCode
  session : Option Session
  outstanding : Outstanding
  afterSettle : AfterSettle
  doorOpened : Bool
  lastEnd : Option EndCause
  stoppedId : Nat
  abandoned : Option Abandonment
  armTimer : Option Nat
  minuteTimer : Bool
  graceTimer : Option Nat
  recoveryWindow : Bool
  deriving DecidableEq, Repr

/-- The session engine: the machine records, the session id counter (R2) and the items it owns (R9, R16, R20). -/
structure SessionEngine where
  machines : Vector MachineRecord 64
  idCounter : Nat
  armSeconds : Nat
  overrunMinutes : Nat
  graceMinutes : Nat
  deriving DecidableEq, Repr

/-! ## Machine line (chapter 2) -/

/-- Node link states (2.4). -/
inductive LinkState where
  | disabled | probing | online | silent | lost
  deriving DecidableEq, Repr

/-- A slow timer: it does not run, it runs, or it has expired (R37, R41). -/
inductive SlowTimer where
  | stopped | running | expired
  deriving DecidableEq, Repr

/-- The kind of a report, as the last taken report keeps it (R32). -/
inductive ReportKind where
  | card | startPressed | phase | door | fault | nodeReset
  deriving DecidableEq, Repr

/-- Entry 3 of the pending command table (R34). -/
inductive ArmCommand where
  | enable (id : Nat) (programme : ProgrammeNo) (price : Nat) (mode : Mode)
  | disable (id : Nat)
  deriving DecidableEq, Repr

/-- Entry 6 of the pending command table (R34). -/
inductive HeatCommand where
  | grant (id : Nat)
  | hold (id : Nat)
  deriving DecidableEq, Repr

/-- A node's pending command table (R34): one entry per command kind, in the send order of R36. -/
structure CommandTable where
  stop : Option Nat
  lock : Option Bool
  arm : Option ArmCommand
  go : Option Nat
  finish : Option Nat
  heat : Option HeatCommand
  refuse : Option Reason
  lamp : Option Lamp
  deriving DecidableEq, Repr

/-- A node link record (R37). `ackOwed` is the ack owed flag with its toggle (R33). -/
structure Link where
  state : LinkState
  misses : Nat
  slow : SlowTimer
  silentTimer : Bool
  ackOwed : Option Bool
  lastReport : Option (ReportKind × Bool)
  table : CommandTable
  deriving DecidableEq, Repr

/-- The exchange on the line (R28): the node addressed, the command carried (`none` is a POLL), the ack toggle carried,
and whether its reply is to be discarded because the link became DISABLED (R37). -/
structure Exchange where
  node : MachineNo
  command : Option NodeCommand
  ack : Option Bool
  discard : Bool
  deriving DecidableEq, Repr

/-- The machine line controller (R37, R41). -/
structure LineController where
  links : Vector Link 64
  exchange : Option Exchange
  pointer : MachineNo
  deriving DecidableEq, Repr

/-! ## Card directory (chapter 3) -/

/-- A window's action (R49). -/
inductive WindowAction where
  | free
  | house (account : AccountNo)
  | refuse
  deriving DecidableEq, Repr

/-- An open window (R49); `none` is ANY. -/
structure Window where
  enabled : Bool
  site : Nat
  floorLow : Nat
  floorHigh : Nat
  flat : Option (Fin 16)
  ordinal : Option (Fin 4)
  filter : ClassFilter
  action : WindowAction
  deriving DecidableEq, Repr

/-- A floor descriptor (R54): `page` absent is INVALID, present is TABLE. -/
structure FloorDescriptor where
  page : Option FlatPageNo
  hold : Bool
  deriving DecidableEq, Repr

/-- A flat descriptor (R54). -/
structure FlatDescriptor where
  page : Option CardPageNo
  hold : Bool
  deriving DecidableEq, Repr

/-- A card descriptor (R55). -/
inductive CardDescriptor where
  | invalid
  | account (account : AccountNo) (attributes : Attributes) (hold targeted : Bool) (lastDay : Nat)
  | indirect (target : CardPath) (hold : Bool)
  deriving DecidableEq, Repr

/-- The floor table record (R56). -/
abbrev FloorTable := Vector FloorDescriptor 64
/-- A flat-table page record (R56). -/
abbrev FlatPage := Vector FlatDescriptor 16
/-- A card-table page record (R56). -/
abbrev CardPage := Vector CardDescriptor 4

/-- A path at any level of the directory. -/
inductive DirPath where
  | floor (f : Fin 64)
  | flat (f : Fin 64) (n : Fin 16)
  | card (p : CardPath)
  deriving DecidableEq, Repr

/-- The card directory unit: windows, site code, page pools (free pages, lowest first) and reference counts. -/
structure DirectoryUnit where
  windows : Vector Window 4
  site : Nat
  freeFlats : List FlatPageNo
  freeCards : List CardPageNo
  refs : Vector Nat 1024
  deriving DecidableEq, Repr

/-! ## Authorisation cache (chapter 4) -/

/-- A valid cache entry (R76). The staff marker is the STAFF attribute. -/
structure CacheEntry where
  path : CardPath
  account : AccountNo
  attributes : Attributes
  hold : Bool
  via : Option CardPath
  deriving DecidableEq, Repr

/-- A cache set (R75, R81, R82): its ways (`none` is an invalid entry), its LRU order, least recent first, and its
round-robin pointer. -/
structure CacheSet where
  ways : Vector (Option CacheEntry) 4
  order : List (Fin 4)
  pointer : Fin 4
  deriving DecidableEq, Repr

/-- A sweep: kind and path (R84). -/
inductive Sweep where
  | floor (f : Fin 64)
  | flat (f : Fin 64) (n : Fin 16)
  | via (p : CardPath)
  deriving DecidableEq, Repr

/-- The arbiter's phase (R87). -/
inductive CachePhase where
  | lookup | sweep
  deriving DecidableEq, Repr

/-- An access of the cache array (R87). -/
inductive CacheAccess where
  | lookup | sweep
  deriving DecidableEq, Repr

/-- The authorisation cache. `inFlight` is the sweep in flight with the next set it examines; `access` is the access the
arbiter has chosen, which the array is carrying out. -/
structure Cache where
  sets : Vector CacheSet 8
  mask : Vector Bool 4
  replacement : Replacement
  sweepBurst : Nat
  lookupBurst : Nat
  lookups : List ContextNo
  sweepQueue : List Sweep
  inFlight : Option (Sweep × Fin 8)
  phase : CachePhase
  run : Nat
  access : Option CacheAccess
  deriving DecidableEq, Repr

/-! ## Accounts and payment contexts (chapter 5) -/

/-- An account record (R92). -/
structure Account where
  state : AccountState
  balance : Int
  overdraft : Nat
  held : Nat
  group : Fin 8
  vends : Nat
  lastDay : Nat
  deriving DecidableEq, Repr

/-- An ACCOUNT request's operation, its arguments judged (R114 to R118). -/
inductive AccountOp where
  | opened (overdraft : Nat) (group : Fin 8)
  | read
  | set (state : Option AccountState) (overdraft : Option Nat) (group : Option (Fin 8))
  | setAll (state : AccountState) (balance : Int) (overdraft : Nat) (group : Fin 8) (vends lastDay : Nat)
  | credit (amount : Nat)
  | adjust (amount : Int)
  | close
  deriving DecidableEq, Repr

/-- The descriptor a DIRECTORY_WRITE gives, judged (R62): a kind and HOLD for a floor or flat, or a card descriptor. -/
inductive NewDescriptor where
  | table (isTable hold : Bool)
  | invalid
  | account (account : AccountNo) (attributes : Attributes) (hold : Bool)
  | indirect (target : CardPath) (hold : Bool)
  deriving DecidableEq, Repr

/-- A payment request (R95). A DEFERRED request names its entry by the entry's key; `inSlot` says of a PART_RELEASE that the slot
write of its part was made (R102, R103). -/
inductive PayRequest where
  | authorise (machine : MachineNo) (cls : MachineClass) (card : CardId) (programme : ProgrammeNo) (increments : Nat)
      (id : Nat)
  | extend (machine : MachineNo) (card : CardId) (programme : ProgrammeNo) (increments : Nat) (id : Nat)
  | settle (machine : MachineNo) (id : Nat) (cause : EndCause) (elapsed paused : Nat)
  | partRelease (machine : MachineNo) (id : Nat) (number : Nat) (part : Part) (inSlot : Bool)
  | deferred (key : Nat)
  | probe (card : CardId) (cls : MachineClass)
  | directory (path : DirPath) (write : Option NewDescriptor)
  | account (account : AccountNo) (op : AccountOp)
  deriving DecidableEq, Repr

/-- Where a walk's read in flight is (R57). -/
inductive WalkAt where
  | floor
  | flat (page : FlatPageNo)
  | card (page : CardPageNo)
  deriving DecidableEq, Repr

/-- A walk (R57 to R59, R69): the presented card, the target once an INDIRECT was met, the read in flight, the hold
accumulated so far, the descriptors read since it last began, and whether it was restarted. -/
structure Walk where
  path : CardPath
  cls : MachineClass
  target : Option CardPath
  at_ : WalkAt
  hold : Bool
  reads : List DirPath
  restarted : Bool
  deriving DecidableEq, Repr

/-- The account a resolution reached, with what pricing takes from it (R99, R101). -/
structure Payer where
  account : AccountNo
  attributes : Attributes
  source : PayerSource
  deriving DecidableEq, Repr

/-- The three settings a context takes with a SETTLE request (R133). -/
structure CaptureRules where
  grace : Nat
  allowance : Nat
  credit : Nat
  deriving DecidableEq, Repr

/-- A settlement in a context (R107 to R111): its request, the settings taken, whether the slot is written at the end,
the parts still to settle, and the parts settled with their charges. -/
structure SettleJob where
  machine : MachineNo
  id : Nat
  cause : EndCause
  elapsed : Nat
  paused : Nat
  cls : MachineClass
  programme : ProgrammeNo
  rules : CaptureRules
  writesSlot : Bool
  todo : List Part
  settled : List Part
  deriving DecidableEq, Repr

/-- One part of a deferred entry (R185). `written` says its account write has been made; `inSlot` says of a release that the part
was written to the slot, so that an owed slot write removes it there (R103, R113). DEDUCED (log entry 49). -/
structure DeferredPart where
  number : Nat
  payer : Option AccountNo
  hold : Nat
  charge : Nat
  units : Nat
  release : Bool
  written : Bool
  inSlot : Bool
  deriving DecidableEq, Repr

/-- An entry of the deferred settlement list (R185). `key` is the model's own name for it. DESIGN CHOICE (log
entry 59). -/
structure Deferred where
  key : Nat
  machine : MachineNo
  id : Nat
  parts : List DeferredPart
  slotOwed : Bool
  offered : Bool
  deriving DecidableEq, Repr

/-- What a context in REPLY hands the session engine (R102, R109, R112). `success` says whether its part's slot write was made, or
left out under R103; `settled` carries the lockout code its slot write wrote, when it made one. -/
inductive Handed where
  | success (part : Part) (inSlot : Bool)
  | refused (reason : Reason)
  | settled (parts : List Part) (slotCode : Option (Option FaultCode))
  | released
  deriving DecidableEq, Repr

/-! ### The store's transactions (chapter 9) -/

/-- A part as a machine slot stores it, with its capture mark (R177, R107). -/
structure SlotPart where
  part : Part
  mark : Bool
  deriving DecidableEq, Repr

/-- The session copy of a machine slot (R177). -/
structure SlotCopy where
  id : Nat
  programme : ProgrammeNo
  mode : Mode
  units : Nat
  elapsed : Nat
  paused : Nat
  parts : List SlotPart
  deriving DecidableEq, Repr

/-- A machine slot (R177). -/
structure Slot where
  lockout : Option FaultCode
  copy : Option SlotCopy
  deriving DecidableEq, Repr

/-- A MACHINE item as the configuration block holds it. -/
structure MachineItem where
  room : RoomNo
  cls : MachineClass
  assigned : Bool
  deriving DecidableEq, Repr

/-- A ROOM item as the configuration block holds it. -/
structure RoomItem where
  capacity : Nat
  edge : EdgeSelect
  deriving DecidableEq, Repr

/-- A washer programme (R120). -/
structure WasherProgramme where
  price : Nat
  duration : Nat
  heat : Nat
  deriving DecidableEq, Repr

/-- A dryer programme (R121). -/
structure DryerProgramme where
  price : Nat
  length : Nat
  maximum : Nat
  heat : Nat
  deriving DecidableEq, Repr

/-- A time band (R123). -/
structure Band where
  start : Nat
  factor : Nat
  deriving DecidableEq, Repr

/-- The tariff calculator's tables and settings (R119). -/
structure Tariff where
  washers : Vector WasherProgramme 8
  dryers : Vector DryerProgramme 8
  bands : Vector Band 4
  surcharge : Nat
  discounts : Vector Nat 8
  cap : Nat
  grace : Nat
  allowance : Nat
  credit : Nat
  deriving DecidableEq, Repr

/-- Segment 1 of the configuration block (R206). -/
structure SegmentOne where
  site : Nat
  rooms : Vector RoomItem 4
  machines : Vector MachineItem 64
  deriving DecidableEq, Repr

/-- Segment 3 of the configuration block (R206). -/
structure SegmentThree where
  armSeconds : Nat
  overrunMinutes : Nat
  graceMinutes : Nat
  windows : Vector Window 4
  cache : CacheItem
  mode : Arbitration
  limit : Nat
  high : Nat
  low : Nat
  lamps : LampMap
  mask : NoticeMask
  deriving DecidableEq, Repr

/-- Segment 4 of the configuration block (R206): enables in the bit order of RULES_SET, node severities in code order. -/
structure SegmentFour where
  enables : Vector Bool 8
  severities : Vector Severity 7
  deriving DecidableEq, Repr

/-- A copy of the whole configuration (R206); segment 2 is the tariff calculator's tables and settings. -/
structure ConfigBlock where
  one : SegmentOne
  two : Tariff
  three : SegmentThree
  four : SegmentFour
  deriving DecidableEq, Repr

/-- Records keyed by their place among their kind in one canonical form (see `Fram.wf` in Machine/Memory.lean): places strictly
rising, and every record listed passing its check. A place that is not listed holds a record whose check fails. -/
abbrev RecordMap (α : Type) := List (Nat × α)

/-- A record as it stands in the store: its contents and its check byte (R177). -/
structure Stored (α : Type) where
  contents : α
  check : Byte
  deriving DecidableEq, Repr

/-- The records of the external FRAM, each at its place (R177). A place that is `none` or not listed holds a record whose
check fails: nothing has ever written it, or a write of it was cut short. DESIGN CHOICE (log entry 15). -/
structure Fram where
  one : Option (Stored SegmentOne)
  two : Option (Stored Tariff)
  three : Option (Stored SegmentThree)
  four : Option (Stored SegmentFour)
  floors : Option (Stored FloorTable)
  flatPages : RecordMap (Stored FlatPage)
  cardPages : RecordMap (Stored CardPage)
  accounts : RecordMap (Stored Account)
  slots : RecordMap (Stored Slot)
  deriving DecidableEq, Repr

/-- A day update of the write-back list (R61). -/
structure DayUpdate where
  path : CardPath
  account : AccountNo
  day : Nat
  deriving DecidableEq, Repr

/-- What one transaction does with the memory (R179): record reads, whole-record writes, field updates and conditional
updates, and the probe's status read. -/
inductive Access where
  | readSegment (k : Fin 4)
  | writeOne (c : SegmentOne)
  | writeTwo (c : Tariff)
  | writeThree (c : SegmentThree)
  | writeFour (c : SegmentFour)
  | readFloors
  | writeFloors (t : FloorTable)
  | updateFloor (f : Fin 64) (d : FloorDescriptor)
  | readFlatPage (p : FlatPageNo)
  | writeFlatPage (p : FlatPageNo) (c : FlatPage)
  | updateFlat (p : FlatPageNo) (n : Fin 16) (d : FlatDescriptor)
  | readCardPage (p : CardPageNo)
  | writeCardPage (p : CardPageNo) (c : CardPage)
  | updateCard (p : CardPageNo) (o : Fin 4) (d : CardDescriptor)
  | dayUpdate (u : DayUpdate)
  | readAccount (a : AccountNo)
  | writeAccount (a : AccountNo) (c : Account)
  | readSlot (m : MachineNo)
  | writeSlot (m : MachineNo) (c : Slot)
  /-- The slot append of an EXTEND (R102). -/
  | slotAppend (m : MachineNo) (part : Part)
  /-- The capture marks of a SETTLE: every part that takes an account step (R107). -/
  | slotMarkAll (m : MachineNo)
  /-- The capture mark of a PART_RELEASE, on the released part (R112). -/
  | slotMarkPart (m : MachineNo) (part : Part)
  /-- The slot write of a PART_RELEASE: the parts list and U (R112). -/
  | slotParts (m : MachineNo) (parts : List Part) (units : Nat)
  /-- The conditional removal of a session copy (R113). -/
  | slotRemove (m : MachineNo) (id : Nat)
  /-- The conditional removal of a released part (R113, R185). -/
  | slotRemovePart (m : MachineNo) (id : Nat) (part : DeferredPart)
  /-- A slot refresh (R181). -/
  | slotRefresh (m : MachineNo) (id : Nat) (elapsed paused : Nat)
  /-- A lockout slot update (R181). -/
  | slotLockout (m : MachineNo) (code : Option FaultCode)
  | status
  deriving DecidableEq, Repr

/-- Who issued a transaction (R180). -/
inductive Issuer where
  | context (c : ContextNo)
  | dayList
  | refresher (m : MachineNo) (lockout : Bool)
  | configWriter
  | probe
  | scanner
  deriving DecidableEq, Repr

/-- A store transaction (R179). -/
structure Transaction where
  issuer : Issuer
  access : Access
  deriving DecidableEq, Repr

/-! ### Directory requests in a context (R62 to R70) -/

/-- The read a directory request has in flight (R62, R67, R70). -/
inductive DirAt where
  | floor
  | flat (page : FlatPageNo)
  | card (page : CardPageNo)
  | targetFloor
  | targetFlat (page : FlatPageNo)
  | targetCard (page : CardPageNo)
  | belowFloor (page : FlatPageNo)
  | belowFlat (page : CardPageNo)
  deriving DecidableEq, Repr

/-- A directory request in a context: what it has read of the written path and of the target path. -/
structure DirJob where
  path : DirPath
  write : Option NewDescriptor
  at_ : DirAt
  floor : Option FloorDescriptor
  flat : Option (FlatPageNo × FlatPage)
  card : Option (CardPageNo × CardPage)
  targetCard : Option (CardPageNo × CardPage)
  belowFloor : Option FlatPage
  belowFlat : Option CardPage
  locks : List AccountNo
  deriving DecidableEq, Repr

/-- What the completion of a directory write's store write does besides the stale marking (R66 to R68). -/
inductive DirEffect where
  | plain
  /-- The write by which the written card descriptor takes effect. -/
  | card
  | freeCardPage (p : CardPageNo)
  | freeFlatPage (p : FlatPageNo)
  /-- A HOLD change on a TABLE descriptor. -/
  | sweep (w : Sweep)
  deriving DecidableEq, Repr

/-- One store write of phase 3: the access, the path it writes and its effect. -/
structure DirWrite where
  access : Access
  path : DirPath
  effect : DirEffect
  deriving DecidableEq, Repr

/-- Phase 3 of a directory write: the writes left (the first is in flight), the account that loses a card, the one that
gains it, whether a VIA sweep follows, the written path, and the locks held. -/
structure DirWrites where
  path : DirPath
  writes : List DirWrite
  loses : Option AccountNo
  gains : Option AccountNo
  viaSweep : Bool
  locks : List AccountNo
  deriving DecidableEq, Repr

/-- What a payment context is doing: the step it is in and what it carries there. `Stage.state` in Machine/Contexts.lean
gives the state of R97. -/
inductive Stage where
  | free
  | lookup
  | walk (w : Walk)
  | holdLock (p : Payer)
  | holdRead (p : Payer)
  | holdWrite (p : Payer) (part : Part)
  | holdSlot (part : Part)
  | settleSlotRead (rules : CaptureRules)
  | settleMark (j : SettleJob)
  | settleLock (j : SettleJob)
  | settleRead (j : SettleJob)
  | settleWrite (j : SettleJob) (charge : Nat)
  | settleSlot (j : SettleJob) (code : Option FaultCode)
  | releaseMark
  | releaseLock
  | releaseRead
  | releaseWrite
  | releaseSlot
  | deferredLock (d : Deferred)
  | deferredRead (d : Deferred)
  | deferredWrite (d : Deferred)
  | deferredSlot (d : Deferred)
  | dirRead (j : DirJob)
  | dirLock (j : DirJob) (wanted : List AccountNo)
  | dirAccount (j : DirJob)
  | dirWrite (w : DirWrites)
  | accountLock
  | accountRead
  | accountWrite (record : Account) (previous : Int)
  | reply (h : Handed) (entry : Option Deferred)
  deriving DecidableEq, Repr

/-- A payment context (R97): its request, its step and its stale mark (R69). -/
structure Context where
  request : Option PayRequest
  stage : Stage
  stale : Bool
  deriving DecidableEq, Repr

/-- An entry of the account lock list (R98). -/
structure LockEntry where
  account : AccountNo
  holder : ContextNo
  waiters : List ContextNo
  deriving DecidableEq, Repr

/-- The payment unit. -/
structure PaymentUnit where
  queue : List PayRequest
  contexts : Vector Context 8
  locks : List LockEntry
  damaged : List AccountNo
  deriving DecidableEq, Repr

/-! ## Feeder budget (chapter 7) -/

/-- A machine with its load, in a grant list or a queue (R138). -/
structure Claim where
  machine : MachineNo
  load : Nat
  deriving DecidableEq, Repr

/-- A room's turn (R138). -/
inductive Turn where
  | new | resume
  deriving DecidableEq, Repr

/-- The feeder budget unit's state of one room (R138). The granted load is the sum of the grant list (R146). -/
structure RoomFeeder where
  capacity : Nat
  grants : List Claim
  newQueue : List Claim
  resumeQueue : List Claim
  turn : Turn
  deriving DecidableEq, Repr

/-- An active demand limit, and its timer as the most whole minutes that can remain: the duration it was last started with, and
after a BUDGET_QUERY the minutes it reported, for the timer only counts down (R138, R152, R153). DESIGN CHOICE (log entry 6). -/
structure Demand where
  limit : Nat
  left : Nat
  deriving DecidableEq, Repr

/-- The feeder budget unit (R138). `order` is the building grant order. -/
structure Feeder where
  rooms : Vector RoomFeeder 4
  order : List MachineNo
  limit : Nat
  mode : Arbitration
  demand : Option Demand
  pointer : RoomNo
  backlog : Bool
  high : Nat
  low : Nat
  heaterFault : Vector Bool 64
  deriving DecidableEq, Repr

/-! ## Fault supervisor (chapter 8) -/

/-- The source of a fault record (R165). -/
inductive Source where
  | machine (m : MachineNo)
  | room (r : RoomNo)
  | part
  deriving DecidableEq, Repr

/-- The reference of a fault record (R165, 10.5). -/
inductive Reference where
  | none
  | session (id : Nat)
  | account (a : AccountNo)
  | machine (m : MachineNo)
  deriving DecidableEq, Repr

/-- A fault record (R165). -/
structure FaultRecord where
  sequence : Nat
  day : Nat
  minute : Nat
  source : Source
  code : FaultCode
  severity : Severity
  reference : Reference
  charge : Option Nat
  acknowledged : Bool
  deriving DecidableEq, Repr

/-- One room's leak input, valve output and closure (R172, R173). Levels: `true` is high. DEDUCED (log entry 67). -/
structure RoomGuard where
  edge : EdgeSelect
  input : Bool
  filtered : Bool
  debounce : Bool
  closed : Bool
  valveOpen : Bool
  closing : Option Nat
  deriving DecidableEq, Repr

/-- The fault supervisor. `locking` and `ending` hold sequence numbers of each machine's locking record (R162) and of its
session's ending record (R163). The pending sets are read off the log (R168). -/
structure Supervisor where
  enables : Vector Bool 8
  severities : Vector Severity 7
  ruleLock : Bool
  log : List FaultRecord
  counter : Nat
  locking : Vector (Option Nat) 64
  ending : Vector (Option Nat) 64
  rooms : Vector RoomGuard 4
  deriving DecidableEq, Repr

/-! ## Host link (chapter 10) -/

/-- A frame: type, tag and payload (R193). -/
structure Frame where
  type : Byte
  tag : Byte
  payload : List Byte
  deriving DecidableEq, Repr

/-- The receiver's state (R194), with what it has taken of the frame: in BODY the length byte and the bytes after it,
in the order they came. -/
inductive Receiver where
  | hunt
  | length
  | body (length : Byte) (taken : List Byte)
  deriving DecidableEq, Repr

/-- The cause of a DEMAND_END notice (R152, R153). -/
inductive DemandEndCause where
  | ended | expired
  deriving DecidableEq, Repr

/-- Store states (R182, R187). -/
inductive StoreState where
  | up | down | noStore
  deriving DecidableEq, Repr

/-- Start-up states (11.3). -/
inductive StartUpState where
  | starting | scanning | recovering | ready | notConfigured | noStore
  deriving DecidableEq, Repr

/-- Notices (10.4, 10.6). -/
inductive Notice where
  | sessionArmed (machine : MachineNo) (id : Nat) (mode : Mode) (programme : ProgrammeNo) (units : Nat)
      (part : Option Part)
  | sessionStarted (machine : MachineNo) (id : Nat) (mode : Mode) (day minute : Nat)
  | sessionEnded (machine : MachineNo) (id : Nat) (mode : Mode) (cause : Option EndCause) (elapsed paused : Nat)
      (parts : List Part)
  | refusal (machine : MachineNo) (card : CardId) (reason : Reason)
  | unknownCard (machine : MachineNo) (card : CardId) (level : Level)
  | fault (record : FaultRecord) (pending : Nat)
  | backlog (on : Bool) (waiting : Nat)
  | demandEnd (cause : DemandEndCause) (limit : Nat)
  | store (state : StoreState) (deferred : Nat)
  | startUp (state : StartUpState) (store : StoreState)
  | overrun (count : Nat)
  deriving DecidableEq, Repr

/-- The host link unit (R194 to R201). `sending` is the frame the transmitter is sending. -/
structure HostLink where
  receiver : Receiver
  linkErrors : Nat
  dropped : Nat
  overruns : Nat
  buffer : List Frame
  ready : Option Frame
  sending : Option Frame
  notices : List Notice
  mask : NoticeMask
  deriving DecidableEq, Repr

/-! ## Store port and start-up (chapters 9 and 11) -/

/-- A CONFIG_SAVE in progress (R206): the copy and the segment being written. -/
structure Saving where
  block : ConfigBlock
  segment : Fin 4
  deriving DecidableEq, Repr

/-- The store port (R179 to R186). -/
structure StorePort where
  state : StoreState
  queue : List Transaction
  probeTimer : Bool
  dayList : List DayUpdate
  deferred : List Deferred
  nextKey : Nat
  refreshMarks : Vector Bool 64
  lockoutMarks : Vector Bool 64
  pointer : MachineNo
  saving : Option Saving
  deriving DecidableEq, Repr

/-- A page the directory pass has still to reach, with the descriptor that names it (R188). -/
inductive ScanPage where
  | flat (f : Fin 64) (hold : Bool) (page : FlatPageNo)
  | card (f : Fin 64) (inPage : FlatPageNo) (n : Fin 16) (hold : Bool) (page : CardPageNo)
  deriving DecidableEq, Repr

/-- Where the start-up scan is: the transaction it waits for (R187 to R190). -/
inductive ScanAt where
  | off
  | segment (k : Fin 4)
  | floors
  | floorsRepair
  | page (p : ScanPage) (rest : List ScanPage)
  | pageRepair (p : ScanPage) (rest : List ScanPage)
  | slot (m : MachineNo)
  | slotRepair (m : MachineNo)
  | account (a : AccountNo)
  | accountWrite (a : AccountNo)
  | slotWrite (m : MachineNo)
  deriving DecidableEq, Repr

/-- The start-up scan: where it is, the segments read, the pages reached, the slots read with a session (the on-chip
sums are sums over these), and the machines whose slot holds a detached part (R187 to R190). -/
structure Scan where
  at_ : ScanAt
  one : Option SegmentOne
  two : Option Tariff
  three : Option SegmentThree
  usedFlats : List FlatPageNo
  usedCards : List CardPageNo
  slots : List (MachineNo × Slot)
  changed : List MachineNo
  deriving DecidableEq, Repr

/-- The timebase (R207). The point within the current minute is not held: no command shows it.
DESIGN CHOICE (log entry 10). -/
structure Timebase where
  minute : Nat
  day : Nat
  clockSet : Bool
  deriving DecidableEq, Repr

/-- The machine: the part's blocks, the external store's records, the commands waiting for the part (`pending`, first in,
first out), whether power is applied, and the index from which the next free value is taken (the model's own).
DEDUCED (log entry 65). -/
structure State where
  powered : Bool
  startUp : StartUpState
  clock : Timebase
  host : HostLink
  line : LineController
  engine : SessionEngine
  directory : DirectoryUnit
  cache : Cache
  payment : PaymentUnit
  tariff : Tariff
  feeder : Feeder
  supervisor : Supervisor
  lamps : LampMap
  store : StorePort
  scan : Scan
  fram : Fram
  freeIndex : Nat
  pending : List Instr
  deriving DecidableEq, Repr

/-! ## Reset values -/

/-- The default LAMP map (R44). -/
def LampMap.initial : LampMap where
  available := ⟨.on, false⟩
  armed := ⟨.fast, false⟩
  inUse := ⟨.slow, false⟩
  heatHold := ⟨.slow, true⟩
  done := ⟨.fast, true⟩
  outOfOrder := ⟨.off, false⟩

/-- The notice mask that selects all (R200). -/
def NoticeMask.all : NoticeMask :=
  ⟨true, true, true, true, true, true, true, true, true, true, true⟩

/-- A machine record after reset, before the scan (R2): UNASSIGNED, node enabled flag set (R37), lamp OFF without invert
(R45). Room 0 and class WASHER of an unassigned machine, and an after-settle state nothing has set, are a DESIGN CHOICE
(log entry 4). -/
def MachineRecord.initial : MachineRecord where
  room := 0
  cls := .washer
  assigned := false
  enabled := true
  state := .unassigned
  lampSent := ⟨.off, false⟩
  lockout := none
  session := none
  outstanding := .none
  afterSettle := .done
  doorOpened := false
  lastEnd := none
  stoppedId := 0
  abandoned := none
  armTimer := none
  minuteTimer := false
  graceTimer := none
  recoveryWindow := false

/-- The session engine after reset, with the defaults of R9, R16 and R20. -/
def SessionEngine.initial : SessionEngine where
  machines := Vector.replicate 64 MachineRecord.initial
  idCounter := 0
  armSeconds := 90
  overrunMinutes := 15
  graceMinutes := 10

/-- The empty pending command table (R34). -/
def CommandTable.empty : CommandTable := ⟨none, none, none, none, none, none, none, none⟩

/-- A node link record as entry to DISABLED leaves it (R37). -/
def Link.initial : Link := ⟨.disabled, 0, .stopped, false, none, none, CommandTable.empty⟩

/-- The machine line controller after reset: every link DISABLED with its slow timer expired (R37, R41). -/
def LineController.initial : LineController :=
  ⟨Vector.replicate 64 { Link.initial with slow := .expired }, none, 0⟩

/-- An open window's default (R49). -/
def Window.initial : Window := ⟨false, 0, 0, 63, none, none, .any, .refuse⟩

/-- The card directory unit before the scan: default windows and site, empty pools, counts 0 (R49, R53, R71, R72). -/
def DirectoryUnit.initial : DirectoryUnit :=
  ⟨Vector.replicate 4 Window.initial, 0, [], [], Vector.replicate 1024 0⟩

/-- A cache set after reset (R75, R81, R82). -/
def CacheSet.initial : CacheSet := ⟨Vector.replicate 4 none, [0, 1, 2, 3], 0⟩

/-- The cache after reset with the defaults of R83 (R75, R77, R85, R87). -/
def Cache.initial : Cache where
  sets := Vector.replicate 8 CacheSet.initial
  mask := Vector.replicate 4 true
  replacement := .lru
  sweepBurst := 2
  lookupBurst := 4
  lookups := []
  sweepQueue := []
  inFlight := none
  phase := .lookup
  run := 0
  access := none

/-- A FREE payment context (R97). -/
def Context.initial : Context := ⟨none, .free, false⟩

/-- The payment unit after reset (R94, R96, R97, R98). -/
def PaymentUnit.initial : PaymentUnit := ⟨[], Vector.replicate 8 Context.initial, [], []⟩

/-- The tariff calculator's defaults (R120, R121, R123, R125 to R127, R133). -/
def Tariff.initial : Tariff where
  washers := Vector.replicate 8 ⟨0, 30, 0⟩
  dryers := Vector.replicate 8 ⟨0, 10, 1, 0⟩
  bands := Vector.replicate 4 ⟨0, 1000⟩
  surcharge := 0
  discounts := Vector.replicate 8 0
  cap := 2500
  grace := 5
  allowance := 20
  credit := 100

/-- A room of the feeder budget unit after reset (R138, R139). -/
def RoomFeeder.initial : RoomFeeder := ⟨100, [], [], [], .resume⟩

/-- The feeder budget unit after reset with the defaults of R139 and R140 (R138). -/
def Feeder.initial : Feeder where
  rooms := Vector.replicate 4 RoomFeeder.initial
  order := []
  limit := 300
  mode := .resumeFirst
  demand := none
  pointer := 0
  backlog := false
  high := 8
  low := 2
  heaterFault := Vector.replicate 64 false

/-- A room's guard after reset, before sampling: valve CLOSED, room open, edge OFF (R172, R176). The filtered level
before the sampling is a DESIGN CHOICE (log entry 5). -/
def RoomGuard.initial : RoomGuard := ⟨.off, false, false, false, false, false, none⟩

/-- Default node severities, in code order (R159). -/
def defaultSeverities : Vector Severity 7 :=
  #v[.lockout, .stop, .lockout, .lockout, .lockout, .lockout, .note]

/-- The fault supervisor after power-on reset (R159, R161, R165, R168, R176). -/
def Supervisor.initial : Supervisor where
  enables := Vector.replicate 8 true
  severities := defaultSeverities
  ruleLock := false
  log := []
  counter := 0
  locking := Vector.replicate 64 none
  ending := Vector.replicate 64 none
  rooms := Vector.replicate 4 RoomGuard.initial

/-- The store port as the scan begins (R179 to R186, R209): UP, and the scanner's first read in the FIFO (R187). -/
def StorePort.initial : StorePort where
  state := .up
  queue := [⟨.scanner, .readSegment 0⟩]
  probeTimer := false
  dayList := []
  deferred := []
  nextKey := 0
  refreshMarks := Vector.replicate 64 false
  lockoutMarks := Vector.replicate 64 false
  pointer := 0
  saving := none

/-- The scan as it begins: segment 1 is being read (R187). -/
def Scan.initial : Scan := ⟨.segment 0, none, none, none, [], [], [], []⟩

/-- The host link unit as the scan begins (R198, R209): the START_UP notice of STARTING has begun on the idle transmitter
(R199), and the one of SCANNING waits. -/
def HostLink.initial : HostLink where
  receiver := .hunt
  linkErrors := 0
  dropped := 0
  overruns := 0
  buffer := []
  ready := none
  sending := some ⟨0x47#8, 0#8, [0#8, 0#8]⟩
  notices := [.startUp .scanning .up]
  mask := NoticeMask.all

/-- A store nothing has written: every record's check fails (log entry 3). -/
def Fram.blank : Fram := ⟨none, none, none, none, none, [], [], [], []⟩

/-- The machine right after power-on reset with an unwritten store: every block at its reset values, the part past
STARTING and SCANNING (R209), and no command waiting. -/
def State.reset : State where
  powered := true
  startUp := .scanning
  clock := ⟨0, 0, false⟩
  host := HostLink.initial
  line := LineController.initial
  engine := SessionEngine.initial
  directory := DirectoryUnit.initial
  cache := Cache.initial
  payment := PaymentUnit.initial
  tariff := Tariff.initial
  feeder := Feeder.initial
  supervisor := Supervisor.initial
  lamps := LampMap.initial
  store := StorePort.initial
  scan := Scan.initial
  fram := Fram.blank
  freeIndex := 0
  pending := []

end Sys2Proof.Machine
end

