-- ==== Sys2Proof/Machine/Ops.lean ====
section
/-! DEFINITION. The named operations over the state's tables and blocks that every other operation is written with. -/
namespace Sys2Proof.Machine

/-! ## Tables -/

/-- The entry at `i` of a table. -/
def look {α : Type} {n : Nat} (v : Vector α n) (i : Fin n) : α := v[i.1]

/-- A table with the entry at `i` changed by `f`. -/
def update {α : Type} {n : Nat} (v : Vector α n) (i : Fin n) (f : α → α) : Vector α n :=
  v.set i.1 (f (look v i))

/-- The numbers 0 to `n - 1` as table indexes. -/
def indexes (n : Nat) : List (Fin n) := List.finRange n

/-- The index a number names, when it names one: how a numeric operand of a request is judged. -/
def index? (n k : Nat) : Option (Fin n) := if h : k < n then some ⟨k, h⟩ else none

/-- The first index at or after `start`, counting upward and wrapping, that satisfies `p`: the rule of the line arbiter
(R41) and of the slot refresher (R181). -/
def firstFrom {n : Nat} (start : Fin n) (p : Fin n → Bool) : Option (Fin n) :=
  ((indexes n).filter (start ≤ ·) ++ (indexes n).filter (· < start)).find? p

/-- The index after `i`, with the last followed by 0. -/
def next {n : Nat} (i : Fin n) : Fin n :=
  if h : i.1 + 1 < n then ⟨i.1 + 1, h⟩ else ⟨0, Nat.lt_of_le_of_lt (Nat.zero_le _) i.2⟩

/-- A counter that stops at 65535 (R194, R195, R201). -/
def countUp (n : Nat) : Nat := if n < Config.counterLimit then n + 1 else n

/-! ## Machine records -/

/-- Machine record `m`. -/
def State.machine (s : State) (m : MachineNo) : MachineRecord := look s.engine.machines m

/-- The state with machine record `m` changed by `f`. -/
def State.modMachine (s : State) (m : MachineNo) (f : MachineRecord → MachineRecord) : State :=
  { s with engine := { s.engine with machines := update s.engine.machines m f } }

/-- The session of machine `m`, if it has one. -/
def State.session (s : State) (m : MachineNo) : Option Session := (s.machine m).session

/-- The state with the session of machine `m`, if any, changed by `f`. -/
def State.modSession (s : State) (m : MachineNo) (f : Session → Session) : State :=
  s.modMachine m fun r => { r with session := r.session.map f }

/-! ## Node links, rooms, contexts -/

/-- Node link record `m`. -/
def State.link (s : State) (m : MachineNo) : Link := look s.line.links m

/-- The state with link record `m` changed by `f`. -/
def State.modLink (s : State) (m : MachineNo) (f : Link → Link) : State :=
  { s with line := { s.line with links := update s.line.links m f } }

/-- Room `r`'s leak input, valve and closure. -/
def State.guard (s : State) (r : RoomNo) : RoomGuard := look s.supervisor.rooms r

/-- The state with room `r`'s guard changed by `f`. -/
def State.modGuard (s : State) (r : RoomNo) (f : RoomGuard → RoomGuard) : State :=
  { s with supervisor := { s.supervisor with rooms := update s.supervisor.rooms r f } }

/-- Payment context `c`. -/
def State.context (s : State) (c : ContextNo) : Context := look s.payment.contexts c

/-- The state with context `c` changed by `f`. -/
def State.modContext (s : State) (c : ContextNo) (f : Context → Context) : State :=
  { s with payment := { s.payment with contexts := update s.payment.contexts c f } }

/-- Context `c` goes to step `g`. -/
def State.stage (s : State) (c : ContextNo) (g : Stage) : State :=
  s.modContext c fun x => { x with stage := g }

/-- Context `c` becomes FREE, holding nothing (R97). -/
def State.freeContext (s : State) (c : ContextNo) : State := s.modContext c fun _ => Context.initial

/-- A payment request joins the tail of the payment request queue (R96). -/
def State.enqueue (s : State) (q : PayRequest) : State :=
  { s with payment := { s.payment with queue := s.payment.queue ++ [q] } }

/-! ## Store and start-up -/

/-- Whether the store is UP. -/
def State.storeUp (s : State) : Bool := s.store.state == .up

/-- A transaction joins the store port's FIFO (R179). Issued only while the store is UP (R183). -/
def State.issue (s : State) (i : Issuer) (a : Access) : State :=
  { s with store := { s.store with queue := s.store.queue ++ [⟨i, a⟩] } }

/-- Whether the part is in STARTING or SCANNING, when only IDENTIFY and CLOCK_SET are served (R196). -/
def State.startingUp (s : State) : Bool := s.startUp == .starting || s.startUp == .scanning

/-- Whether the part has come up NOT_CONFIGURED. -/
def State.notConfigured (s : State) : Bool := s.startUp == .notConfigured

/-- The next free value's index is used up. -/
def State.useFree (s : State) : State := { s with freeIndex := s.freeIndex + 1 }

/-- Run `f` over a list of things, first to last. -/
def forEach {α : Type} (xs : List α) (f : α → State → State) (s : State) : State :=
  xs.foldl (fun t x => f x t) s

end Sys2Proof.Machine
end

