-- ==== Sys2Proof/Machine/Checks.lean ====
section
/-! DEFINITION. The check codes: the CRC-16 of host frames (R193) and the CRC-8 of machine line frames (R28, R29) and of the store's records (R177), each
computed most significant bit first with no final inversion. -/
namespace Sys2Proof.Machine

/-- `n` shifts of the CRC-16 register with polynomial 0x1021. -/
def crc16Shift : Nat → BitVec 16 → BitVec 16
  | 0, c => c
  | n + 1, c => crc16Shift n (if c.msb then (c <<< 1) ^^^ 0x1021#16 else c <<< 1)

/-- The CRC-16 register after one byte. -/
def crc16Byte (c : BitVec 16) (b : Byte) : BitVec 16 := crc16Shift 8 (c ^^^ (b.zeroExtend 16 <<< 8))

/-- The check of a host frame over its length, type, tag and payload: initial value 0xFFFF (R193). -/
def crc16 (bytes : List Byte) : BitVec 16 := bytes.foldl crc16Byte 0xFFFF#16

/-- The two check bytes, high byte first (R193). -/
def crc16Bytes (bytes : List Byte) : List Byte :=
  [(crc16 bytes >>> 8).truncate 8, (crc16 bytes).truncate 8]

/-- `n` shifts of the CRC-8 register with polynomial x⁸+x²+x+1. -/
def crc8Shift : Nat → BitVec 8 → BitVec 8
  | 0, c => c
  | n + 1, c => crc8Shift n (if c.msb then (c <<< 1) ^^^ 0x07#8 else c <<< 1)

/-- The check byte of a machine line frame and of a store record: initial value 0 (R28, R29, R177). -/
def crc8 (bytes : List Byte) : Byte := bytes.foldl (fun c b => crc8Shift 8 (c ^^^ b)) 0#8

end Sys2Proof.Machine
end

