-- ==== Sys2Proof/Machine/Codes.lean ====
section
/-! DEFINITION. The encodings of 10.5: numbers as bytes, and the code of every enumeration, outward and, where a request
carries it, inward. -/

namespace Sys2Proof

/-! ## Enumerations of the commands (10.5) -/

/-- Code of a class. -/
def MachineClass.code : MachineClass → Nat
  | .washer => 0
  | .dryer => 1

/-- Class of a code. -/
def MachineClass.ofCode : Nat → Option MachineClass
  | 0 => some .washer
  | 1 => some .dryer
  | _ => none

/-- Code of a machine state. -/
def MachineState.code : MachineState → Nat
  | .unassigned => 0 | .offline => 1 | .recovering => 2 | .idle => 3 | .authorising => 4 | .armed => 5
  | .delayed => 6 | .running => 7 | .stranded => 8 | .settling => 9 | .done => 10 | .lockedOut => 11

/-- Code of a mode. -/
def Mode.code : Mode → Nat
  | .immediate => 0 | .delayed => 1 | .service => 2 | .unbilled => 3

/-- Code of a heat state. -/
def HeatState.code : HeatState → Nat
  | .none => 0 | .waiting => 1 | .granted => 2 | .withdrawn => 3

/-- Code of an end cause; 0 is absent. -/
def EndCause.code : Option EndCause → Nat
  | none => 0 | some .completed => 1 | some .aborted => 2 | some .armExpired => 3 | some (.fault _) => 4

/-- Code of a severity. -/
def Severity.code : Severity → Nat
  | .note => 0 | .stop => 1 | .lockout => 2 | .room => 3

/-- Severity of a code. -/
def Severity.ofCode : Nat → Option Severity
  | 0 => some .note
  | 1 => some .stop
  | 2 => some .lockout
  | 3 => some .room
  | _ => none

/-- Position of a node code among the seven, 0 first (R159). -/
def NodeFault.index : NodeFault → Fin 7
  | .doorLock => 0 | .noWater => 1 | .drain => 2 | .heater => 3 | .motor => 4 | .overheat => 5 | .imbalance => 6

/-- Code of a fault. -/
def FaultCode.code : FaultCode → Nat
  | .node f => f.index.1 + 1
  | .nodeLost => 16 | .overrun => 17 | .doorOpenRunning => 18 | .heatWithoutGrant => 19 | .leak => 20
  | .powerInterrupt => 21 | .storeDamaged => 22 | .storeRepair => 23 | .foreignRun => 24 | .operatorLock => 25
  | .restoredLockout => 26 | .leakCleared => 27

/-- The fault of an end cause, if it has one. -/
def EndCause.fault? : Option EndCause → Option FaultCode
  | some (.fault c) => some c
  | _ => none

/-- Code of an account state. -/
def AccountState.code : AccountState → Nat
  | .free => 0 | .opened => 1 | .suspended => 2

/-- Account state of a code. -/
def AccountState.ofCode : Nat → Option AccountState
  | 0 => some .free
  | 1 => some .opened
  | 2 => some .suspended
  | _ => none

/-- Code of a descriptor kind. -/
def DescriptorKind.code : DescriptorKind → Nat
  | .invalid => 0 | .table => 1 | .account => 2 | .indirect => 3

/-- Descriptor kind of a code. -/
def DescriptorKind.ofCode : Nat → Option DescriptorKind
  | 0 => some .invalid
  | 1 => some .table
  | 2 => some .account
  | 3 => some .indirect
  | _ => none

/-- Code of a level. -/
def Level.code : Level → Nat
  | .floor => 1 | .flat => 2 | .card => 3

/-- Level of a code. -/
def Level.ofCode : Nat → Option Level
  | 1 => some .floor
  | 2 => some .flat
  | 3 => some .card
  | _ => none

/-- Code of a class filter. -/
def ClassFilter.code : ClassFilter → Nat
  | .any => 0 | .washers => 1 | .dryers => 2

/-- Class filter of a code. -/
def ClassFilter.ofCode : Nat → Option ClassFilter
  | 0 => some .any
  | 1 => some .washers
  | 2 => some .dryers
  | _ => none

/-- Code of an edge select. -/
def EdgeSelect.code : EdgeSelect → Nat
  | .off => 0 | .rising => 1 | .falling => 2

/-- Edge select of a code. -/
def EdgeSelect.ofCode : Nat → Option EdgeSelect
  | 0 => some .off
  | 1 => some .rising
  | 2 => some .falling
  | _ => none

/-- Code of an arbitration mode. -/
def Arbitration.code : Arbitration → Nat
  | .resumeFirst => 0 | .alternate => 1

/-- Arbitration mode of a code. -/
def Arbitration.ofCode : Nat → Option Arbitration
  | 0 => some .resumeFirst
  | 1 => some .alternate
  | _ => none

/-- Code of a replacement policy. -/
def Replacement.code : Replacement → Nat
  | .lru => 0 | .roundRobin => 1

/-- Replacement policy of a code. -/
def Replacement.ofCode : Nat → Option Replacement
  | 0 => some .lru
  | 1 => some .roundRobin
  | _ => none

/-- Code of a lamp pattern. -/
def LampPattern.code : LampPattern → Nat
  | .off => 0 | .on => 1 | .slow => 2 | .fast => 3

/-- Lamp pattern of a code. -/
def LampPattern.ofCode : Nat → Option LampPattern
  | 0 => some .off
  | 1 => some .on
  | 2 => some .slow
  | 3 => some .fast
  | _ => none

/-- Code of a status. -/
def Status.code : Status → Nat
  | .ok => 0x00 | .unknownRequest => 0x01 | .badArgument => 0x02 | .notReady => 0x03 | .busy => 0x04
  | .refusedState => 0x05 | .locked => 0x06 | .notAcknowledged => 0x07 | .full => 0x08 | .notEmpty => 0x09
  | .notFound => 0x0A | .storeUnavailable => 0x0B | .limit => 0x0C

/-- Code of a refusal reason. -/
def Reason.code : Reason → Nat
  | .insufficient => 1 | .suspended => 2 | .accountClosed => 3 | .accountDamaged => 4 | .unknownSite => 5
  | .unknownCard => 6 | .windowRefused => 7 | .classNotAllowed => 8 | .storeUnavailable => 9
  | .programmeInvalid => 10 | .outOfOrder => 11 | .roomClosed => 12 | .machineBusy => 13 | .partLimit => 14
  | .armExpired => 15

/-- The request code of a host request (10.6). -/
def Request.code : Request → Nat
  | .identify => 0x01
  | .configSet _ => 0x02
  | .configGet _ _ => 0x03
  | .configSave => 0x04
  | .clockSet _ _ => 0x05
  | .reset => 0x06
  | .machineQuery _ => 0x10
  | .serviceStart _ _ _ | .abort _ | .lock _ | .lockoutClear _ | .nodeEnable _ | .nodeDisable _ => 0x11
  | .directoryWrite _ _ => 0x18
  | .directoryRead _ => 0x19
  | .cardProbe _ _ => 0x1A
  | .accountOpen _ _ _ => 0x20
  | .accountRead _ => 0x21
  | .accountSet _ _ _ _ | .accountSetAll _ _ => 0x22
  | .accountCredit _ _ => 0x23
  | .accountAdjust _ _ => 0x24
  | .accountClose _ => 0x25
  | .cacheFlush _ => 0x28
  | .demandSet _ _ => 0x29
  | .budgetQuery => 0x2A
  | .faultRead _ _ => 0x30
  | .faultAck _ => 0x31
  | .rulesSet _ => 0x32
  | .rulesLock => 0x33
  | .valveOpen _ => 0x34

end Sys2Proof

namespace Sys2Proof.Machine

/-! ## Numbers (R203) -/

/-- A one-byte number. -/
def u8 (n : Nat) : List Byte := [Byte.ofNat n]

/-- A two-byte number, high byte first. -/
def u16 (n : Nat) : List Byte := [Byte.ofNat (n / 256), Byte.ofNat n]

/-- A four-byte number, high byte first. -/
def u32 (n : Nat) : List Byte :=
  [Byte.ofNat (n / 16777216), Byte.ofNat (n / 65536), Byte.ofNat (n / 256), Byte.ofNat n]

/-- A signed four-byte number in two's complement. -/
def i32 (z : Int) : List Byte := u32 (z % 4294967296).toNat

/-- A yes/no field. -/
def yesNo (b : Bool) : List Byte := u8 b.toNat

/-- The number two bytes give. -/
def get16 (a b : Nat) : Nat := a * 256 + b

/-- The number four bytes give. -/
def get32 (a b c d : Nat) : Nat := ((a * 256 + b) * 256 + c) * 256 + d

/-- The signed number four bytes give. -/
def getI32 (a b c d : Nat) : Int :=
  let n := get32 a b c d
  if n < 2147483648 then (n : Int) else (n : Int) - 4294967296

/-- A yes/no field's value; any other byte is outside its list. DEDUCED (log entry 17). -/
def getYesNo : Nat → Option Bool
  | 0 => some false
  | 1 => some true
  | _ => none

/-- Bit `i` of a byte given as a number. -/
def bit (n i : Nat) : Bool := n / 2 ^ i % 2 == 1

/-- The number whose bit `i` is the `i`th entry. -/
def ofBits : List Bool → Nat
  | [] => 0
  | b :: rest => b.toNat + 2 * ofBits rest

/-! ## Enumerations of the state (10.5) -/

/-- Code of an outstanding request. -/
def Outstanding.code : Outstanding → Nat
  | .none => 0 | .authorise => 1 | .extend => 2 | .settle => 3 | .partRelease => 4

/-- Code of a lockout code or of an end cause's fault; 0 is none. -/
def faultCode : Option FaultCode → Nat
  | none => 0
  | some c => c.code

/-- Code of a store state. -/
def StoreState.code : StoreState → Nat
  | .up => 0 | .down => 1 | .noStore => 2

/-- Code of a start-up state. -/
def StartUpState.code : StartUpState → Nat
  | .starting => 0 | .scanning => 1 | .recovering => 2 | .ready => 3 | .notConfigured => 4 | .noStore => 5

/-- Code of a turn. -/
def Turn.code : Turn → Nat
  | .new => 0 | .resume => 1

/-- Code of a demand end cause. -/
def DemandEndCause.code : DemandEndCause → Nat
  | .ended => 0 | .expired => 1

end Sys2Proof.Machine
end

