-- ==== Sys2Proof/Machine/Memory.lean ====
section
/-! DEFINITION. The external store: its record maps in canonical form, and what one transaction's access does with its
records (R177 to R179). -/
namespace Sys2Proof.Machine

/-! ## Record maps -/

/-- What stands at place `k`, `none` when nothing whole does. -/
def RecordMap.read {α : Type} (m : RecordMap α) (k : Nat) : Option α :=
  match m with
  | [] => none
  | (j, x) :: rest => if j = k then some x else RecordMap.read rest k

/-- The map with place `k` written. -/
def RecordMap.write {α : Type} (m : RecordMap α) (k : Nat) (v : α) : RecordMap α :=
  match m with
  | [] => [(k, v)]
  | (j, x) :: rest =>
    if k < j then (k, v) :: (j, x) :: rest
    else if k = j then (k, v) :: rest
    else (j, x) :: RecordMap.write rest k v

/-- The map with place `k` left with no whole record. -/
def RecordMap.damage {α : Type} (m : RecordMap α) (k : Nat) : RecordMap α :=
  match m with
  | [] => []
  | (j, x) :: rest => if j = k then rest else (j, x) :: RecordMap.damage rest k

/-- Places strictly rising. -/
def RecordMap.wf {α : Type} : RecordMap α → Bool
  | [] => true
  | [_] => true
  | (j, _) :: (k, y) :: rest => decide (j < k) && RecordMap.wf ((k, y) :: rest)

/-! ## Check bytes -/

/-- The check byte of the record of that name with those contents: a CRC-8 over the record number and then the contents
(R177). -/
def recordCheck {α : Type} (n : RecordName) (x : α) : Byte := crc8 (Config.recordNumber n ++ Config.recordContents x)

/-- The contents with the check byte they are written with under that name. -/
def Stored.make {α : Type} (n : RecordName) (x : α) : Stored α := ⟨x, recordCheck n x⟩

/-- Whether what stands in the store passes the check of the record of that name (R177, R178). -/
def Stored.passes {α : Type} (n : RecordName) (r : Stored α) : Bool := r.check == recordCheck n r.contents

/-- The contents of the record of that name read from what stands at its place, `none` when the check fails (R178). -/
def checked {α : Type} (n : RecordName) (r : Option (Stored α)) : Option α :=
  match r with
  | some x => if x.passes n then some x.contents else none
  | none => none

/-- The canonical form of the records of one kind: places strictly rising, and no entry that reads as a place that is not listed,
because every record listed passes its check. -/
def RecordMap.sound {α : Type} (name : Nat → RecordName) (m : RecordMap (Stored α)) : Bool :=
  RecordMap.wf m && m.all fun p => p.2.passes (name p.1)

/-- A single record that is not `none` passes its check. -/
def passesAt {α : Type} (n : RecordName) (r : Option (Stored α)) : Bool := r.all fun x => x.passes n

/-- The canonical form of the whole store. -/
def Fram.wf (f : Fram) : Bool :=
  passesAt (.segment 0) f.one && passesAt (.segment 1) f.two && passesAt (.segment 2) f.three &&
    passesAt (.segment 3) f.four && passesAt .floors f.floors && RecordMap.sound .flatPage f.flatPages &&
    RecordMap.sound .cardPage f.cardPages && RecordMap.sound .account f.accounts && RecordMap.sound .slot f.slots

/-! ## The records -/

/-- Segment 1 of the configuration block, `none` when its check fails. -/
def Fram.segmentOne (f : Fram) : Option SegmentOne := checked (.segment 0) f.one

/-- Segment 2 of the configuration block, `none` when its check fails. -/
def Fram.segmentTwo (f : Fram) : Option Tariff := checked (.segment 1) f.two

/-- Segment 3 of the configuration block, `none` when its check fails. -/
def Fram.segmentThree (f : Fram) : Option SegmentThree := checked (.segment 2) f.three

/-- Segment 4 of the configuration block, `none` when its check fails. -/
def Fram.segmentFour (f : Fram) : Option SegmentFour := checked (.segment 3) f.four

/-- The floor table, `none` when its check fails. -/
def Fram.floorTable (f : Fram) : Option FloorTable := checked .floors f.floors

/-- A flat-table page, `none` when its check fails. -/
def Fram.flatPage (f : Fram) (p : FlatPageNo) : Option FlatPage := checked (.flatPage p.1) (f.flatPages.read p.1)

/-- A card-table page, `none` when its check fails. -/
def Fram.cardPage (f : Fram) (p : CardPageNo) : Option CardPage := checked (.cardPage p.1) (f.cardPages.read p.1)

/-- An account record, `none` when its check fails. -/
def Fram.account (f : Fram) (a : AccountNo) : Option Account := checked (.account a.1) (f.accounts.read a.1)

/-- A machine slot, `none` when its check fails. -/
def Fram.slot (f : Fram) (m : MachineNo) : Option Slot := checked (.slot m.1) (f.slots.read m.1)

/-- The floor table written, with a new check byte. -/
def Fram.setFloors (f : Fram) (t : FloorTable) : Fram := { f with floors := some (.make .floors t) }

/-- A flat-table page written, with a new check byte. -/
def Fram.setFlatPage (f : Fram) (p : FlatPageNo) (c : FlatPage) : Fram :=
  { f with flatPages := f.flatPages.write p.1 (.make (.flatPage p.1) c) }

/-- A card-table page written, with a new check byte. -/
def Fram.setCardPage (f : Fram) (p : CardPageNo) (c : CardPage) : Fram :=
  { f with cardPages := f.cardPages.write p.1 (.make (.cardPage p.1) c) }

/-- An account record written, with a new check byte. -/
def Fram.setAccount (f : Fram) (a : AccountNo) (c : Account) : Fram :=
  { f with accounts := f.accounts.write a.1 (.make (.account a.1) c) }

/-- A machine slot written, with a new check byte. -/
def Fram.setSlot (f : Fram) (m : MachineNo) (c : Slot) : Fram :=
  { f with slots := f.slots.write m.1 (.make (.slot m.1) c) }

/-! ## Results of a transaction -/

/-- The result a completed transaction hands its issuer (R179). -/
inductive Result where
  | ok
  | damaged
  | one (c : SegmentOne)
  | two (c : Tariff)
  | three (c : SegmentThree)
  | four (c : SegmentFour)
  | floors (t : FloorTable)
  | flatPage (c : FlatPage)
  | cardPage (c : CardPage)
  | account (c : Account)
  | slot (c : Slot)
  deriving DecidableEq, Repr

/-- A record read's result: the record, or DAMAGED (R178). -/
def readResult {α : Type} (r : Option α) (f : α → Result) : Result :=
  match r with
  | some x => f x
  | none => .damaged

/-- Whether a part takes an account step at settlement: a payer and a hold above 0 (R108). -/
def Part.takesAccount (p : Part) : Bool := p.payer.isSome && decide (0 < p.hold)

/-- A field update of machine slot `m`: read, change, write; a damaged slot is left as it is (R178, R179). -/
def Fram.updateSlot (f : Fram) (m : MachineNo) (g : Slot → Slot) : Result × Fram :=
  match f.slot m with
  | none => (.damaged, f)
  | some x => (.ok, f.setSlot m (g x))

/-- A field update of the session copy in slot `m` (R179); a slot with no session copy keeps none.
DEDUCED (log entry 46). DEDUCED (log entry 73). -/
def Fram.updateCopy (f : Fram) (m : MachineNo) (g : SlotCopy → SlotCopy) : Result × Fram :=
  f.updateSlot m fun x => { x with copy := x.copy.map g }

/-- A conditional update of the session copy in slot `m`, made when the copy's id is `id` (R179): otherwise nothing is
written. -/
def Fram.updateCopyIf (f : Fram) (m : MachineNo) (id : Nat) (g : SlotCopy → Option SlotCopy) : Result × Fram :=
  match f.slot m with
  | none => (.damaged, f)
  | some x =>
    match x.copy with
    | some c => if c.id = id then (.ok, f.setSlot m { x with copy := g c }) else (.ok, f)
    | none => (.ok, f)

/-- The session copy after the slot append of an EXTEND: the new part starts at the stored U (R102). -/
def SlotCopy.append (c : SlotCopy) (p : Part) : SlotCopy :=
  { c with parts := c.parts ++ [⟨{ p with start := c.units }, false⟩], units := c.units + p.units }

/-- The session copy with every part that takes an account step marked (R107). -/
def SlotCopy.markAll (c : SlotCopy) : SlotCopy :=
  { c with parts := c.parts.map fun x => if x.part.takesAccount then { x with mark := true } else x }

/-- Where a released part that the slot was given stands in the session copy's parts list: the last part with its payer, H and
units. DEDUCED (log entry 49). -/
def SlotCopy.released? (c : SlotCopy) (payer : Option AccountNo) (hold units : Nat) : Option Nat :=
  (List.range c.parts.length).reverse.find? fun i =>
    c.parts[i]?.any fun x => x.part.payer == payer && x.part.hold == hold && x.part.units == units

/-- The session copy with a released part marked (R112). -/
def SlotCopy.markPart (c : SlotCopy) (p : Part) : SlotCopy :=
  match c.released? p.payer p.hold p.units with
  | some i => { c with parts := c.parts.modify i fun x => { x with mark := true } }
  | none => c

/-- The session copy without a released part, and its units taken from U; a part granted without a slot write is not in it, and
nothing is removed (R103, R113). -/
def SlotCopy.removePart (c : SlotCopy) (p : DeferredPart) : SlotCopy :=
  match if p.inSlot then c.released? p.payer p.hold p.units else none with
  | some i => { c with parts := c.parts.eraseIdx i, units := c.units - p.units }
  | none => c

/-- The session copy with the parts list and U of the session engine (R112). -/
def SlotCopy.setParts (c : SlotCopy) (parts : List Part) (units : Nat) : SlotCopy :=
  { c with parts := parts.map fun p => ⟨p, false⟩, units := units }

/-- The card-table page that holds a card path, followed through the stored tables; `none` in the first place when a
record on the way is damaged, in the second when the path has no page. -/
def Fram.cardPageOf (f : Fram) (p : CardPath) : Option (Option CardPageNo) :=
  match f.floorTable with
  | none => none
  | some t =>
    match (look t p.floor).page with
    | none => some none
    | some fp =>
      match f.flatPage fp with
      | none => none
      | some c => some (look c p.flat).page

/-- A day update: the last-use day is rewritten when the descriptor stored at the path is ACCOUNT and names the same
account; otherwise nothing is written (R61). DEDUCED (log entry 63). -/
def Fram.dayUpdate (f : Fram) (u : DayUpdate) : Result × Fram :=
  match f.cardPageOf u.path with
  | none => (.damaged, f)
  | some none => (.ok, f)
  | some (some p) =>
    match f.cardPage p with
    | none => (.damaged, f)
    | some c =>
      match look c u.path.ordinal with
      | .account a attrs hold targeted _ =>
        if a = u.account then
          (.ok, f.setCardPage p (update c u.path.ordinal fun _ => .account a attrs hold targeted u.day))
        else (.ok, f)
      | _ => (.ok, f)

/-- What carrying out one access does with the store, and the result its issuer gets (R178, R179). -/
def Fram.perform (f : Fram) : Access → Result × Fram
  | .readSegment 0 => (readResult f.segmentOne .one, f)
  | .readSegment 1 => (readResult f.segmentTwo .two, f)
  | .readSegment 2 => (readResult f.segmentThree .three, f)
  | .readSegment _ => (readResult f.segmentFour .four, f)
  | .writeOne c => (.ok, { f with one := some (.make (.segment 0) c) })
  | .writeTwo c => (.ok, { f with two := some (.make (.segment 1) c) })
  | .writeThree c => (.ok, { f with three := some (.make (.segment 2) c) })
  | .writeFour c => (.ok, { f with four := some (.make (.segment 3) c) })
  | .readFloors => (readResult f.floorTable .floors, f)
  | .writeFloors t => (.ok, f.setFloors t)
  | .updateFloor i d =>
    match f.floorTable with
    | none => (.damaged, f)
    | some t => (.ok, f.setFloors (update t i fun _ => d))
  | .readFlatPage p => (readResult (f.flatPage p) .flatPage, f)
  | .writeFlatPage p c => (.ok, f.setFlatPage p c)
  | .updateFlat p n d =>
    match f.flatPage p with
    | none => (.damaged, f)
    | some c => (.ok, f.setFlatPage p (update c n fun _ => d))
  | .readCardPage p => (readResult (f.cardPage p) .cardPage, f)
  | .writeCardPage p c => (.ok, f.setCardPage p c)
  | .updateCard p o d =>
    match f.cardPage p with
    | none => (.damaged, f)
    | some c => (.ok, f.setCardPage p (update c o fun _ => d))
  | .dayUpdate u => f.dayUpdate u
  | .readAccount a => (readResult (f.account a) .account, f)
  | .writeAccount a c => (.ok, f.setAccount a c)
  | .readSlot m => (readResult (f.slot m) .slot, f)
  | .writeSlot m c => (.ok, f.setSlot m c)
  | .slotAppend m p => f.updateCopy m fun c => c.append p
  | .slotMarkAll m => f.updateCopy m SlotCopy.markAll
  | .slotMarkPart m p => f.updateCopy m fun c => c.markPart p
  | .slotParts m parts units => f.updateCopy m fun c => c.setParts parts units
  | .slotRemove m id => f.updateCopyIf m id fun _ => none
  | .slotRemovePart m id p => f.updateCopyIf m id fun c => some (c.removePart p)
  | .slotRefresh m id e p => f.updateCopyIf m id fun c => some { c with elapsed := e, paused := p }
  | .slotLockout m code => f.updateSlot m fun x => { x with lockout := code }
  | .status => (.ok, f)

/-- Whether the session copy stored in slot `m` has id `id`, so that a conditional update writes. -/
def Fram.copyMatches (f : Fram) (m : MachineNo) (id : Nat) : Bool :=
  match f.slot m with
  | some x => x.copy.any fun c => c.id == id
  | none => false

/-- Whether a day update finds its descriptor, so that it writes (R61). -/
def Fram.dayMatches (f : Fram) (u : DayUpdate) (p : CardPageNo) : Bool :=
  match f.cardPage p with
  | some c =>
    match look c u.path.ordinal with
    | .account a _ _ _ _ => a == u.account
    | _ => false
  | none => false

/-- What a power loss does to the record a write was at work on, when it cuts the write short: its check fails (R177). A
conditional update whose condition does not hold writes nothing, so nothing is cut short. -/
def Fram.cutShort (f : Fram) : Access → Fram
  | .writeOne _ => { f with one := none }
  | .writeTwo _ => { f with two := none }
  | .writeThree _ => { f with three := none }
  | .writeFour _ => { f with four := none }
  | .writeFloors _ | .updateFloor _ _ => { f with floors := none }
  | .writeFlatPage p _ | .updateFlat p _ _ => { f with flatPages := RecordMap.damage f.flatPages p.1 }
  | .writeCardPage p _ | .updateCard p _ _ => { f with cardPages := RecordMap.damage f.cardPages p.1 }
  | .dayUpdate u =>
    match f.cardPageOf u.path with
    | some (some p) => if f.dayMatches u p then { f with cardPages := RecordMap.damage f.cardPages p.1 } else f
    | _ => f
  | .writeAccount a _ => { f with accounts := RecordMap.damage f.accounts a.1 }
  | .writeSlot m _ | .slotLockout m _ | .slotAppend m _ | .slotMarkAll m | .slotMarkPart m _ | .slotParts m _ _ =>
    { f with slots := RecordMap.damage f.slots m.1 }
  | .slotRemove m id | .slotRefresh m id _ _ =>
    if f.copyMatches m id then { f with slots := RecordMap.damage f.slots m.1 } else f
  | .slotRemovePart m id p =>
    if p.inSlot && f.copyMatches m id then { f with slots := RecordMap.damage f.slots m.1 } else f
  | .readSegment _ | .readFloors | .readFlatPage _ | .readCardPage _ | .readAccount _ | .readSlot _ | .status => f

end Sys2Proof.Machine
end

