-- ==== Sys2Proof/Machine/Encoding.lean ====
section
/-! DEFINITION. What the part sends on the host link: the wire form of a frame (R193), the records of 10.5, and the payload
of every notice (10.6). -/
namespace Sys2Proof.Machine

/-- The bytes of a frame from its length to the end of its payload: what the check is computed over (R193). -/
def Frame.body (f : Frame) : List Byte := u8 (f.payload.length + 2) ++ [f.type, f.tag] ++ f.payload

/-- The bytes of a frame on the line: start byte, length, type, tag, payload, check (R193). -/
def Frame.wire (f : Frame) : List Byte := Config.startByte :: (f.body ++ crc16Bytes f.body)

/-! ## Records (10.5) -/

/-- An attribute set: bit 0 STAFF, 1 PEAK_EXEMPT, 2 WASHERS_ONLY, 3 DRYERS_ONLY. -/
def attributeBits (a : Attributes) : Nat := ofBits [a.staff, a.peakExempt, a.washersOnly, a.dryersOnly]

/-- A card identifier. -/
def cardBytes (c : CardId) : List Byte :=
  u16 c.site ++ u8 c.path.floor.1 ++ u8 (c.path.flat.1 * 16 + c.path.ordinal.1)

/-- A path record: fields below the level are 0. -/
def pathBytes : DirPath → List Byte
  | .floor f => u8 Level.floor.code ++ u8 f.1 ++ u8 0 ++ u8 0
  | .flat f n => u8 Level.flat.code ++ u8 f.1 ++ u8 n.1 ++ u8 0
  | .card p => u8 Level.card.code ++ u8 p.floor.1 ++ u8 p.flat.1 ++ u8 p.ordinal.1

/-- A descriptor record: kind, flags, attributes, page or account, target, last-use day. -/
def descriptorBytes (kind : DescriptorKind) (hold targeted : Bool) (attrs : Nat) (ref : Nat)
    (target : Option CardPath) (day : Nat) : List Byte :=
  u8 kind.code ++ u8 (ofBits [hold, targeted]) ++ u8 attrs ++ u16 ref ++
    (match target with
      | some t => u8 t.floor.1 ++ u8 t.flat.1 ++ u8 t.ordinal.1
      | none => u8 0 ++ u8 0 ++ u8 0) ++ u16 day

/-- A floor descriptor's record. -/
def floorBytes (d : FloorDescriptor) : List Byte :=
  match d.page with
  | some p => descriptorBytes .table d.hold false 0 p.1 none 0
  | none => descriptorBytes .invalid d.hold false 0 0 none 0

/-- A flat descriptor's record. -/
def flatBytes (d : FlatDescriptor) : List Byte :=
  match d.page with
  | some p => descriptorBytes .table d.hold false 0 p.1 none 0
  | none => descriptorBytes .invalid d.hold false 0 0 none 0

/-- A card descriptor's record. -/
def cardDescriptorBytes : CardDescriptor → List Byte
  | .invalid => descriptorBytes .invalid false false 0 0 none 0
  | .account a attrs hold targeted day => descriptorBytes .account hold targeted (attributeBits attrs) a.1 none day
  | .indirect t hold => descriptorBytes .indirect hold false 0 0 (some t) 0

/-- An account index that may be absent. -/
def accountIndexBytes (a : Option AccountNo) : List Byte := u16 (match a with | some x => x.1 | none => 0xFFFF)

/-- A captured charge that may be absent. -/
def chargeBytes (c : Option Nat) : List Byte := u16 (c.getD 0xFFFF)

/-- A payer source: 0 DIRECTORY, 1 to 4 WINDOW 0 to 3. -/
def PayerSource.code : PayerSource → Nat
  | .directory => 0
  | .window n => n.1 + 1

/-- A charge part record; `k` is its number, 1 first. -/
def partBytes (k : Nat) (p : Part) : List Byte :=
  u8 k ++ u8 p.source.code ++ accountIndexBytes p.payer ++ u16 p.start ++ u16 p.units ++ u16 p.price ++
    u16 p.hold ++ chargeBytes p.charge ++ u16 p.factor ++ u8 p.band.1 ++ yesNo p.surcharged

/-- Charge parts numbered from `k`. -/
def partsFrom : Nat → List Part → List Byte
  | _, [] => []
  | k, p :: rest => partBytes k p ++ partsFrom (k + 1) rest

/-- A part list: a count, then the parts. -/
def partListBytes (ps : List Part) : List Byte := u8 ps.length ++ partsFrom 1 ps

/-- The available amount of an account (R92). -/
def Account.available (a : Account) : Int := a.balance + a.overdraft - a.held

/-- An account block. -/
def accountBytes (a : Account) (refs : Nat) : List Byte :=
  u8 a.state.code ++ i32 a.balance ++ u16 a.overdraft ++ u32 a.held ++ u8 a.group.1 ++ u16 a.vends ++
    u16 a.lastDay ++ u32 a.available.toNat ++ u16 refs ++ yesNo false

/-- The account block of a damaged account: only the held amount and the reference count are reported (R116). -/
def damagedAccountBytes (held refs : Nat) : List Byte :=
  u8 0 ++ i32 0 ++ u16 0 ++ u32 held ++ u8 0 ++ u16 0 ++ u16 0 ++ u32 0 ++ u16 refs ++ yesNo true

/-- The source byte of a fault record. -/
def Source.code : Source → Nat
  | .machine m => m.1
  | .room r => 0x40 + r.1
  | .part => 0x80

/-- The reference of a fault record: its kind, then the reference. -/
def referenceBytes : Reference → List Byte
  | .none => u8 0 ++ u16 0
  | .session id => u8 1 ++ u16 id
  | .account a => u8 2 ++ u16 a.1
  | .machine m => u8 3 ++ u16 m.1

/-- A fault record. -/
def recordBytes (r : FaultRecord) : List Byte :=
  u32 r.sequence ++ u16 r.day ++ u16 r.minute ++ u8 r.source.code ++ u8 r.code.code ++ u8 r.severity.code ++
    referenceBytes r.reference ++ chargeBytes r.charge ++ yesNo r.acknowledged

/-! ## Notices (10.6) -/

/-- The type code of a notice. -/
def Notice.code : Notice → Nat
  | .sessionArmed .. | .sessionStarted .. | .sessionEnded .. => 0x40
  | .refusal .. => 0x41
  | .unknownCard .. => 0x42
  | .fault .. => 0x43
  | .backlog .. => 0x44
  | .demandEnd .. => 0x45
  | .store .. => 0x46
  | .startUp .. => 0x47
  | .overrun .. => 0x48

/-- A notice's payload. -/
def Notice.payload : Notice → List Byte
  | .sessionArmed m id mode prog units part =>
    u8 0 ++ u8 m.1 ++ u16 id ++ u8 mode.code ++ u8 prog.1 ++ u16 units ++ partListBytes part.toList
  | .sessionStarted m id mode day minute => u8 1 ++ u8 m.1 ++ u16 id ++ u8 mode.code ++ u16 day ++ u16 minute
  | .sessionEnded m id mode cause e p parts =>
    u8 2 ++ u8 m.1 ++ u16 id ++ u8 mode.code ++ u8 (EndCause.code cause) ++ u8 (faultCode (EndCause.fault? cause)) ++
      u16 e ++ u16 p ++ partListBytes parts
  | .refusal m c r => u8 m.1 ++ cardBytes c ++ u8 r.code
  | .unknownCard m c l => u8 m.1 ++ cardBytes c ++ u8 l.code
  | .fault r n => recordBytes r ++ u8 n
  | .backlog on n => yesNo on ++ u8 n
  | .demandEnd c l => u8 c.code ++ u16 l
  | .store st n => u8 st.code ++ u8 n
  | .startUp st sst => u8 st.code ++ u8 sst.code
  | .overrun n => u16 n

/-- A notice's frame: tag 0 (R197). -/
def Notice.frame (n : Notice) : Frame := ⟨Byte.ofNat n.code, 0#8, n.payload⟩

end Sys2Proof.Machine
end

