-- ==== Sys2Proof/Machine/Operands.lean ====
section
/-! DEFINITION. The operands of host requests: every request's payload as the catalogue lays it out (10.5, 10.6), and the
reading of a payload, which is steps 1 and 2 of R196. -/
namespace Sys2Proof.Machine

/-! ## Outward -/

/-- A lamp's pattern byte and invert byte (R204). -/
def lampBytes (l : Lamp) : List Byte := u8 l.pattern.code ++ yesNo l.invert

/-- ANY is sent as 0xFF (R204). -/
def anyByte (n : Option Nat) : List Byte := u8 (n.getD 255)

/-- A window action's code and account index; 0 where it does not apply (R203). DEDUCED (log entry 23). -/
def actionBytes : WindowItemAction → List Byte
  | .free => u8 0 ++ u16 0
  | .house a => u8 1 ++ u16 a
  | .refuse => u8 2 ++ u16 0

/-- The bitmap of the NOTICE_MASK item (R204). -/
def noticeBits (k : NoticeMask) : Nat :=
  ofBits [k.session, k.refusal, k.unknownCard, k.faultNote, k.faultStop, k.faultLockout, k.faultRoom, k.backlog,
    k.demandEnd, k.store, k.startUp]

/-- A configuration item: its code, its index byte and its fields (R204). -/
def itemBytes : ConfigItem → List Byte
  | .site n => u8 1 ++ u8 0 ++ u16 n
  | .room r cap edge => u8 2 ++ u8 r ++ u16 cap ++ u8 edge.code
  | .machine m r cls a => u8 3 ++ u8 m ++ u8 r ++ u8 cls.code ++ yesNo a
  | .programme (.washer i b d h) => u8 4 ++ u8 i ++ u16 b ++ u8 d ++ u8 h
  | .programme (.dryer i p l m h) => u8 4 ++ u8 (128 + i) ++ u16 p ++ u8 l ++ u8 m ++ u8 h
  | .band b start f => u8 5 ++ u8 b ++ u16 start ++ u16 f
  | .tariffGroup g d => u8 6 ++ u8 g ++ u16 d
  | .surcharge n => u8 7 ++ u8 0 ++ u16 n
  | .cap n => u8 8 ++ u8 0 ++ u16 n
  | .grace n => u8 9 ++ u8 0 ++ u8 n
  | .pause a k => u8 10 ++ u8 0 ++ u8 a ++ u16 k
  | .arm n => u8 11 ++ u8 0 ++ u16 n
  | .overrun n => u8 12 ++ u8 0 ++ u8 n
  | .nodeGrace n => u8 13 ++ u8 0 ++ u8 n
  | .window i w =>
    u8 14 ++ u8 i ++ yesNo w.enabled ++ u16 w.site ++ u8 w.floorLow ++ u8 w.floorHigh ++ anyByte w.flat ++
      anyByte w.ordinal ++ u8 w.filter.code ++ actionBytes w.action
  | .cache c =>
    u8 15 ++ u8 0 ++ u8 (ofBits [look c.mask 0, look c.mask 1, look c.mask 2, look c.mask 3]) ++
      u8 c.replacement.code ++ u8 c.sweepBurst ++ u8 c.lookupBurst
  | .grant mode limit high low => u8 16 ++ u8 0 ++ u8 mode.code ++ u16 limit ++ u8 high ++ u8 low
  | .lamp k =>
    u8 17 ++ u8 0 ++ lampBytes k.available ++ lampBytes k.armed ++ lampBytes k.inUse ++ lampBytes k.heatHold ++
      lampBytes k.done ++ lampBytes k.outOfOrder
  | .noticeMask k => u8 18 ++ u8 0 ++ u16 (noticeBits k)

/-- A path as a request carries it. -/
def rawPathBytes (p : RawPath) : List Byte := u8 p.level.code ++ u8 p.floor ++ u8 p.flat ++ u8 p.ordinal

/-- A descriptor as a DIRECTORY_WRITE carries it; the ignored fields are sent as 0. -/
def rawDescriptorBytes (d : RawDescriptor) : List Byte :=
  u8 d.kind.code ++ yesNo d.hold ++ u8 (attributeBits d.attributes) ++ u16 d.account ++ u8 d.targetFloor ++
    u8 d.targetFlat ++ u8 d.targetOrdinal ++ u16 0

/-- A MACHINE_CONTROL payload with an action alone. -/
def controlBytes (m action : Nat) : List Byte := u8 m ++ u8 action

/-- A flush scope with its floor and flat. -/
def scopeBytes : FlushScope → List Byte
  | .all => u8 0 ++ u8 0 ++ u8 0
  | .residents => u8 1 ++ u8 0 ++ u8 0
  | .floor f => u8 2 ++ u8 f ++ u8 0
  | .flat f n => u8 3 ++ u8 f ++ u8 n

/-- The payload of an ACCOUNT_SET of changed fields. -/
def accountSetBytes (a : Nat) (st : Option AccountState) (o g : Option Nat) : List Byte :=
  u16 a ++ u8 (ofBits [st.isSome, o.isSome, g.isSome]) ++ u8 ((st.map AccountState.code).getD 0) ++ i32 0 ++
    u16 (o.getD 0) ++ u8 (g.getD 0) ++ u16 0 ++ u16 0

/-- The payload of an ACCOUNT_SET of every field. -/
def accountSetAllBytes (a : Nat) (f : AccountFields) : List Byte :=
  u16 a ++ u8 128 ++ u8 f.state.code ++ i32 f.balance ++ u16 f.overdraft ++ u8 f.group ++ u16 f.vends ++ u16 f.lastDay

/-- The eight entries of a table of flags, bit 0 first. -/
def flags8 (v : Vector Bool 8) : List Bool :=
  [look v 0, look v 1, look v 2, look v 3, look v 4, look v 5, look v 6, look v 7]

/-- The seven entries of a severity table, in code order. -/
def severities7 {α : Type} (v : Vector α 7) : List α :=
  [look v 0, look v 1, look v 2, look v 3, look v 4, look v 5, look v 6]

/-- The payload of a RULES_SET: a severity that is not selected is sent as 0. -/
def rulesBytes (i : RulesItem) : List Byte :=
  u8 (ofBits (flags8 i.enableSelector)) ++ u8 (ofBits (flags8 i.enableValues)) ++
    u8 (ofBits ((severities7 i.severities).map Option.isSome)) ++
    (severities7 i.severities).flatMap fun x => u8 ((x.map Severity.code).getD 0)

/-- A request's payload (10.6). -/
def requestPayload : Request → List Byte
  | .identify | .configSave | .reset | .budgetQuery | .rulesLock => []
  | .configSet i => itemBytes i
  | .configGet i n => u8 i ++ u8 n
  | .clockSet m d => u16 m ++ u16 d
  | .machineQuery m => u8 m
  | .serviceStart m p n => controlBytes m 1 ++ u8 p ++ u8 n
  | .abort m => controlBytes m 2
  | .lock m => controlBytes m 3
  | .lockoutClear m => controlBytes m 4
  | .nodeEnable m => controlBytes m 5
  | .nodeDisable m => controlBytes m 6
  | .directoryWrite p d => rawPathBytes p ++ rawDescriptorBytes d
  | .directoryRead p => rawPathBytes p
  | .cardProbe c cls => cardBytes c ++ u8 cls.code
  | .accountOpen a o g => u16 a ++ u16 o ++ u8 g
  | .accountRead a => u16 a
  | .accountSet a st o g => accountSetBytes a st o g
  | .accountSetAll a f => accountSetAllBytes a f
  | .accountCredit a n => u16 a ++ u32 n
  | .accountAdjust a z => u16 a ++ i32 z
  | .accountClose a => u16 a
  | .cacheFlush sc => scopeBytes sc
  | .demandSet l d => u16 l ++ u16 d
  | .faultRead q n => u32 q ++ u8 n
  | .faultAck q => u32 q
  | .rulesSet i => rulesBytes i
  | .valveOpen r => u8 r

/-- The frame that carries a request with a tag. -/
def requestFrame (tag : Byte) (q : Request) : Frame := ⟨Byte.ofNat q.code, tag, requestPayload q⟩

/-! ## Inward -/

/-- ANY, or the number (R204). -/
def anyOf (n : Nat) : Option Nat := if n = 255 then none else some n

/-- A lamp from its two bytes. -/
def lampOf (p i : Nat) : Option Lamp := do
  let pattern ← LampPattern.ofCode p
  let invert ← getYesNo i
  some ⟨pattern, invert⟩

/-- A window action from its code and account index. -/
def actionOf (code account : Nat) : Option WindowItemAction :=
  match code with
  | 0 => some .free
  | 1 => some (.house account)
  | 2 => some .refuse
  | _ => none

/-- A notice mask from its bitmap: bits 11 to 15 must be 0 (R204). -/
def noticeMaskOf (n : Nat) : Option NoticeMask :=
  if n < 2048 then
    some ⟨bit n 0, bit n 1, bit n 2, bit n 3, bit n 4, bit n 5, bit n 6, bit n 7, bit n 8, bit n 9, bit n 10⟩
  else none

/-- A programme item from its index byte and fields: bits 6 to 3 must be 0 (R204). -/
def programmeOf (index : Nat) (fields : List Nat) : Option ProgrammeItem :=
  match fields with
  | [b1, b0, d, h] => if index < 8 then some (.washer index (get16 b1 b0) d h) else none
  | [p1, p0, l, m, h] =>
    if 128 ≤ index ∧ index < 136 then some (.dryer (index - 128) (get16 p1 p0) l m h) else none
  | _ => none

/-- A lamp map from its twelve bytes. -/
def lampMapOf (fields : List Nat) : Option LampMap :=
  match fields with
  | [a, a', b, b', c, c', d, d', e, e', f, f'] => do
    let available ← lampOf a a'
    let armed ← lampOf b b'
    let inUse ← lampOf c c'
    let heatHold ← lampOf d d'
    let done ← lampOf e e'
    let outOfOrder ← lampOf f f'
    some ⟨available, armed, inUse, heatHold, done, outOfOrder⟩
  | _ => none

/-- A window item from its fields. -/
def windowOf (fields : List Nat) : Option WindowItem :=
  match fields with
  | [en, s1, s0, lo, hi, fl, od, fi, act, a1, a0] => do
    let enabled ← getYesNo en
    let filter ← ClassFilter.ofCode fi
    let action ← actionOf act (get16 a1 a0)
    some ⟨enabled, get16 s1 s0, lo, hi, anyOf fl, anyOf od, filter, action⟩
  | _ => none

/-- A configuration item from its code, index byte and fields; a nonzero index where 0 is given is refused (R204).
DEDUCED (log entry 18). -/
def itemOf (code index : Nat) (fields : List Nat) : Option ConfigItem :=
  match code, index, fields with
  | 1, 0, [a, b] => some (.site (get16 a b))
  | 2, r, [a, b, e] => (EdgeSelect.ofCode e).map fun edge => .room r (get16 a b) edge
  | 3, m, [r, c, y] => do
    let cls ← MachineClass.ofCode c
    let assigned ← getYesNo y
    some (.machine m r cls assigned)
  | 4, i, fs => (programmeOf i fs).map .programme
  | 5, b, [s1, s0, f1, f0] => some (.band b (get16 s1 s0) (get16 f1 f0))
  | 6, g, [d1, d0] => some (.tariffGroup g (get16 d1 d0))
  | 7, 0, [a, b] => some (.surcharge (get16 a b))
  | 8, 0, [a, b] => some (.cap (get16 a b))
  | 9, 0, [a] => some (.grace a)
  | 10, 0, [a, k1, k0] => some (.pause a (get16 k1 k0))
  | 11, 0, [a, b] => some (.arm (get16 a b))
  | 12, 0, [a] => some (.overrun a)
  | 13, 0, [a] => some (.nodeGrace a)
  | 14, i, fs => (windowOf fs).map (.window i)
  | 15, 0, [k, p, x, y] =>
    (Replacement.ofCode p).map fun r => .cache ⟨#v[bit k 0, bit k 1, bit k 2, bit k 3], r, x, y⟩
  | 16, 0, [m, l1, l0, hi, lo] => (Arbitration.ofCode m).map fun mode => .grant mode (get16 l1 l0) hi lo
  | 17, 0, fs => (lampMapOf fs).map .lamp
  | 18, 0, [a, b] => (noticeMaskOf (get16 a b)).map .noticeMask
  | _, _, _ => none

/-- A path from its four bytes. -/
def rawPathOf (l f n o : Nat) : Option RawPath := (Level.ofCode l).map fun lv => ⟨lv, f, n, o⟩

/-- An attribute set from its byte: bits 4 to 7 must be 0 (10.5). -/
def attributesOf (n : Nat) : Option Attributes :=
  if n < 16 then some ⟨bit n 0, bit n 1, bit n 2, bit n 3⟩ else none

/-- A descriptor from its bytes: the targeted marker, the day and the page are ignored (10.5). -/
def rawDescriptorOf (k fl at_ r1 r0 tf tn to_ : Nat) : Option RawDescriptor :=
  if fl < 4 then do
    let kind ← DescriptorKind.ofCode k
    let attrs ← attributesOf at_
    some ⟨kind, bit fl 0, attrs, get16 r1 r0, tf, tn, to_⟩
  else none

/-- A card identifier from its bytes: bits 7 and 6 of the floor byte and bits 3 and 2 of the last must be 0 (10.5). -/
def cardOf (s1 s0 f x : Nat) : Option CardId :=
  if h : f < 64 ∧ x < 256 ∧ x / 4 % 4 = 0 then
    some ⟨get16 s1 s0, ⟨⟨f, h.1⟩, ⟨x / 16, by omega⟩, ⟨x % 4, by omega⟩⟩⟩
  else none

/-- A MACHINE_CONTROL payload. -/
def controlOf (fields : List Nat) : Option Request :=
  match fields with
  | [m, 1, p, n] => some (.serviceStart m p n)
  | [m, 2] => some (.abort m)
  | [m, 3] => some (.lock m)
  | [m, 4] => some (.lockoutClear m)
  | [m, 5] => some (.nodeEnable m)
  | [m, 6] => some (.nodeDisable m)
  | _ => none

/-- A selected field of an ACCOUNT_SET. -/
def selected {α : Type} (on : Bool) (x : Option α) : Option (Option α) := if on then x.map some else some none

/-- An ACCOUNT_SET payload (10.6). A selector with none of its bits set selects nothing: the payment unit judges it.
DEDUCED (log entry 20). -/
def accountSetOf (fields : List Nat) : Option Request :=
  match fields with
  | [a1, a0, sel, st, b3, b2, b1, b0, o1, o0, g, v1, v0, d1, d0] =>
    if bit sel 7 then
      (AccountState.ofCode st).map fun x =>
        .accountSetAll (get16 a1 a0) ⟨x, getI32 b3 b2 b1 b0, get16 o1 o0, g, get16 v1 v0, get16 d1 d0⟩
    else
      (selected (bit sel 0) (AccountState.ofCode st)).map fun x =>
        .accountSet (get16 a1 a0) x (if bit sel 1 then some (get16 o1 o0) else none) (if bit sel 2 then some g else none)
  | _ => none

/-- A CACHE_FLUSH payload. -/
def scopeOf (sc f n : Nat) : Option FlushScope :=
  match sc with
  | 0 => some .all
  | 1 => some .residents
  | 2 => some (.floor f)
  | 3 => some (.flat f n)
  | _ => none

/-- The eight bits of a byte. -/
def bits8 (n : Nat) : Vector Bool 8 := #v[bit n 0, bit n 1, bit n 2, bit n 3, bit n 4, bit n 5, bit n 6, bit n 7]

/-- A RULES_SET payload: selector bit 7 must be 0, and an unselected severity is not judged (10.6). Both selectors 0 select
nothing: the fault supervisor judges it. DEDUCED (log entry 21). -/
def rulesOf (fields : List Nat) : Option Request :=
  match fields with
  | [es, ev, ss, s0, s1, s2, s3, s4, s5, s6] =>
    if ss < 128 then do
      let a0 ← selected (bit ss 0) (Severity.ofCode s0)
      let a1 ← selected (bit ss 1) (Severity.ofCode s1)
      let a2 ← selected (bit ss 2) (Severity.ofCode s2)
      let a3 ← selected (bit ss 3) (Severity.ofCode s3)
      let a4 ← selected (bit ss 4) (Severity.ofCode s4)
      let a5 ← selected (bit ss 5) (Severity.ofCode s5)
      let a6 ← selected (bit ss 6) (Severity.ofCode s6)
      some (.rulesSet ⟨bits8 es, bits8 ev, #v[a0, a1, a2, a3, a4, a5, a6]⟩)
    else none
  | _ => none

/-- What steps 1 and 2 of R196 make of a type and a payload. -/
inductive Parsed where
  | unknown
  | bad
  | request (q : Request)
  deriving DecidableEq, Repr

/-- A payload that reads as a request, or is refused BAD_ARGUMENT. -/
def Parsed.of (q : Option Request) : Parsed :=
  match q with
  | some x => .request x
  | none => .bad

/-- A request without a payload. -/
def bare (q : Request) (fields : List Nat) : Parsed := if fields = [] then .request q else .bad

/-- Steps 1 and 2 of R196 over a type code and the payload's bytes: an unknown type, a wrong length, a code outside its
list, or a bit that must be 0. Numbers outside their owners' ranges are judged later. -/
def parseFields (code : Nat) (fields : List Nat) : Parsed :=
  match code with
  | 0x01 => bare .identify fields
  | 0x02 => Parsed.of <|
    match fields with
    | c :: i :: fs => (itemOf c i fs).map .configSet
    | _ => none
  | 0x03 => Parsed.of <| match fields with | [c, i] => some (.configGet c i) | _ => none
  | 0x04 => bare .configSave fields
  | 0x05 => Parsed.of <| match fields with | [a, b, c, d] => some (.clockSet (get16 a b) (get16 c d)) | _ => none
  | 0x06 => bare .reset fields
  | 0x10 => Parsed.of <| match fields with | [m] => some (.machineQuery m) | _ => none
  | 0x11 => Parsed.of (controlOf fields)
  | 0x18 => Parsed.of <|
    match fields with
    | [l, f, n, o, k, fl, at_, r1, r0, tf, tn, to_, _, _] => do
      let p ← rawPathOf l f n o
      let d ← rawDescriptorOf k fl at_ r1 r0 tf tn to_
      some (.directoryWrite p d)
    | _ => none
  | 0x19 => Parsed.of <|
    match fields with
    | [l, f, n, o] => (rawPathOf l f n o).map .directoryRead
    | _ => none
  | 0x1A => Parsed.of <|
    match fields with
    | [s1, s0, f, x, c] => do
      let card ← cardOf s1 s0 f x
      let cls ← MachineClass.ofCode c
      some (.cardProbe card cls)
    | _ => none
  | 0x20 => Parsed.of <|
    match fields with
    | [a1, a0, o1, o0, g] => some (.accountOpen (get16 a1 a0) (get16 o1 o0) g)
    | _ => none
  | 0x21 => Parsed.of <| match fields with | [a, b] => some (.accountRead (get16 a b)) | _ => none
  | 0x22 => Parsed.of (accountSetOf fields)
  | 0x23 => Parsed.of <|
    match fields with
    | [a1, a0, b3, b2, b1, b0] => some (.accountCredit (get16 a1 a0) (get32 b3 b2 b1 b0))
    | _ => none
  | 0x24 => Parsed.of <|
    match fields with
    | [a1, a0, b3, b2, b1, b0] => some (.accountAdjust (get16 a1 a0) (getI32 b3 b2 b1 b0))
    | _ => none
  | 0x25 => Parsed.of <| match fields with | [a, b] => some (.accountClose (get16 a b)) | _ => none
  | 0x28 => Parsed.of <| match fields with | [sc, f, n] => (scopeOf sc f n).map .cacheFlush | _ => none
  | 0x29 => Parsed.of <| match fields with | [a, b, c, d] => some (.demandSet (get16 a b) (get16 c d)) | _ => none
  | 0x2A => bare .budgetQuery fields
  | 0x30 => Parsed.of <| match fields with | [a, b, c, d, n] => some (.faultRead (get32 a b c d) n) | _ => none
  | 0x31 => Parsed.of <| match fields with | [a, b, c, d] => some (.faultAck (get32 a b c d)) | _ => none
  | 0x32 => Parsed.of (rulesOf fields)
  | 0x33 => bare .rulesLock fields
  | 0x34 => Parsed.of <| match fields with | [r] => some (.valveOpen r) | _ => none
  | _ => .unknown

/-- Steps 1 and 2 of R196 over a frame in the receive buffer. -/
def Frame.parse (f : Frame) : Parsed := parseFields f.type.toNat (f.payload.map BitVec.toNat)

end Sys2Proof.Machine
end

