-- ==== Sys2Proof/Machine/CacheOps.lean ====
section
/-! DEFINITION. The authorisation cache's operations: lookups (R78), installs and victims (R80 to R82), sweeps (R84 to R86),
the arbiter (R87), invalidation and flushes (R88 to R90), and the CACHE item (R83). -/
namespace Sys2Proof.Machine

/-- The set a card path belongs to (R75). -/
def CardPath.set (p : CardPath) : Fin 8 :=
  ⟨(p.floor.1 + p.flat.1 + p.ordinal.1) % 8, Nat.mod_lt _ (by decide)⟩

/-- Whether an entry matches a sweep (R84). -/
def Sweep.matches (w : Sweep) (e : CacheEntry) : Bool :=
  match w with
  | .floor f => e.path.floor == f
  | .flat f n => e.path.floor == f && e.path.flat == n
  | .via p => e.via == some p

/-- The cache with one set changed. -/
def Cache.modSet (c : Cache) (k : Fin 8) (f : CacheSet → CacheSet) : Cache := { c with sets := update c.sets k f }

/-- The way of a set that holds a valid entry of a path. -/
def CacheSet.find (t : CacheSet) (p : CardPath) : Option (Fin 4) :=
  (indexes 4).find? fun w => (look t.ways w).any fun e => e.path == p

/-- The entry of a path, when the cache holds one. -/
def Cache.entry? (c : Cache) (p : CardPath) : Option CacheEntry :=
  ((look c.sets (CardPath.set p)).find p).bind fun w => look (look c.sets (CardPath.set p)).ways w

/-- The set with a way moved to the most recent end of its order (R81). -/
def CacheSet.touch (t : CacheSet) (w : Fin 4) : CacheSet := { t with order := t.order.filter (· != w) ++ [w] }

/-- The set with a way's entry replaced. -/
def CacheSet.put (t : CacheSet) (w : Fin 4) (e : Option CacheEntry) : CacheSet :=
  { t with ways := update t.ways w fun _ => e }

/-- The set without the entries that satisfy `p`; order and pointer are kept. -/
def CacheSet.drop (t : CacheSet) (p : CacheEntry → Bool) : CacheSet :=
  (indexes 4).foldl (fun u w => if (look u.ways w).any p then u.put w none else u) t

/-- The number of valid entries of a set that satisfy `p`. -/
def CacheSet.count (t : CacheSet) (p : CacheEntry → Bool) : Nat :=
  ((indexes 4).filter fun w => (look t.ways w).any p).length

/-- The cache without the entries that satisfy `p`, in every set. -/
def Cache.drop (c : Cache) (p : CacheEntry → Bool) : Cache :=
  (indexes 8).foldl (fun d k => d.modSet k fun t => t.drop p) c

/-- The number of valid entries that satisfy `p`. -/
def Cache.count (c : Cache) (p : CacheEntry → Bool) : Nat := ((indexes 8).map fun k => (look c.sets k).count p).sum

/-- Whether the way mask enables no way (R77). -/
def Cache.noWay (c : Cache) : Bool := !(indexes 4).any fun w => look c.mask w

/-! ## Lookups -/

/-- The sweeps whose targets count: the one in flight and those waiting (R78, R86). -/
def Cache.targets (c : Cache) : List Sweep := (c.inFlight.map Prod.fst).toList ++ c.sweepQueue

/-- Carrying out a lookup: the entry of a hit, or none for a miss; an entry that a sweep is going to remove is
invalidated and taken as a miss (R78). -/
def Cache.lookup (c : Cache) (p : CardPath) : Option CacheEntry × Cache :=
  let k := CardPath.set p
  match (look c.sets k).find p with
  | none => (none, c)
  | some w =>
    match look (look c.sets k).ways w with
    | none => (none, c)
    | some e =>
      if c.targets.any fun x => x.matches e then (none, c.modSet k fun t => t.put w none)
      else (some e, c.modSet k fun t => t.touch w)

/-! ## Installs -/

/-- The first enabled way in the set's LRU order (R81). -/
def CacheSet.lruVictim (t : CacheSet) (mask : Vector Bool 4) : Option (Fin 4) := t.order.find? fun w => look mask w

/-- The first enabled way at or after the round-robin pointer (R82). -/
def CacheSet.roundVictim (t : CacheSet) (mask : Vector Bool 4) : Option (Fin 4) := firstFrom t.pointer fun w => look mask w

/-- The set with an entry placed: over the entry of the same path, else in the lowest enabled invalid way, else over the
victim of the policy (R80 to R82). -/
def CacheSet.install (t : CacheSet) (mask : Vector Bool 4) (policy : Replacement) (e : CacheEntry) : CacheSet :=
  match t.find e.path with
  | some w => (t.put w (some e)).touch w
  | none =>
    match (indexes 4).find? fun w => look mask w && (look t.ways w).isNone with
    | some w => (t.put w (some e)).touch w
    | none =>
      match policy with
      | .lru =>
        match t.lruVictim mask with
        | some w => (t.put w (some e)).touch w
        | none => t
      | .roundRobin =>
        match t.roundVictim mask with
        | some w => { (t.put w (some e)).touch w with pointer := next w }
        | none => t

/-- The cache with an offered result installed, or as it is when no way is enabled (R80). -/
def Cache.install (c : Cache) (e : CacheEntry) : Cache :=
  if c.noWay then c else c.modSet (CardPath.set e.path) fun t => t.install c.mask c.replacement e

/-! ## Invalidation, flushes and sweeps -/

/-- The entry of a written card path is invalidated (R88). -/
def Cache.invalidate (c : Cache) (p : CardPath) : Cache := c.modSet (CardPath.set p) fun t => t.drop fun e => e.path == p

/-- Every entry naming an account is invalidated (R89). -/
def Cache.invalidateAccount (c : Cache) (a : AccountNo) : Cache := c.drop fun e => e.account == a

/-- The ALL flush: every entry goes, the sweep in flight ends and the queue is emptied (R90). A sweep step chosen and not
yet taken is dropped with its sweep. DEDUCED (log entry 61). -/
def Cache.flushAll (c : Cache) : Cache :=
  { c.drop fun _ => true with
    sweepQueue := [], inFlight := none, access := if c.access = some .sweep then none else c.access }

/-- The RESIDENTS flush: entries whose staff marker is clear go (R90). -/
def Cache.flushResidents (c : Cache) : Cache := c.drop fun e => !e.attributes.staff

/-- A sweep request: satisfied by a waiting sweep, else queued, else carried out as an ALL flush (R85). The flag says
that it became an ALL flush. -/
def Cache.requestSweep (c : Cache) (w : Sweep) : Cache × Bool :=
  if c.sweepQueue.contains w then (c, false)
  else if c.sweepQueue.length < Config.sweepQueueSize then ({ c with sweepQueue := c.sweepQueue ++ [w] }, false)
  else (c.flushAll, true)

/-- The oldest sweep becomes the sweep in flight when none is (R86). -/
def Cache.beginSweep (c : Cache) : Cache :=
  match c.inFlight, c.sweepQueue with
  | none, w :: rest => { c with sweepQueue := rest, inFlight := some (w, 0) }
  | _, _ => c

/-- A sweep step: one set examined, its matching entries invalidated; the step of set 7 ends the sweep (R86). -/
def Cache.sweepStep (c : Cache) : Cache :=
  match c.inFlight with
  | none => c
  | some (w, k) =>
    { c.modSet k fun t => t.drop w.matches with inFlight := if k = 7 then none else some (w, next k) }

/-! ## The arbiter -/

/-- Whether a sweep is in flight or waiting (R87). -/
def Cache.sweepOutstanding (c : Cache) : Bool := c.inFlight.isSome || !c.sweepQueue.isEmpty

/-- The arbiter's choice (R87). -/
def Cache.choose (c : Cache) : Option CacheAccess :=
  let waits := !c.lookups.isEmpty
  match c.phase with
  | .lookup =>
    if waits && (!c.sweepOutstanding || decide (c.run < c.lookupBurst)) then some .lookup
    else if c.sweepOutstanding then some .sweep
    else none
  | .sweep =>
    if c.sweepOutstanding && (!waits || decide (c.run < c.sweepBurst)) then some .sweep
    else if waits then some .lookup
    else none

/-- Phase and run count after an access was chosen (R87). -/
def Cache.count1 (c : Cache) : CacheAccess → Cache
  | .lookup => if c.phase = .lookup then { c with run := c.run + 1 } else { c with phase := .lookup, run := 1 }
  | .sweep => if c.phase = .sweep then { c with run := c.run + 1 } else { c with phase := .sweep, run := 1 }

/-- The access chosen becomes the array's: it is counted, and a sweep step's sweep is in flight from now on (R86, R87). -/
def Cache.start (c : Cache) (a : CacheAccess) : Cache :=
  let d := { c.count1 a with access := some a }
  match a with
  | .lookup => d
  | .sweep => d.beginSweep

/-- When the array is idle the arbiter chooses its next access (R87). -/
def Cache.arbitrate (c : Cache) : Cache :=
  match c.access with
  | some _ => c
  | none =>
    match c.choose with
    | some a => c.start a
    | none => c

/-! ## The CACHE item -/

/-- The CACHE item applied: a way it disables, or enables, loses its entry in every set (R83). -/
def Cache.configure (c : Cache) (i : CacheItem) : Cache :=
  let changed (w : Fin 4) : Bool := look c.mask w != look i.mask w
  let d := (indexes 8).foldl (fun d k => d.modSet k fun t =>
    (indexes 4).foldl (fun u w => if changed w then u.put w none else u) t) c
  { d with mask := i.mask, replacement := i.replacement, sweepBurst := i.sweepBurst, lookupBurst := i.lookupBurst }

/-- Whether a CACHE item's bursts are in range (R83). -/
def CacheItem.inRange (i : CacheItem) : Bool :=
  decide (1 ≤ i.sweepBurst) && decide (i.sweepBurst ≤ 16) && decide (1 ≤ i.lookupBurst) && decide (i.lookupBurst ≤ 16)

end Sys2Proof.Machine
end

