-- ==== Sys2Proof/Machine/HostOps.lean ====
section
/-! DEFINITION. The host link unit's shared operations: the notice queue and its mask (R200, R201), replies (R197), and the
transmitter's choice (R199). -/
namespace Sys2Proof.Machine

/-- Whether the mask selects a notice; OVERRUN is always sent (R200). -/
def selects (k : NoticeMask) : Notice → Bool
  | .sessionArmed .. | .sessionStarted .. | .sessionEnded .. => k.session
  | .refusal .. => k.refusal
  | .unknownCard .. => k.unknownCard
  | .fault r _ =>
    match r.severity with
    | .note => k.faultNote
    | .stop => k.faultStop
    | .lockout => k.faultLockout
    | .room => k.faultRoom
  | .backlog .. => k.backlog
  | .demandEnd .. => k.demandEnd
  | .store .. => k.store
  | .startUp .. => k.startUp
  | .overrun .. => true

/-- A notice offered to the host link unit: dropped uncounted when its selection is clear, discarded and counted when
the queue is full, and otherwise at the tail of the queue (R200, R201). -/
def HostLink.offer (h : HostLink) (n : Notice) : HostLink :=
  if selects h.mask n then
    if h.notices.length < Config.noticeQueueSize then { h with notices := h.notices ++ [n] }
    else { h with overruns := countUp h.overruns }
  else h

/-- The state with a notice offered to the host link unit. -/
def State.notify (s : State) (n : Notice) : State := { s with host := s.host.offer n }

/-- The frame of a reply: the request's type with the reply mark, its tag, and the status before the results (R197). A type that
has the mark's bit already, refused UNKNOWN_REQUEST, is replied to with that same type. DESIGN CHOICE (log entry 88). -/
def replyFrame (request : Frame) (status : Status) (results : List Byte) : Frame :=
  ⟨request.type ||| 0x80#8, request.tag, u8 status.code ++ results⟩

/-- The owner hands the current request's reply to the host link unit: the reply is ready (R197). -/
def State.reply (s : State) (status : Status) (results : List Byte) : State :=
  match s.host.buffer with
  | request :: _ => { s with host := { s.host with ready := some (replyFrame request status results) } }
  | [] => s

/-- A refusal of the current request: the status alone (R197). -/
def State.refuse (s : State) (status : Status) : State := s.reply status []

/-- The transmitter's choice when it is free: the ready reply, else the oldest notice, which leaves the queue, an OVERRUN
notice taking its place when some were lost (R199, R201). -/
def HostLink.transmit (h : HostLink) : HostLink :=
  match h.sending with
  | some _ => h
  | none =>
    match h.ready with
    | some f => { h with sending := some f, ready := none }
    | none =>
      match h.notices with
      | [] => h
      | n :: rest =>
        if h.overruns = 0 then { h with sending := some n.frame, notices := rest }
        else { h with sending := some n.frame, notices := rest ++ [.overrun h.overruns], overruns := 0 }

/-- The state with the transmitter's choice made. -/
def State.transmit (s : State) : State := { s with host := s.host.transmit }

end Sys2Proof.Machine
end

