-- ==== Sys2Proof/Machine/LineOps.lean ====
section
/-! DEFINITION. The machine line controller's shared operations: the pending command table (R34 to R36), lamps (R43 to R47),
link records (R37 to R40), the arbiter (R41), and the entry of a machine record into a state. -/
namespace Sys2Proof.Machine

/-! ## The pending command table -/

/-- The table with a command queued: it replaces whatever its entry holds (R34). -/
def CommandTable.put (t : CommandTable) : NodeCommand → CommandTable
  | .stop id => { t with stop := some id }
  | .lock on => { t with lock := some on }
  | .enable id prog price mode => { t with arm := some (.enable id prog price mode) }
  | .disable id => { t with arm := some (.disable id) }
  | .go id => { t with go := some id }
  | .finish id => { t with finish := some id }
  | .heatGrant id => { t with heat := some (.grant id) }
  | .heatHold id => { t with heat := some (.hold id) }
  | .refuse r => { t with refuse := some r }
  | .lamp l => { t with lamp := some l }

/-- The command entry 3 holds. -/
def ArmCommand.command : ArmCommand → NodeCommand
  | .enable id prog price mode => .enable id prog price mode
  | .disable id => .disable id

/-- The command entry 6 holds. -/
def HeatCommand.command : HeatCommand → NodeCommand
  | .grant id => .heatGrant id
  | .hold id => .heatHold id

/-- The entries of the table in the send order of R36. -/
def CommandTable.entries (t : CommandTable) : List (Option NodeCommand) :=
  [t.stop.map .stop, t.lock.map .lock, t.arm.map ArmCommand.command, t.go.map .go, t.finish.map .finish,
    t.heat.map HeatCommand.command, t.refuse.map .refuse, t.lamp.map .lamp]

/-- The command a command frame carries: the first non-empty entry in the send order (R36). -/
def CommandTable.first (t : CommandTable) : Option NodeCommand := t.entries.findSome? id

/-- Whether every entry is empty. -/
def CommandTable.isEmpty (t : CommandTable) : Bool := t.first.isNone

/-- The command now in the entry a command belongs to. -/
def CommandTable.entryOf (t : CommandTable) : NodeCommand → Option NodeCommand
  | .stop _ => t.stop.map .stop
  | .lock _ => t.lock.map .lock
  | .enable _ _ _ _ | .disable _ => t.arm.map ArmCommand.command
  | .go _ => t.go.map .go
  | .finish _ => t.finish.map .finish
  | .heatGrant _ | .heatHold _ => t.heat.map HeatCommand.command
  | .refuse _ => t.refuse.map .refuse
  | .lamp _ => t.lamp.map .lamp

/-- The table with the entry a command belongs to emptied. -/
def CommandTable.clearEntry (t : CommandTable) : NodeCommand → CommandTable
  | .stop _ => { t with stop := none }
  | .lock _ => { t with lock := none }
  | .enable _ _ _ _ | .disable _ => { t with arm := none }
  | .go _ => { t with go := none }
  | .finish _ => { t with finish := none }
  | .heatGrant _ | .heatHold _ => { t with heat := none }
  | .refuse _ => { t with refuse := none }
  | .lamp _ => { t with lamp := none }

/-- The echo check at the end of an exchange that carried `sent`: the entry is emptied when the echo equals the command
now in it (R36). -/
def CommandTable.echo (t : CommandTable) (sent : Option NodeCommand) (echo : Option NodeCommand) : CommandTable :=
  match sent, echo with
  | some c, some e => if t.entryOf c = some e then t.clearEntry c else t
  | _, _ => t

/-- The table without any GO, FINISH, HEAT_GRANT, HEAT_HOLD or ENABLE that carries session id `id` (R35). -/
def CommandTable.dropSession (t : CommandTable) (id : Nat) : CommandTable :=
  { t with
    go := t.go.filter (· != id)
    finish := t.finish.filter (· != id)
    heat := t.heat.filter fun c => match c with | .grant i => i != id | .hold i => i != id
    arm := t.arm.filter fun c => match c with | .enable i _ _ _ => i != id | .disable _ => true }

/-- Whether an ENABLE, GO, FINISH, STOP or DISABLE stands unconfirmed, so that no summary is judged (R19, R36). -/
def CommandTable.holdsJudgement (t : CommandTable) : Bool :=
  t.stop.isSome || t.arm.isSome || t.go.isSome || t.finish.isSome

/-- Whether a command that turns the heater off stands unconfirmed: STOP, LOCK on, DISABLE, FINISH or HEAT_HOLD (R156). -/
def CommandTable.turnsHeaterOff (t : CommandTable) : Bool :=
  t.stop.isSome || t.lock == some true ||
    (match t.arm with | some (.disable _) => true | _ => false) ||
    t.finish.isSome || (match t.heat with | some (.hold _) => true | _ => false)

/-- A command queued for a machine's node; discarded while the link is DISABLED (R34). -/
def State.send (s : State) (m : MachineNo) (c : NodeCommand) : State :=
  if (s.link m).state = .disabled then s
  else s.modLink m fun l => { l with table := l.table.put c }

/-! ## Lamps -/

/-- The lamp sources of R43. -/
inductive LampSource where
  | outOfOrder | available | armed | heatHold | inUse | done
  deriving DecidableEq, Repr

/-- The lamp source of a machine record in a room that is closed or not: the first row of R43's table that applies. -/
def lampSource (r : MachineRecord) (closed : Bool) : Option LampSource :=
  if r.state = .unassigned then none
  else if r.cls = .washer && closed then some .outOfOrder
  else
    match r.state with
    | .lockedOut | .offline | .stranded | .recovering => some .outOfOrder
    | .idle => some .available
    | .armed | .authorising => some .armed
    | .running =>
      match r.session.map Session.heat with
      | some .waiting | some .withdrawn => some .heatHold
      | _ => some .inUse
    | .delayed => some .inUse
    | .done | .settling => some .done
    | .unassigned => none

/-- The computed pattern of a lamp source (R44). -/
def lampFor (k : LampMap) : LampSource → Lamp
  | .outOfOrder => k.outOfOrder
  | .available => k.available
  | .armed => k.armed
  | .heatHold => k.heatHold
  | .inUse => k.inUse
  | .done => k.done

/-- The computed pattern of machine `m`, if it has a lamp source. -/
def State.computedLamp (s : State) (m : MachineNo) : Option Lamp :=
  (lampSource (s.machine m) (s.guard (s.machine m).room).closed).map (lampFor s.lamps)

/-- LAMP queued with a pattern, and the pattern kept as the one last sent; discarded while the link is DISABLED (R34,
R45). DEDUCED (log entry 58). -/
def State.sendLamp (s : State) (m : MachineNo) (l : Lamp) : State :=
  if (s.link m).state = .disabled then s
  else (s.send m (.lamp l)).modMachine m fun r => { r with lampSent := l }

/-- The lamp source is recomputed: LAMP is queued when the computed pattern differs from the one last sent (R45). -/
def State.relamp (s : State) (m : MachineNo) : State :=
  match s.computedLamp m with
  | some l => if l = (s.machine m).lampSent then s else s.sendLamp m l
  | none => s

/-- The node's lamp is resynchronised: LAMP is queued whatever was last sent (R47). -/
def State.resyncLamp (s : State) (m : MachineNo) : State :=
  match s.computedLamp m with
  | some l => s.sendLamp m l
  | none => s

/-- Every machine's lamp source is recomputed (R44, R45). -/
def State.relampAll (s : State) : State := forEach (indexes 64) (fun m t => t.relamp m) s

/-! ## Entering machine states -/

/-- Whether any machine is RECOVERING. -/
def State.anyRecovering (s : State) : Bool := (indexes 64).any fun m => (s.machine m).state == .recovering

/-- The start-up state RECOVERING is left for READY once no machine is RECOVERING, with its START_UP notice (R209). -/
def State.endRecovering (s : State) : State :=
  if s.startUp = .recovering && !s.anyRecovering then
    ({ s with startUp := .ready }).notify (.startUp .ready s.store.state)
  else s

/-- Machine `m` enters a state; its lamp source is recomputed (R1). -/
def State.enter (s : State) (m : MachineNo) (st : MachineState) : State :=
  ((s.modMachine m fun r => { r with state := st }).relamp m).endRecovering

/-- The heat state of machine `m`'s session changes; its lamp source is recomputed (R43). -/
def State.setHeat (s : State) (m : MachineNo) (h : HeatState) : State :=
  (s.modSession m fun x => { x with heat := h }).relamp m

/-- Machine `m` enters OFFLINE, and passes straight on to IDLE when its node is enabled and its link ONLINE or SILENT
(R3). -/
def State.enterOffline (s : State) (m : MachineNo) : State :=
  let t := s.enter m .offline
  if (t.machine m).enabled && ((t.link m).state == .online || (t.link m).state == .silent) then t.enter m .idle
  else t

/-- The lockout mark of machine `m` is set: its slot's lockout code is to be written (R169, R181). -/
def State.markLockout (s : State) (m : MachineNo) : State :=
  { s with store := { s.store with lockoutMarks := update s.store.lockoutMarks m fun _ => true } }

/-- Machine `m` enters LOCKED_OUT with a code, and LOCK on is queued (R169). -/
def State.enterLockedOut (s : State) (m : MachineNo) (code : FaultCode) : State :=
  ((s.modMachine m fun r => { r with lockout := some code }).enter m .lockedOut).send m (.lock true)

/-! ## Links -/

/-- A DISABLED link starts PROBING: miss count 0, slow timer expired, table empty (R37). -/
def State.startProbing (s : State) (m : MachineNo) : State :=
  s.modLink m fun _ => ⟨.probing, 0, .expired, false, none, none, CommandTable.empty⟩

/-- A link becomes DISABLED: its record is emptied, a reply on its way is to be discarded (R37), and the machine's heater
fault flag is cleared (R156). -/
def State.disableLink (s : State) (m : MachineNo) : State :=
  let t := s.modLink m fun _ => Link.initial
  { t with
    line := { t.line with
      exchange := t.line.exchange.map fun x => if x.node = m then { x with discard := true } else x }
    feeder := { t.feeder with heaterFault := update t.feeder.heaterFault m fun _ => false } }

/-- A miss changes the link record according to the link state (R38). -/
def Link.miss (l : Link) : Link :=
  match l.state with
  | .online =>
    if l.misses + 1 < Config.missLimit then { l with misses := l.misses + 1 }
    else { l with misses := Config.missLimit, state := .silent, silentTimer := true, slow := .running }
  | .probing | .silent | .lost => { l with slow := .running }
  | .disabled => l

/-- The exchange ends: the line is free and the rotation pointer moves past the node addressed (R41). -/
def State.endExchange (s : State) (x : Exchange) : State :=
  { s with line := { s.line with exchange := none, pointer := next x.node } }

/-! ## The arbiter -/

/-- Group 1: ONLINE nodes whose table is not empty (R41). -/
def Link.hasCommand (l : Link) : Bool := l.state == .online && !l.table.isEmpty

/-- Group 2: PROBING, SILENT and LOST nodes whose slow timer has expired (R41). -/
def Link.slowDue (l : Link) : Bool :=
  (l.state == .probing || l.state == .silent || l.state == .lost) && l.slow == .expired

/-- The node the arbiter chooses: the first member, at or after the rotation pointer, of the first group that has one. A
node of group 3 has an empty table, so its frame is a POLL (R41). -/
def LineController.choose (c : LineController) : Option MachineNo :=
  (firstFrom c.pointer fun m => (look c.links m).hasCommand) <|>
    (firstFrom c.pointer fun m => (look c.links m).slowDue) <|>
      (firstFrom c.pointer fun m => (look c.links m).state == .online)

/-- When the line is free the controller begins the next exchange: a command frame with the table's first entry, or a
POLL, carrying the acknowledgement owed; the slow timer of a slow exchange starts (R33, R36, R41). -/
def LineController.begin (c : LineController) : LineController :=
  match c.exchange with
  | some _ => c
  | none =>
    match c.choose with
    | none => c
    | some m =>
      let l := look c.links m
      { c with
        exchange := some ⟨m, l.table.first, l.ackOwed, false⟩
        links := update c.links m fun l => if l.slowDue then { l with slow := .running } else l }

/-- The bytes of an exchange's master frame from the node address to the end of the payload (R28). -/
def Exchange.body (x : Exchange) : List Byte := Byte.ofNat x.node.1 :: Config.masterCoding x.command x.ack

/-- The master frame of an exchange as it goes out on the line: its body and the check byte over it (R28). -/
def Exchange.frame (x : Exchange) : List Byte := x.body ++ [crc8 x.body]

/-- What stands on the machine line: the master frame of the exchange open, if one is (R28). -/
def LineController.output (c : LineController) : List Byte :=
  match c.exchange with
  | some x => x.frame
  | none => []

/-- The state with the line's next exchange begun. -/
def State.beginExchange (s : State) : State := { s with line := s.line.begin }

end Sys2Proof.Machine
end

