-- ==== Sys2Proof/Machine/FeederOps.lean ====
section
/-! DEFINITION. The feeder budget unit's shared operations: what fits (R146), visits and grant passes (R147, R148), shedding
(R150), requests and releases (R142 to R144), the backlog (R155), and the handing of its results to the session engine
(R13, R149). -/
namespace Sys2Proof.Machine

/-! ## The unit alone -/

/-- The sum of the loads in a list of claims. -/
def loadOf (cs : List Claim) : Nat := (cs.map Claim.load).sum

/-- Granted load of room `r` (R146). -/
def Feeder.granted (f : Feeder) (r : RoomNo) : Nat := loadOf (look f.rooms r).grants

/-- Total granted load (R146). -/
def Feeder.total (f : Feeder) : Nat := ((indexes 4).map f.granted).sum

/-- The effective building limit (R139). -/
def Feeder.effectiveLimit (f : Feeder) : Nat :=
  match f.demand with
  | some d => min f.limit d.limit
  | none => f.limit

/-- Whether a load fits in room `r` (R146). -/
def Feeder.fits (f : Feeder) (r : RoomNo) (load : Nat) : Bool :=
  decide (f.granted r + load ≤ (look f.rooms r).capacity) && decide (f.total + load ≤ f.effectiveLimit)

/-- The number of entries in all queues (R155). -/
def Feeder.waiting (f : Feeder) : Nat :=
  ((indexes 4).map fun r => (look f.rooms r).newQueue.length + (look f.rooms r).resumeQueue.length).sum

/-- Whether machine `m` holds a grant, of any load. -/
def Feeder.holdsGrant (f : Feeder) (m : MachineNo) : Bool :=
  (indexes 4).any fun r => (look f.rooms r).grants.any (·.machine == m)

/-- Whether machine `m` stands in a queue. -/
def Feeder.queued (f : Feeder) (m : MachineNo) : Bool :=
  (indexes 4).any fun r =>
    (look f.rooms r).newQueue.any (·.machine == m) || (look f.rooms r).resumeQueue.any (·.machine == m)

/-- The unit with room `r` changed. -/
def Feeder.modRoom (f : Feeder) (r : RoomNo) (g : RoomFeeder → RoomFeeder) : Feeder :=
  { f with rooms := update f.rooms r g }

/-- A claim joins room `r`'s grant list and the building grant order, at the end of each. -/
def Feeder.addGrant (f : Feeder) (r : RoomNo) (c : Claim) : Feeder :=
  { f.modRoom r fun x => { x with grants := x.grants ++ [c] } with order := f.order ++ [c.machine] }

/-- The queue a turn names. -/
def RoomFeeder.queue (x : RoomFeeder) : Turn → List Claim
  | .new => x.newQueue
  | .resume => x.resumeQueue

/-- The other queue of a room. -/
def Turn.other : Turn → Turn
  | .new => .resume
  | .resume => .new

/-- The room with the head of a queue removed. -/
def RoomFeeder.dropHead (x : RoomFeeder) : Turn → RoomFeeder
  | .new => { x with newQueue := x.newQueue.drop 1 }
  | .resume => { x with resumeQueue := x.resumeQueue.drop 1 }

/-- The queue a visit chooses first (R148). -/
def Feeder.firstChoice (f : Feeder) (r : RoomNo) : Turn :=
  let x := look f.rooms r
  match f.mode with
  | .resumeFirst => if x.resumeQueue = [] then .new else .resume
  | .alternate => if x.queue x.turn = [] then x.turn.other else x.turn

/-- The head of a queue of room `r`, when it fits. -/
def Feeder.fittingHead (f : Feeder) (r : RoomNo) (q : Turn) : Option Claim :=
  match (look f.rooms r).queue q with
  | [] => none
  | c :: _ => if f.fits r c.load then some c else none

/-- Room `r`'s grant of the head of queue `q`: it leaves the queue and is granted, the rotation pointer names the room,
and in ALTERNATE mode the turn passes to the other queue (R147, R148). -/
def Feeder.grantHead (f : Feeder) (r : RoomNo) (q : Turn) (c : Claim) : Feeder :=
  let g := (f.modRoom r fun x => x.dropHead q).addGrant r c
  let g := { g with pointer := r }
  match f.mode with
  | .resumeFirst => g
  | .alternate => g.modRoom r fun x => { x with turn := q.other }

/-- A visit to room `r`: the head of the chosen queue is granted if it fits, else the head of the other queue if that
fits (R148). -/
def Feeder.visit (f : Feeder) (r : RoomNo) : Option (Feeder × MachineNo) :=
  let q := f.firstChoice r
  match f.fittingHead r q with
  | some c => some (f.grantHead r q c, c.machine)
  | none =>
    match f.fittingHead r q.other with
    | some c => some (f.grantHead r q.other c, c.machine)
    | none => none

/-- Visits round the rooms from `r`, until four in a row have granted nothing: `idle` counts those. `fuel` bounds the
visits; each grant takes an entry out of a queue, so four visits for each entry and four more are enough. -/
def Feeder.visits : Nat → Nat → RoomNo → Feeder → Feeder × List MachineNo
  | 0, _, _, f => (f, [])
  | fuel + 1, idle, r, f =>
    if 4 ≤ idle then (f, [])
    else
      match f.visit r with
      | some (g, m) =>
        let rest := Feeder.visits fuel 0 (next r) g
        (rest.1, m :: rest.2)
      | none => Feeder.visits fuel (idle + 1) (next r) f

/-- A grant pass: the unit after it, and the machines granted in grant order (R147). -/
def Feeder.pass (f : Feeder) : Feeder × List MachineNo :=
  Feeder.visits (4 * (f.waiting + 1) + 1) 0 (next f.pointer) f

/-- The unit without machine `m`'s grant and queue entry. -/
def Feeder.remove (f : Feeder) (m : MachineNo) : Feeder :=
  let g := (indexes 4).foldl (fun g r => g.modRoom r fun x =>
      { x with
        grants := x.grants.filter (·.machine != m)
        newQueue := x.newQueue.filter (·.machine != m)
        resumeQueue := x.resumeQueue.filter (·.machine != m) }) f
  { g with order := f.order.filter (· != m) }

/-- The claim of machine `m` among the grants of the rooms in `among`, with its room. -/
def Feeder.grantOf (f : Feeder) (among : List RoomNo) (m : MachineNo) : Option (RoomNo × Claim) :=
  among.findSome? fun r => ((look f.rooms r).grants.find? (·.machine == m)).map fun c => (r, c)

/-- The grant shedding withdraws next among the rooms eligible: the dryer grant latest in the building grant order, else
the washer grant latest in it; grants of load 0 are passed over (R150). -/
def Feeder.victim (f : Feeder) (isDryer : MachineNo → Bool) (among : List RoomNo) : Option (RoomNo × Claim) :=
  let eligible := (f.order.reverse.filterMap (f.grantOf among)).filter fun x => decide (0 < x.2.load)
  (eligible.find? fun x => isDryer x.2.machine) <|> eligible.head?

/-- One withdrawal: the grant leaves its list and the building order and joins the tail of its room's RESUME queue
(R150). -/
def Feeder.withdraw (f : Feeder) (r : RoomNo) (c : Claim) : Feeder :=
  { f.modRoom r fun x =>
      { x with grants := x.grants.filter (·.machine != c.machine), resumeQueue := x.resumeQueue ++ [c] } with
    order := f.order.filter (· != c.machine) }

/-- Withdrawals among the rooms eligible while `excess` holds; `fuel` bounds them by the grants standing. -/
def Feeder.shedWhile (isDryer : MachineNo → Bool) (among : List RoomNo) (excess : Feeder → Bool) :
    Nat → Feeder → Feeder × List MachineNo
  | 0, f => (f, [])
  | fuel + 1, f =>
    if excess f then
      match f.victim isDryer among with
      | some (r, c) =>
        let rest := Feeder.shedWhile isDryer among excess fuel (f.withdraw r c)
        (rest.1, c.machine :: rest.2)
      | none => (f, [])
    else (f, [])

/-- Shedding of one room: while its granted load exceeds its capacity (R150 step 1). -/
def Feeder.shedRoom (isDryer : MachineNo → Bool) (f : Feeder) (r : RoomNo) : Feeder × List MachineNo :=
  Feeder.shedWhile isDryer [r] (fun g => decide ((look g.rooms r).capacity < g.granted r)) f.order.length f

/-- Shedding: the rooms in number order, then the building (R150). The machines withdrawn are in order. -/
def Feeder.shed (isDryer : MachineNo → Bool) (f : Feeder) : Feeder × List MachineNo :=
  let rooms := (indexes 4).foldl
    (fun acc r => let x := Feeder.shedRoom isDryer acc.1 r; (x.1, acc.2 ++ x.2)) (f, [])
  let building := Feeder.shedWhile isDryer (indexes 4) (fun g => decide (g.effectiveLimit < g.total))
    rooms.1.order.length rooms.1
  (building.1, rooms.2 ++ building.2)

/-! ## The unit and the session engine -/

/-- A grant event, or the answer GRANT: heat state GRANTED and HEAT_GRANT sent (R13). -/
def State.takeGrant (s : State) (m : MachineNo) : State :=
  match s.session m with
  | some x => (s.setHeat m .granted).send m (.heatGrant x.id)
  | none => s

/-- A withdrawal event: heat state WITHDRAWN and HEAT_HOLD sent (R13). -/
def State.takeWithdrawal (s : State) (m : MachineNo) : State :=
  match s.session m with
  | some x => (s.setHeat m .withdrawn).send m (.heatHold x.id)
  | none => s

/-- The answer HOLD: heat state WAITING and HEAT_HOLD sent (R13). -/
def State.takeHold (s : State) (m : MachineNo) : State :=
  match s.session m with
  | some x => (s.setHeat m .waiting).send m (.heatHold x.id)
  | none => s

/-- A grant pass, its grants handed to the session engine in grant order; the machines granted (R147, R149). -/
def State.runPass (s : State) : State × List MachineNo :=
  let p := s.feeder.pass
  (forEach p.2 (fun m t => t.takeGrant m) { s with feeder := p.1 }, p.2)

/-- Shedding, its withdrawals handed to the session engine in order; how many there were (R149, R150). -/
def State.runShedding (s : State) : State × Nat :=
  let p := Feeder.shed (fun m => (s.machine m).cls == .dryer) s.feeder
  (forEach p.2 (fun m t => t.takeWithdrawal m) { s with feeder := p.1 }, p.2.length)

/-- The backlog is judged once at the end of an event of the unit (R155). -/
def State.judgeBacklog (s : State) : State :=
  let n := s.feeder.waiting
  if s.feeder.backlog then
    if n ≤ s.feeder.low then ({ s with feeder := { s.feeder with backlog := false } }).notify (.backlog false n) else s
  else
    if s.feeder.high ≤ n then ({ s with feeder := { s.feeder with backlog := true } }).notify (.backlog true n) else s

/-- A grant or queue entry of machine `m` is removed and a grant pass run; a machine in neither changes nothing, and no
pass is run (R144). -/
def State.dropClaim (s : State) (m : MachineNo) : State :=
  if s.feeder.holdsGrant m || s.feeder.queued m then ({ s with feeder := s.feeder.remove m }).runPass.1 else s

/-- A release (R144), the backlog judged at its end (R155). -/
def State.releaseHeat (s : State) (m : MachineNo) : State := (s.dropClaim m).judgeBacklog

/-- A heat request of load `load` from a machine that holds no grant and stands in no queue (R142, R143). A grant of load 0 leaves
the rotation pointer. DEDUCED (log entry 81). -/
def State.claimHeat (s : State) (m : MachineNo) (load : Nat) : State :=
  let r := (s.machine m).room
  if load = 0 then
    (({ s with feeder := s.feeder.addGrant r (Claim.mk m 0) }).takeGrant m).judgeBacklog
  else
    let joined := { s with feeder := s.feeder.modRoom r fun x => { x with newQueue := x.newQueue ++ [Claim.mk m load] } }
    let passed := joined.runPass
    (if passed.2.contains m then passed.1 else passed.1.takeHold m).judgeBacklog

/-- The heat load of a programme of a class (R120, R121). -/
def Tariff.heatLoad (t : Tariff) (cls : MachineClass) (p : ProgrammeNo) : Nat :=
  match cls with
  | .washer => (look t.washers p).heat
  | .dryer => (look t.dryers p).heat

/-- A heat request of machine `m` for its session's programme (R141); from a machine that holds a grant or stands in a
queue it is taken as a release first (R143). DEDUCED (log entry 32). -/
def State.requestHeat (s : State) (m : MachineNo) : State :=
  match s.session m with
  | none => s
  | some x =>
    let load := s.tariff.heatLoad (s.machine m).cls x.programme
    (s.dropClaim m).claimHeat m load

/-- What a change of a capacity, of the building limit or of the demand state runs: shedding, a grant pass, the backlog
(R151, R152). The number is that of grants withdrawn. -/
def State.rebalance (s : State) : State × Nat :=
  let shed := s.runShedding
  (shed.1.runPass.1.judgeBacklog, shed.2)

end Sys2Proof.Machine
end

