-- ==== Sys2Proof/Machine/SessionOps.lean ====
section
/-! DEFINITION. The session engine's shared operations: asking for settlement and taking its completion (R6, R7, R35), the
abandonment of an authorisation (R9), arming, the entry to RUNNING (R12), and refusals at the node (R8, R9). -/
namespace Sys2Proof.Machine

/-! ## Asking for settlement -/

/-- The SETTLE request of machine `m`'s ended session, carrying `e`, joins the payment request queue (R6 step 5). -/
def State.placeSettle (s : State) (m : MachineNo) (e : Nat) : State :=
  match s.session m with
  | none => s
  | some x =>
    match x.endCause with
    | none => s
    | some cause =>
      (s.modMachine m fun r => { r with outstanding := .settle }).enqueue (.settle m x.id cause e x.paused)

/-- The command a session's end sends, by the state it ended in (R6). -/
def endCommand (was : MachineState) (cause : EndCause) (id : Nat) : Option NodeCommand :=
  match was with
  | .authorising | .armed | .delayed => some (.disable id)
  | .running | .stranded => if cause = .completed then none else some (.stop id)
  | _ => none

/-- Whether a session ended in this state has its id copied to the stopped session id (R6). An abandoned authorisation
that succeeded ends as an ARMED release (R9). -/
def endsBeforeStart (was : MachineState) : Bool :=
  match was with
  | .authorising | .armed | .delayed => true
  | _ => false

/-- Timers stopped, end cause set, after-settle state set (R6 steps 1 and 3); the last end cause is that of the session now
settling (R1). DEDUCED (log entry 69). -/
def MachineRecord.ended (r : MachineRecord) (cause : EndCause) (after : AfterSettle) : MachineRecord :=
  { r with
    session := r.session.map fun x => { x with endCause := some cause }
    armTimer := none
    minuteTimer := false
    graceTimer := none
    recoveryWindow := false
    lastEnd := some cause
    afterSettle := after }

/-- The node's table loses the ended session's commands, and the end's own command is queued (R6, R35). -/
def State.endCommands (s : State) (m : MachineNo) (was : MachineState) (cause : EndCause) (id : Nat) : State :=
  let t := s.modLink m fun l => { l with table := l.table.dropSession id }
  match endCommand was cause id with
  | some c => t.send m c
  | none => t

/-- The session of machine `m` ends and settlement is requested, the request carrying `e` (R6). A session with no part is
completed by `completeIfEmpty`, after whatever its event still queues. -/
def State.endSessionWith (s : State) (m : MachineNo) (cause : EndCause) (after : AfterSettle) (e : Nat) : State :=
  match s.session m with
  | none => s
  | some x =>
    let was := (s.machine m).state
    let t := s.modMachine m fun r => r.ended cause after
    let t := (t.releaseHeat m).setHeat m .none
    let t := (t.enter m .settling).endCommands m was cause x.id
    let t := if endsBeforeStart was then t.modMachine m fun r => { r with stoppedId := x.id } else t
    if x.parts ≠ [] ∧ (s.machine m).outstanding = .none then t.placeSettle m e else t

/-- The session of machine `m` ends with its own `e` (R6). -/
def State.endSession (s : State) (m : MachineNo) (cause : EndCause) (after : AfterSettle) : State :=
  s.endSessionWith m cause after ((s.session m).map Session.elapsed |>.getD 0)

/-! ## Completion -/

/-- The total of the captured charges of a list of parts. -/
def totalCharge (parts : List Part) : Nat := (parts.map fun p => p.charge.getD 0).sum

/-- The total charge is written into the ending record of machine `m`'s session, if the log still holds it (R163). -/
def State.writeCharge (s : State) (m : MachineNo) (total : Nat) : State :=
  match look s.supervisor.ending m with
  | none => s
  | some q =>
    { s with supervisor := { s.supervisor with
        log := s.supervisor.log.map fun r => if r.sequence = q then { r with charge := some total } else r
        ending := update s.supervisor.ending m fun _ => none } }

/-- Machine `m` enters its after-settle state (R7 step 4). `slotCode` is the lockout code the settlement's slot write
wrote, when it made one: the lockout slot update is marked unless that write wrote the code now latched (R169).
DEDUCED (log entry 31). DEDUCED (log entry 55). -/
def State.enterAfter (s : State) (m : MachineNo) (slotCode : Option (Option FaultCode)) : State :=
  match (s.machine m).afterSettle with
  | .lockedOut code =>
    let t := s.enterLockedOut m code
    if slotCode = some (some code) then t else t.markLockout m
  | .offline => s.enterOffline m
  | .idle => s.enter m .idle
  | .done =>
    let t := s.enter m .done
    if (s.machine m).doorOpened then
      (t.modMachine m fun r => { r with doorOpened := false }).enter m .idle
    else t

/-- The session engine takes the completion of machine `m`'s settlement (R7). -/
def State.completeSettlement (s : State) (m : MachineNo) (parts : List Part)
    (slotCode : Option (Option FaultCode)) : State :=
  match s.session m with
  | none => s
  | some x =>
    let t := s.modMachine m fun r => { r with lastEnd := x.endCause }
    let t := t.notify (.sessionEnded m x.id x.mode x.endCause x.elapsed x.paused parts)
    let t := t.writeCharge m (totalCharge parts)
    (t.modMachine m fun r => { r with session := none, outstanding := .none }).enterAfter m slotCode

/-- A settlement of a session with no part completes at once (R6 step 7). DEDUCED (log entry 33). -/
def State.completeIfEmpty (s : State) (m : MachineNo) : State :=
  match s.session m with
  | some x =>
    if (s.machine m).state = .settling ∧ x.parts = [] then s.completeSettlement m [] none else s
  | none => s

/-! ## Abandonment -/

/-- The mark of an abandoned authorisation: a lockout mark replaces an earlier mark of node loss or leak, and in every
other case the first mark stands (R9). -/
def markAbandoned (old : Option Abandonment) (new : Abandonment) : Abandonment :=
  match old, new with
  | none, _ => new
  | some .nodeLoss, .lockout c | some .leak, .lockout c => .lockout c
  | some a, _ => a

/-- Machine `m`'s authorisation is abandoned (R9). -/
def State.abandon (s : State) (m : MachineNo) (a : Abandonment) : State :=
  s.modMachine m fun r => { r with abandoned := some (markAbandoned r.abandoned a) }

/-- The fault code an abandonment mark gives the end cause (R9). -/
def Abandonment.code : Abandonment → FaultCode
  | .nodeLoss => .nodeLost
  | .lockout c => c
  | .leak => .leak

/-- The after-settle state an abandonment mark gives (R9). -/
def Abandonment.after : Abandonment → AfterSettle
  | .nodeLoss => .offline
  | .lockout c => .lockedOut c
  | .leak => .idle

/-! ## Starting -/

/-- The session id after the counter's value: 65535 is followed by 1 (R2). -/
def nextId (n : Nat) : Nat := if n < 65535 then n + 1 else 1

/-- The session id counter advances (R4). -/
def State.takeId (s : State) : State := { s with engine := { s.engine with idCounter := nextId s.engine.idCounter } }

/-- A session with no part yet, heat NONE and counters 0 (R4, R8). -/
def newSession (id : Nat) (programme : ProgrammeNo) (mode : Mode) (delay units : Nat) (parts : List Part) : Session where
  id := id
  programme := programme
  mode := mode
  delay := delay
  units := units
  elapsed := 0
  paused := 0
  heat := .none
  increment := 0
  finishSent := false
  overrunRaised := false
  doorFaultRaised := false
  strandedFrom := none
  parts := parts
  endCause := none
  startDay := 0
  startMinute := 0
  allowance := 0

/-- Machine `m` enters ARMED: ENABLE carrying `price` is sent, tARM is started and a SESSION ARMED notice is queued (R9,
R24). -/
def State.arm (s : State) (m : MachineNo) (price : Nat) : State :=
  match s.session m with
  | none => s
  | some x =>
    let t := (s.enter m .armed).send m (.enable x.id x.programme price x.mode)
    let t := t.modMachine m fun r => { r with armTimer := some s.engine.armSeconds }
    t.notify (.sessionArmed m x.id x.mode x.programme x.units x.parts.head?)

/-- The increment length L of a dryer's programme (R121). -/
def State.lengthOf (s : State) (p : ProgrammeNo) : Nat := (look s.tariff.dryers p).length

/-- Machine `m` enters RUNNING by GO: start day and minute taken, minute timer started, overrun allowance taken, SESSION
STARTED queued; a dryer loads its counter, waits and asks for heat (R12, R16). -/
def State.goRunning (s : State) (m : MachineNo) : State :=
  match s.session m with
  | none => s
  | some x =>
    let t := s.send m (.go x.id)
    let t := t.modMachine m fun r => { r with armTimer := none, minuteTimer := true }
    let t := t.modSession m fun y =>
      { y with startDay := s.clock.day, startMinute := s.clock.minute, allowance := s.engine.overrunMinutes }
    let t := (t.enter m .running).notify (.sessionStarted m x.id x.mode s.clock.day s.clock.minute)
    match (s.machine m).cls with
    | .washer => t
    | .dryer =>
      let t := t.modSession m fun y => { y with increment := s.lengthOf x.programme }
      (t.setHeat m .waiting).requestHeat m

/-- START_PRESSED taken at an ARMED machine (R10). -/
def State.takeStart (s : State) (m : MachineNo) : State :=
  match s.session m with
  | none => s
  | some x =>
    match x.mode with
    | .delayed =>
      (s.modMachine m fun r => { r with armTimer := none, minuteTimer := true }).enter m .delayed
    | _ => s.goRunning m

/-- Release of machine `m`'s heat with heat state NONE (R13 item 4). -/
def State.endHeat (s : State) (m : MachineNo) : State := (s.releaseHeat m).setHeat m .none

/-- FINISH is sent, the flag set and the heat released (R15). -/
def State.finish (s : State) (m : MachineNo) : State :=
  match s.session m with
  | none => s
  | some x =>
    let t := (s.send m (.finish x.id)).modSession m fun y => { y with finishSent := true }
    t.endHeat m

/-- Machine `m` becomes STRANDED (R20). -/
def State.strand (s : State) (m : MachineNo) (origin : StrandedFrom) : State :=
  let t := s.modSession m fun x => { x with strandedFrom := some origin }
  let t := t.modMachine m fun r => { r with minuteTimer := false, graceTimer := some s.engine.graceMinutes }
  (t.releaseHeat m).enter m .stranded

/-- The normal end of a RUNNING session (R14, R15): heat released, settlement with cause COMPLETED. -/
def State.complete (s : State) (m : MachineNo) : State := (s.endSession m .completed .done).completeIfEmpty m

/-! ## Refusals at the node -/

/-- A card is refused: REFUSE is sent and a REFUSAL notice is queued (R8, R9, R17). -/
def State.refuseCard (s : State) (m : MachineNo) (card : CardId) (why : Reason) : State :=
  (s.send m (.refuse why)).notify (.refusal m card why)

end Sys2Proof.Machine
end

