-- ==== Sys2Proof/Machine/FaultOps.lean ====
section
/-! DEFINITION. The fault supervisor's shared operations: classification (R158, R159, R162), the log (R165, R166), orders
(R26, R164), reports of every source, and the closing of a room (R172 to R176). -/
namespace Sys2Proof

/-- The detection rule a code belongs to, by its bit in RULES_SET (R158, 10.6). -/
def FaultCode.rule : FaultCode → Option (Fin 8)
  | .nodeLost => some 0
  | .overrun => some 1
  | .doorOpenRunning => some 2
  | .heatWithoutGrant => some 3
  | .leak => some 4
  | .powerInterrupt => some 5
  | .storeDamaged => some 6
  | .storeRepair => some 7
  | .node _ | .foreignRun | .operatorLock | .restoredLockout | .leakCleared => none

end Sys2Proof

namespace Sys2Proof.Machine

/-! ## Classification -/

/-- Whether a report of this code is recorded: its detection rule, if it has one, is enabled (R159). -/
def Supervisor.records (v : Supervisor) (c : FaultCode) : Bool :=
  match c.rule with
  | some k => look v.enables k
  | none => true

/-- The severity of a machine report that is no node-loss note (R158, R159). -/
def Supervisor.severityOf (v : Supervisor) : FaultCode → Severity
  | .node f => look v.severities f.index
  | .nodeLost | .overrun | .doorOpenRunning | .heatWithoutGrant | .operatorLock | .restoredLockout => .lockout
  | .powerInterrupt | .leak => .stop
  | .storeDamaged | .storeRepair | .foreignRun | .leakCleared => .note

/-- An order of the supervisor (R26). -/
inductive Order where
  | stop | lockout
  deriving DecidableEq, Repr

/-- Whether an after-settle state is LOCKED_OUT. -/
def AfterSettle.isLockedOut : AfterSettle → Bool
  | .lockedOut _ => true
  | .idle | .done | .offline => false

/-- Whether an abandonment mark is one for lockout. -/
def Abandonment.isLockout : Option Abandonment → Bool
  | some (.lockout _) => true
  | _ => false

/-- The judgement of a machine report by the machine's state: the severity recorded and the order given (R162). -/
def judgeFault (r : MachineRecord) : Severity → Severity × Option Order
  | .stop =>
    match r.state with
    | .armed | .delayed | .running | .stranded => (.stop, some .stop)
    | _ => (.note, none)
  | .lockout =>
    match r.state with
    | .armed | .delayed | .running | .stranded | .idle | .done | .offline => (.lockout, some .lockout)
    | .authorising => if Abandonment.isLockout r.abandoned then (.note, none) else (.lockout, some .lockout)
    | .settling | .recovering => if r.afterSettle.isLockedOut then (.note, none) else (.lockout, some .lockout)
    | .lockedOut | .unassigned => (.note, none)
  | _ => (.note, none)

/-! ## The log -/

/-- Whether a sequence number names a protected record: a machine's locking record, or the closing record of a room still
closed (R166). -/
def Supervisor.isProtected (v : Supervisor) (q : Nat) : Bool :=
  (indexes 64).any (fun m => look v.locking m == some q) ||
    (indexes 4).any (fun r => (look v.rooms r).closing == some q)

/-- The record a full log discards (R166). -/
def Supervisor.toDiscard (v : Supervisor) : Option FaultRecord :=
  (v.log.find? fun r => r.acknowledged && !v.isProtected r.sequence) <|>
    (v.log.find? fun r => !r.acknowledged && r.severity == .note) <|>
      (v.log.find? fun r => !r.acknowledged && r.severity == .stop) <|>
        v.log.find? fun r => !v.isProtected r.sequence

/-- The supervisor with one record discarded when the log is full (R166). -/
def Supervisor.makeRoom (v : Supervisor) : Supervisor :=
  if v.log.length < Config.faultLogSize then v
  else
    match v.toDiscard with
    | some r => { v with log := v.log.erase r }
    | none => v

/-- The sequence number after `n` (R165). -/
def nextSequence (n : Nat) : Nat := (n + 1) % 4294967296

/-- A record is written in the log; its sequence number is then the counter (R165). -/
def State.writeRecord (s : State) (source : Source) (code : FaultCode) (severity : Severity) (ref : Reference) :
    State :=
  let v := s.supervisor.makeRoom
  let q := nextSequence v.counter
  let r : FaultRecord := ⟨q, s.clock.day, s.clock.minute, source, code, severity, ref, none, false⟩
  { s with supervisor := { v with log := v.log ++ [r], counter := q } }

/-- The record of a sequence number. -/
def Supervisor.record? (v : Supervisor) (q : Nat) : Option FaultRecord := v.log.find? fun r => r.sequence == q

/-- Whether machine `m` has an unacknowledged record in the log, so that it is in its room's pending set (R168). -/
def Supervisor.isPending (v : Supervisor) (m : MachineNo) : Bool :=
  v.log.any fun r => r.source == .machine m && !r.acknowledged

/-- A room's pending set (R168). -/
def State.pendingSet (s : State) (r : RoomNo) : List MachineNo :=
  (indexes 64).filter fun m => (s.machine m).room == r && s.supervisor.isPending m

/-- The count a FAULT notice carries: machines in the pending set of the source machine's room; 0 for another source
(R164). DEDUCED (log entry 37). -/
def State.pendingCount (s : State) : Source → Nat
  | .machine m => (s.pendingSet (s.machine m).room).length
  | .room _ | .part => 0

/-- The FAULT notice of the record just written (R164 step 5). -/
def State.faultNotice (s : State) : State :=
  match s.supervisor.record? s.supervisor.counter with
  | some r => s.notify (.fault r (s.pendingCount r.source))
  | none => s

/-- The record just written becomes machine `m`'s locking record (R162). -/
def State.setLocking (s : State) (m : MachineNo) (q : Option Nat) : State :=
  { s with supervisor := { s.supervisor with locking := update s.supervisor.locking m fun _ => q } }

/-- The ending record of machine `m`'s session is set or forgotten (R163). -/
def State.setEnding (s : State) (m : MachineNo) (q : Option Nat) : State :=
  { s with supervisor := { s.supervisor with ending := update s.supervisor.ending m fun _ => q } }

/-- The session id a machine's record names: that of the session it holds (R165). -/
def State.sessionRef (s : State) (m : MachineNo) : Reference :=
  match s.session m with
  | some x => .session x.id
  | none => .none

/-! ## Orders -/

/-- A STOP order at machine `m` (R26). -/
def State.stopOrder (s : State) (m : MachineNo) (code : FaultCode) : State :=
  match (s.machine m).state with
  | .armed | .delayed | .running | .stranded => s.endSession m (.fault code) .done
  | _ => s

/-- A LOCKOUT order at machine `m` (R26). -/
def State.lockoutOrder (s : State) (m : MachineNo) (code : FaultCode) : State :=
  match (s.machine m).state with
  | .armed | .delayed | .running | .stranded => s.endSession m (.fault code) (.lockedOut code)
  | .authorising => s.abandon m (.lockout code)
  | .settling | .recovering => s.modMachine m fun r => { r with afterSettle := .lockedOut code }
  | .idle | .done | .offline => (s.enterLockedOut m code).markLockout m
  | .lockedOut | .unassigned => s

/-- An order carried out (R26). -/
def State.carryOut (s : State) (m : MachineNo) (code : FaultCode) : Order → State
  | .stop => s.stopOrder m code
  | .lockout => s.lockoutOrder m code

/-- Whether an order in this state ends or abandons a session, so that its record is the session's ending record
(R163). -/
def orderEnds (st : MachineState) : Bool :=
  match st with
  | .armed | .delayed | .running | .stranded | .authorising => true
  | _ => false

/-- The record just written is linked to the order it gives: a LOCKOUT record becomes the locking record, and the record
of an order that ends a session its ending record (R162, R163). -/
def State.linkRecord (s : State) (m : MachineNo) (o : Order) : State :=
  let q := some s.supervisor.counter
  let t := if o = .lockout then s.setLocking m q else s
  if orderEnds (s.machine m).state then t.setEnding m q else t

/-! ## Reports -/

/-- A machine report of severity `sev` is judged, recorded and ordered (R162, R164). -/
def State.recordReport (s : State) (m : MachineNo) (code : FaultCode) (sev : Severity) : State :=
  let j := judgeFault (s.machine m) sev
  let t := s.writeRecord (.machine m) code j.1 (s.sessionRef m)
  let t := match j.2 with
    | some o => (t.linkRecord m o).carryOut m code o
    | none => t
  (t.faultNotice).completeIfEmpty m

/-- A machine report that marks no session's end (R158, R159): not recorded when its rule is disabled. -/
def State.reportFault (s : State) (m : MachineNo) (code : FaultCode) : State :=
  if s.supervisor.records code then s.recordReport m code (s.supervisor.severityOf code) else s

/-- A session-ending report: with its rule disabled the STOP order is still given, with no record and no notice
(R159). -/
def State.reportEnding (s : State) (m : MachineNo) (code : FaultCode) : State :=
  if s.supervisor.records code then s.recordReport m code (s.supervisor.severityOf code)
  else (s.stopOrder m code).completeIfEmpty m

/-- The NODE_LOST report of severity NOTE (R158). `ends` says that it is the ending record of the machine's session
(R163). -/
def State.noteNodeLost (s : State) (m : MachineNo) (ends : Bool) : State :=
  if s.supervisor.records .nodeLost then
    let t := s.writeRecord (.machine m) .nodeLost .note (s.sessionRef m)
    (if ends then t.setEnding m (some t.supervisor.counter) else t).faultNotice
  else s

/-- A session-ending report from RECOVERING, the settlement's request carrying `e` (R22, R163).
DEDUCED (log entry 28). DEDUCED (log entry 38). -/
def State.reportRecovery (s : State) (m : MachineNo) (code : FaultCode) (e : Nat) : State :=
  let records := s.supervisor.records code
  let sev := if records then s.supervisor.severityOf code else .stop
  let already := (s.machine m).afterSettle
  let after := if already.isLockedOut then already else if sev = .lockout then .lockedOut code else .done
  if records then
    let t := s.writeRecord (.machine m) code (if already.isLockedOut then .note else sev) (s.sessionRef m)
    let q := some t.supervisor.counter
    let t := if sev = .lockout ∧ !already.isLockedOut then t.setLocking m q else t
    (((t.setEnding m q).endSessionWith m (.fault code) after e).faultNotice).completeIfEmpty m
  else (s.endSessionWith m (.fault code) after e).completeIfEmpty m

/-- A report of the part itself, always a NOTE (R158, R165). -/
def State.reportPart (s : State) (code : FaultCode) (ref : Reference) : State :=
  if s.supervisor.records code then (s.writeRecord .part code .note ref).faultNotice else s

/-! ## Leaks -/

/-- Whether room `r` is closed. -/
def State.roomClosed (s : State) (r : RoomNo) : Bool := (s.guard r).closed

/-- Whether machine `m` is a washer whose room is closed. -/
def State.washerShut (s : State) (m : MachineNo) : Bool :=
  (s.machine m).cls == .washer && s.roomClosed (s.machine m).room

/-- The washers assigned to room `r`, in number order. DESIGN CHOICE (log entry 83). -/
def State.washersOf (s : State) (r : RoomNo) : List MachineNo :=
  (indexes 64).filter fun m => (s.machine m).assigned && (s.machine m).cls == .washer && (s.machine m).room == r

/-- The machines assigned to room `r`, washers and dryers. -/
def State.machinesOf (s : State) (r : RoomNo) : List MachineNo :=
  (indexes 64).filter fun m => (s.machine m).assigned && (s.machine m).room == r

/-- The lamp source of each machine of room `r` is recomputed, as when the room closes or reopens (R43). -/
def State.relampRoom (s : State) (r : RoomNo) : State := forEach (s.machinesOf r) (fun m u => u.relamp m) s

/-- What a leak onset gives one washer of the room (R173 step 3). -/
def State.leakOrder (s : State) (m : MachineNo) : State :=
  if (s.machine m).state = .authorising then s.abandon m .leak else s.stopOrder m .leak

/-- A level is the onset level of an edge select; with OFF there is none (R172). -/
def EdgeSelect.onset (e : EdgeSelect) (high : Bool) : Bool :=
  match e with
  | .off => false
  | .rising => high
  | .falling => !high

/-- The onset at an open room (R173), whose closing recomputes the lamp of every machine assigned to it (R43). The washers take their
orders in number order. DESIGN CHOICE (log entry 83). -/
def State.closeRoom (s : State) (r : RoomNo) : State :=
  let t := s.writeRecord (.room r) .leak .room .none
  let q := some t.supervisor.counter
  let t := t.modGuard r fun g => { g with closed := true, valveOpen := false, closing := q }
  let washers := s.washersOf r
  let t := forEach washers (fun m u => u.leakOrder m) t
  forEach washers (fun m u => u.completeIfEmpty m) (t.relampRoom r).faultNotice

/-- An onset is taken (R173, R174). -/
def State.takeOnset (s : State) (r : RoomNo) : State :=
  if s.roomClosed r then
    let acked := ((s.guard r).closing.bind s.supervisor.record?).all fun x => x.acknowledged
    if acked then
      let t := s.writeRecord (.room r) .leak .room .none
      let q := some t.supervisor.counter
      (t.modGuard r fun g => { g with closing := q }).faultNotice
    else (s.writeRecord (.room r) .leak .note .none).faultNotice
  else s.closeRoom r

/-- A clear is taken (R174). -/
def State.takeClear (s : State) (r : RoomNo) : State := (s.writeRecord (.room r) .leakCleared .note .none).faultNotice

/-- Whether the LEAK rule is enabled. -/
def State.leakRule (s : State) : Bool := s.supervisor.records .leak

/-- A room is re-judged after a change of its edge select or an enabling of the LEAK rule (R176). -/
def State.rejudgeRoom (s : State) (r : RoomNo) : State :=
  if !s.roomClosed r && s.leakRule && EdgeSelect.onset (s.guard r).edge (s.guard r).filtered then s.closeRoom r else s

end Sys2Proof.Machine
end

