-- ==== Sys2Proof/Machine/DirectoryOps.lean ====
section
/-! DEFINITION. The card directory unit's operations: open windows (R50, R51), the step of a walk (R57, R58), stale marking
(R69), the page pools and reference counts (R71, R72), day updates (R61), and the writes of a DIRECTORY_WRITE (R63 to
R67). -/
namespace Sys2Proof.Machine

/-! ## Windows -/

/-- Whether a class filter admits a class (R50). -/
def ClassFilter.admits : ClassFilter → MachineClass → Bool
  | .any, _ => true
  | .washers, .washer => true
  | .dryers, .dryer => true
  | _, _ => false

/-- Whether a window matches a card at a machine of a class (R50). -/
def Window.matches (w : Window) (card : CardId) (cls : MachineClass) : Bool :=
  w.enabled && w.site == card.site && decide (w.floorLow ≤ card.path.floor.1) && decide (card.path.floor.1 ≤ w.floorHigh)
    && w.flat.all (· == card.path.flat) && w.ordinal.all (· == card.path.ordinal) && ClassFilter.admits w.filter cls

/-- The first window that matches (R50). -/
def DirectoryUnit.window? (d : DirectoryUnit) (card : CardId) (cls : MachineClass) : Option (Fin 4) :=
  (indexes 4).find? fun n => (look d.windows n).matches card cls

/-- The empty attribute set. -/
def noAttributes : Attributes := ⟨false, false, false, false⟩

/-- The decision of steps 1 to 3 of a resolution (R50, R51, R53). -/
inductive FirstDecision where
  | window (n : Fin 4) (action : WindowAction)
  | unknownSite
  | storeUnavailable
  | directory
  deriving DecidableEq, Repr

/-- Steps 1 to 3 of a resolution: the windows, the site check and the store state (R50, R53). -/
def State.firstDecision (s : State) (card : CardId) (cls : MachineClass) : FirstDecision :=
  match s.directory.window? card cls with
  | some n => .window n (look s.directory.windows n).action
  | none =>
    if s.directory.site = 0 ∨ s.directory.site ≠ card.site then .unknownSite
    else if s.storeUp then .directory
    else .storeUnavailable

/-! ## The walk -/

/-- What a walk or a cache hit resolved to, before the judgement of R59: `from_` is the path of the ACCOUNT descriptor
reached and `day` its last-use day. -/
structure Resolution where
  account : AccountNo
  attributes : Attributes
  hold : Bool
  via : Option CardPath
  from_ : CardPath
  day : Nat
  installable : Bool
  deriving DecidableEq, Repr

/-- What a completed read does to a walk. -/
inductive WalkStep where
  | goOn (w : Walk)
  | unknown (level : Level)
  | resolved (r : Resolution)
  | broken
  deriving DecidableEq, Repr

/-- The path the walk is reading: the target once an INDIRECT was met. -/
def Walk.reading (w : Walk) : CardPath := w.target.getD w.path

/-- The level an INVALID floor or flat descriptor ends the walk with (R57, R58). -/
def Walk.levelAt (w : Walk) (l : Level) : Level := if w.target.isSome then .card else l

/-- The hold with a descriptor's HOLD counted: those of the target's floor and flat do not count (R58). -/
def Walk.counting (w : Walk) (h : Bool) : Bool := if w.target.isSome then w.hold else w.hold || h

/-- The start of a walk (R57). -/
def Walk.start (p : CardPath) (cls : MachineClass) (restarted : Bool) : Walk := ⟨p, cls, none, .floor, false, [], restarted⟩

/-- A walk's read found a floor descriptor. -/
def Walk.atFloor (w : Walk) (d : FloorDescriptor) : WalkStep :=
  match d.page with
  | none => .unknown (w.levelAt .floor)
  | some g =>
    .goOn { w with at_ := .flat g, hold := w.counting d.hold, reads := .floor w.reading.floor :: w.reads }

/-- A walk's read found a flat descriptor. -/
def Walk.atFlat (w : Walk) (d : FlatDescriptor) : WalkStep :=
  match d.page with
  | none => .unknown (w.levelAt .flat)
  | some g =>
    .goOn { w with
      at_ := .card g
      hold := w.counting d.hold
      reads := .flat w.reading.floor w.reading.flat :: w.reads }

/-- A walk's read found a card descriptor (R57 to R59). -/
def Walk.atCard (w : Walk) (d : CardDescriptor) : WalkStep :=
  match d, w.target with
  | .account a attrs h targeted day, t =>
    .resolved ⟨a, attrs, w.hold || h, t, w.reading, day, !w.restarted && (t.isNone || targeted)⟩
  | .indirect t h, none =>
    .goOn { w with target := some t, at_ := .floor, hold := w.hold || h, reads := .card w.path :: w.reads }
  | _, _ => .unknown .card

/-- The step of a walk when its read completes with a result (R56 to R58). -/
def Walk.step (w : Walk) (r : Result) : WalkStep :=
  match w.at_, r with
  | .floor, .floors t => w.atFloor (look t w.reading.floor)
  | .flat _, .flatPage c => w.atFlat (look c w.reading.flat)
  | .card _, .cardPage c => w.atCard (look c w.reading.ordinal)
  | _, _ => .broken

/-- The read a walk makes where it stands. -/
def Walk.access (w : Walk) : Access :=
  match w.at_ with
  | .floor => .readFloors
  | .flat g => .readFlatPage g
  | .card g => .readCardPage g

/-- The judgement of a resolution by hold and class (R59). -/
def judgeResolution (cls : MachineClass) (hold : Bool) (a : Attributes) : Option Reason :=
  if hold then some .suspended
  else
    match cls with
    | .washer => if a.dryersOnly then some .classNotAllowed else none
    | .dryer => if a.washersOnly then some .classNotAllowed else none

/-- A day update placed on the write-back list: it replaces the day of an entry of the same path, and nothing else of it, joins at
the tail, or is dropped at a full list (R61). -/
def placeDay (l : List DayUpdate) (u : DayUpdate) : List DayUpdate :=
  if l.any fun x => x.path == u.path then l.map fun x => if x.path = u.path then { x with day := u.day } else x
  else if l.length < Config.dayListSize then l ++ [u]
  else l

/-! ## Stale walks -/

/-- Whether a write at a path concerns a descriptor read (R69). DEDUCED (log entry 52). -/
def DirPath.touches (written read : DirPath) : Bool :=
  match written with
  | .floor f => read == .floor f
  | .flat f n => read == .flat f n || read == .floor f
  | .card p => read == .card p || read == .flat p.floor p.flat || read == .floor p.floor

/-- Every context whose walk has read a descriptor the write concerns is marked stale (R69). -/
def State.markStale (s : State) (p : DirPath) : State :=
  (indexes 8).foldl (fun t c =>
    match (t.context c).stage with
    | .walk w => if w.reads.any p.touches then t.modContext c fun x => { x with stale := true } else t
    | _ => t) s

/-! ## Pools and counts -/

/-- A page returned to its pool, kept lowest first (R71). -/
def returnPage {n : Nat} (pool : List (Fin n)) (p : Fin n) : List (Fin n) :=
  pool.filter (· < p) ++ [p] ++ pool.filter (p < ·)

/-- The reference count of an account. -/
def State.refs (s : State) (a : AccountNo) : Nat := look s.directory.refs a

/-- The reference counts after a card is lost by one account and gained by another (R63, R72). -/
def countCards (refs : Vector Nat 1024) (loses gains : Option AccountNo) : Vector Nat 1024 :=
  let r := match loses with | some a => update refs a (· - 1) | none => refs
  match gains with | some a => update r a (· + 1) | none => r

/-! ## The writes of a DIRECTORY_WRITE -/

/-- The account an ACCOUNT descriptor names. -/
def CardDescriptor.account? : CardDescriptor → Option AccountNo
  | .account a _ _ _ _ => some a
  | _ => none

/-- Whether a card descriptor is an ACCOUNT descriptor with its targeted marker set. -/
def CardDescriptor.marked : CardDescriptor → Bool
  | .account _ _ _ t _ => t
  | _ => false

/-- The card descriptor now at the written path; INVALID where its parent does not exist. -/
def DirJob.current (j : DirJob) : CardDescriptor :=
  match j.path, j.card with
  | .card p, some (_, c) => look c p.ordinal
  | _, _ => .invalid

/-- The account a card-level write names, when its descriptor is ACCOUNT: the one whose record is read (R63).
DEDUCED (log entry 50). -/
def DirJob.newAccount (j : DirJob) : Option AccountNo :=
  match j.write with
  | some (.account a _ _) => some a
  | _ => none

/-- The accounts that lose and gain a card by a card-level write; neither when both are one account (R63). -/
def DirJob.countChange (j : DirJob) : Option AccountNo × Option AccountNo :=
  match j.write with
  | none => (none, none)
  | some _ =>
    let gains := j.newAccount
    let loses := j.current.account?
    if gains = loses then (none, none) else (loses, gains)

/-- The accounts to lock, the lower index first (R63). -/
def DirJob.wanted (j : DirJob) : List AccountNo :=
  match j.countChange with
  | (some a, some b) => if a < b then [a, b] else [b, a]
  | (some a, none) => [a]
  | (none, some b) => [b]
  | (none, none) => []

/-- The card descriptor a card-level write stores: what it keeps of the descriptor overwritten (R63, R64). -/
def newCard (old : CardDescriptor) : NewDescriptor → CardDescriptor
  | .account a attrs hold =>
    match old with
    | .account b _ _ t day => .account a attrs hold t (if a = b then day else 0)
    | _ => .account a attrs hold false 0
  | .indirect t hold => .indirect t hold
  | .invalid | .table _ _ => .invalid

/-- The target marker update of R64, when the target's marker is clear. -/
def DirJob.markerWrite (j : DirJob) (target : CardPath) : List DirWrite :=
  match j.targetCard with
  | some (g, c) =>
    match look c target.ordinal with
    | .account a attrs hold false day =>
      [⟨.updateCard g target.ordinal (.account a attrs hold true day), .card target, .plain⟩]
    | _ => []
  | none => []

/-- Whether a card page holds nothing but INVALID outside one ordinal. -/
def emptyBut (c : CardPage) (o : Fin 4) : Bool := (indexes 4).all fun k => k == o || look c k == .invalid

/-- Whether a flat page holds no TABLE outside one flat. -/
def flatsEmptyBut (c : FlatPage) (n : Fin 16) : Bool := (indexes 16).all fun k => k == n || (look c k).page.isNone

/-- A card page with one descriptor and INVALID elsewhere (R65). -/
def freshCardPage (o : Fin 4) (d : CardDescriptor) : CardPage := update (Vector.replicate 4 .invalid) o fun _ => d

/-- A flat page with one TABLE descriptor, HOLD clear, and INVALID elsewhere (R65). -/
def freshFlatPage (n : Fin 16) (g : CardPageNo) : FlatPage :=
  update (Vector.replicate 16 ⟨none, false⟩) n fun _ => ⟨some g, false⟩

/-- What phase 2 decides of a directory write: a refusal, or the writes of phase 3 with the pools after the pages they
need were taken. -/
inductive DirPlan where
  | refuse (st : Status)
  | write (ws : List DirWrite) (freeFlats : List FlatPageNo) (freeCards : List CardPageNo)
  deriving DecidableEq, Repr

/-- The writes of a card-level write of ACCOUNT or INDIRECT (R64, R65). -/
def planStore (d : DirectoryUnit) (j : DirJob) (p : CardPath) (new : NewDescriptor) : DirPlan :=
  let desc := newCard j.current new
  let marker := match new with | .indirect t _ => j.markerWrite t | _ => []
  match j.card, j.flat, d.freeCards, d.freeFlats with
  | some (g, _), _, cs, fs => .write (marker ++ [⟨.updateCard g p.ordinal desc, .card p, .card⟩]) fs cs
  | none, some (fg, page), c :: cs, fs =>
    .write (marker ++
      [⟨.writeCardPage c (freshCardPage p.ordinal desc), .card p, .plain⟩,
        ⟨.updateFlat fg p.flat ⟨some c, (look page p.flat).hold⟩, .flat p.floor p.flat, .card⟩]) fs cs
  | none, none, c :: cs, f :: fs =>
    .write (marker ++
      [⟨.writeCardPage c (freshCardPage p.ordinal desc), .card p, .plain⟩,
        ⟨.writeFlatPage f (freshFlatPage p.flat c), .flat p.floor p.flat, .plain⟩,
        ⟨.updateFloor p.floor ⟨some f, (j.floor.map FloorDescriptor.hold).getD false⟩, .floor p.floor, .card⟩]) fs cs
  | none, _, _, _ => .refuse .full

/-- The writes of a card-level write of INVALID (R65, R66). -/
def planRemove (d : DirectoryUnit) (j : DirJob) (p : CardPath) : DirPlan :=
  match j.card, j.flat with
  | some (g, c), some (fg, page) =>
    if look c p.ordinal = .invalid then .write [] d.freeFlats d.freeCards
    else
      let card : DirWrite := ⟨.updateCard g p.ordinal .invalid, .card p, .card⟩
      let flat : DirWrite := ⟨.updateFlat fg p.flat ⟨none, (look page p.flat).hold⟩, .flat p.floor p.flat, .freeCardPage g⟩
      let floor : DirWrite :=
        ⟨.updateFloor p.floor ⟨none, (j.floor.map FloorDescriptor.hold).getD false⟩, .floor p.floor, .freeFlatPage fg⟩
      let ws :=
        if emptyBut c p.ordinal then
          if flatsEmptyBut page p.flat then [card, flat, floor] else [card, flat]
        else [card]
      .write ws d.freeFlats d.freeCards
  | _, _ => .write [] d.freeFlats d.freeCards

/-- The writes of a floor-level write (R67). DEDUCED (log entry 51). DEDUCED (log entry 54). -/
def planFloor (d : DirectoryUnit) (j : DirJob) (f : Fin 64) (isTable hold : Bool) : DirPlan :=
  let done (ws : List DirWrite) : DirPlan := .write ws d.freeFlats d.freeCards
  match j.floor with
  | none => done []
  | some cur =>
    if cur.page.isSome = isTable ∧ cur.hold = hold then done []
    else
      match cur.page, isTable with
      | some g, true => done [⟨.updateFloor f ⟨some g, hold⟩, .floor f, .sweep (.floor f)⟩]
      | some g, false =>
        if j.belowFloor.any fun c => (indexes 16).any fun k => (look c k).page.isSome then .refuse .notEmpty
        else done [⟨.updateFloor f ⟨none, hold⟩, .floor f, .freeFlatPage g⟩]
      | none, _ => done [⟨.updateFloor f ⟨none, hold⟩, .floor f, .plain⟩]

/-- The writes of a flat-level write (R67). -/
def planFlat (d : DirectoryUnit) (j : DirJob) (f : Fin 64) (n : Fin 16) (isTable hold : Bool) : DirPlan :=
  let done (ws : List DirWrite) : DirPlan := .write ws d.freeFlats d.freeCards
  match j.flat with
  | none => .refuse Config.orphanFlatStatus
  | some (fg, page) =>
    let cur := look page n
    if cur.page.isSome = isTable ∧ cur.hold = hold then done []
    else
      match cur.page, isTable with
      | some g, true => done [⟨.updateFlat fg n ⟨some g, hold⟩, .flat f n, .sweep (.flat f n)⟩]
      | some g, false =>
        if j.belowFlat.any fun c => (indexes 4).any fun k => look c k != .invalid then .refuse .notEmpty
        else done [⟨.updateFlat fg n ⟨none, hold⟩, .flat f n, .freeCardPage g⟩]
      | none, _ => done [⟨.updateFlat fg n ⟨none, hold⟩, .flat f n, .plain⟩]

/-- Phase 2 of a directory write: every check that is left, and the writes that follow (R62). -/
def planWrites (d : DirectoryUnit) (j : DirJob) : DirPlan :=
  match j.path, j.write with
  | .floor f, some (.table t h) => planFloor d j f t h
  | .flat f n, some (.table t h) => planFlat d j f n t h
  | .card p, some .invalid => planRemove d j p
  | .card p, some (.account a attrs h) => planStore d j p (.account a attrs h)
  | .card p, some (.indirect t h) => planStore d j p (.indirect t h)
  | _, _ => .write [] d.freeFlats d.freeCards

/-- What comes after the reads made so far of a directory request. -/
inductive DirNext where
  | read (at_ : DirAt)
  | refuse (st : Status)
  | ready
  deriving DecidableEq, Repr

/-- The next read of an INDIRECT write's target, or the judgement of the target (R64). -/
def DirJob.nextTarget (j : DirJob) (t : CardPath) : DirNext :=
  match j.targetCard with
  | none => .read .targetFloor
  | some (_, c) =>
    match look c t.ordinal with
    | .account _ _ _ _ _ => .ready
    | _ => .refuse .badArgument

/-- What a card-level request does once its own path is read. -/
def DirJob.afterPath (j : DirJob) : DirNext :=
  match j.write with
  | some (.indirect t _) => j.nextTarget t
  | _ => .ready

/-- What comes after the floor table was read for the written path. -/
def DirJob.afterFloor (j : DirJob) (d : FloorDescriptor) : DirNext :=
  match j.path, d.page with
  | .floor _, some g =>
    match j.write with
    | some (.table false _) => .read (.belowFloor g)
    | _ => .ready
  | .floor _, none => .ready
  | .flat _ _, some g | .card _, some g => .read (.flat g)
  | .flat _ _, none => .ready
  | .card _, none => j.afterPath

/-- What comes after the flat-table page was read for the written path. -/
def DirJob.afterFlat (j : DirJob) (d : FlatDescriptor) : DirNext :=
  match j.path, d.page with
  | .card _, some g => .read (.card g)
  | .card _, none => j.afterPath
  | _, some g =>
    match j.write with
    | some (.table false _) => .read (.belowFlat g)
    | _ => .ready
  | _, none => .ready

/-- The indices of the path a directory request reads: floor, and the flat and ordinal where its level has them. -/
def DirPath.floorNo : DirPath → Fin 64
  | .floor f => f
  | .flat f _ => f
  | .card p => p.floor

/-- The flat of a path; 0 at the floor level. -/
def DirPath.flatNo : DirPath → Fin 16
  | .floor _ => 0
  | .flat _ n => n
  | .card p => p.flat

/-- The target path of an INDIRECT write; the written path's own numbers are never asked for where there is none. -/
def DirJob.targetPath (j : DirJob) : CardPath :=
  match j.write with
  | some (.indirect t _) => t
  | _ => ⟨0, 0, 0⟩

/-- A completed read of a directory request: the request with what it read, and what comes next; none when the record
was damaged (R56, R62, R64, R67, R70). -/
def DirJob.take (j : DirJob) (r : Result) : Option (DirJob × DirNext) :=
  match j.at_, r with
  | .floor, .floors t =>
    let d := look t j.path.floorNo
    some ({ j with floor := some d }, j.afterFloor d)
  | .flat g, .flatPage c =>
    some ({ j with flat := some (g, c) }, j.afterFlat (look c j.path.flatNo))
  | .card g, .cardPage c => some ({ j with card := some (g, c) }, j.afterPath)
  | .targetFloor, .floors t =>
    match (look t j.targetPath.floor).page with
    | some g => some (j, .read (.targetFlat g))
    | none => some (j, .refuse .badArgument)
  | .targetFlat _, .flatPage c =>
    match (look c j.targetPath.flat).page with
    | some g => some (j, .read (.targetCard g))
    | none => some (j, .refuse .badArgument)
  | .targetCard g, .cardPage c =>
    let k := { j with targetCard := some (g, c) }
    some (k, k.nextTarget j.targetPath)
  | .belowFloor _, .flatPage c => some ({ j with belowFloor := some c }, .ready)
  | .belowFlat _, .cardPage c => some ({ j with belowFlat := some c }, .ready)
  | _, _ => none

/-- The read at a place of a directory request. -/
def DirAt.access : DirAt → Access
  | .floor | .targetFloor => .readFloors
  | .flat g | .targetFlat g | .belowFloor g => .readFlatPage g
  | .card g | .targetCard g | .belowFlat g => .readCardPage g

/-- The payload of a DIRECTORY_READ reply: level reached, path up to it, descriptor, free page counts (R70, 10.6). -/
def DirJob.readPayload (j : DirJob) (d : DirectoryUnit) : List Byte :=
  let found : Level × DirPath × List Byte :=
    match j.path, j.card, j.flat, j.floor with
    | .card p, some (_, c), _, _ => (.card, .card p, cardDescriptorBytes (look c p.ordinal))
    | q, _, some (_, c), _ => (.flat, .flat q.floorNo q.flatNo, flatBytes (look c q.flatNo))
    | q, _, _, some fd => (.floor, .floor q.floorNo, floorBytes fd)
    | q, _, _, none => (.floor, .floor q.floorNo, floorBytes ⟨none, false⟩)
  u8 found.1.code ++ pathBytes found.2.1 ++ found.2.2 ++ u8 d.freeFlats.length ++ u16 d.freeCards.length

end Sys2Proof.Machine
end

