-- ==== Sys2Proof/Machine/SessionEvents.lean ====
section
/-! DEFINITION. What the session engine does with each event that reaches it: reports (R8, R10, R14, R17), status summaries
(R19, R21 to R23), link loss (R20), timer expiries (R10 to R16, R21, R22), and the payment unit's results (R9, R18). -/
namespace Sys2Proof

/-- Whether the node's appliance is running, with or without its heater. -/
def NodeState.runs (n : NodeState) : Bool :=
  match n with
  | .running | .held => true
  | _ => false

end Sys2Proof

namespace Sys2Proof.Machine

/-! ## Reports -/

/-- A new session is made at IDLE and its AUTHORISE request queued (R8). -/
def State.startAuthorise (s : State) (m : MachineNo) (card : CardId) (p : ProgrammeNo) (count : Nat) : State :=
  let t := s.takeId
  let id := t.engine.idCounter
  let cls := (s.machine m).cls
  let delay := match cls with | .washer => count | .dryer => 0
  let increments := match cls with | .washer => 0 | .dryer => count
  let mode := if delay = 0 then Mode.immediate else .delayed
  let x := newSession id p mode delay 0 []
  let t := t.modMachine m fun r => { r with session := some x, outstanding := .authorise }
  (t.enter m .authorising).enqueue (.authorise m cls card p increments id)

/-- A card at an IDLE machine (R8), its rows in the order of the table. DESIGN CHOICE (log entry 97). -/
def State.cardAtIdle (s : State) (m : MachineNo) (card : CardId) (programme count : Nat) : State :=
  if s.washerShut m then s.refuseCard m card .roomClosed
  else if (s.machine m).cls = .washer ∧ Config.delayLimit < count then s.refuseCard m card .programmeInvalid
  else
    match index? 8 programme with
    | none => s.refuseCard m card .programmeInvalid
    | some p => s.startAuthorise m card p count

/-- A card at a RUNNING dryer (R8, R17). -/
def State.cardAtDryer (s : State) (m : MachineNo) (card : CardId) (count : Nat) : State :=
  match s.session m with
  | none => s
  | some x =>
    if x.mode = .service ∨ x.mode = .unbilled ∨ x.finishSent = true then s.refuseCard m card .machineBusy
    else if Config.partLimit ≤ x.parts.length then s.refuseCard m card .partLimit
    else
      (s.modMachine m fun r => { r with outstanding := .extend }).enqueue (.extend m card x.programme count x.id)

/-- A CARD report is taken (R8). One at a STRANDED machine has no effect. DESIGN CHOICE (log entry 79). -/
def State.takeCard (s : State) (m : MachineNo) (card : CardId) (programme count : Nat) : State :=
  match (s.machine m).state with
  | .lockedOut | .recovering => s.refuseCard m card .outOfOrder
  | .idle => s.cardAtIdle m card programme count
  | .running =>
    match (s.machine m).cls with
    | .dryer => s.cardAtDryer m card count
    | .washer => s.refuseCard m card .machineBusy
  | .armed | .delayed | .settling | .done => s.refuseCard m card .machineBusy
  | .unassigned | .offline | .authorising | .stranded => s

/-- A START_PRESSED report is taken (R10). DEDUCED (log entry 36). -/
def State.takeStartPressed (s : State) (m : MachineNo) : State :=
  let r := s.machine m
  match r.state with
  | .armed => s.takeStart m
  | .settling =>
    if r.session.bind Session.endCause = some .armExpired then s.send m (.refuse .armExpired) else s
  | .idle => if r.lastEnd = some .armExpired then s.send m (.refuse .armExpired) else s
  | _ => s

/-- A PHASE report is taken (R14). -/
def State.takePhase (s : State) (m : MachineNo) (p : Phase) : State :=
  if (s.machine m).state = .running then
    match p, (s.machine m).cls with
    | .finished, _ => s.complete m
    | .heatRequest, .washer =>
      if (s.session m).map Session.heat = some .none then s.requestHeat m else s
    | .heatDone, .washer => s.endHeat m
    | _, _ => s
  else s

/-- A DOOR report is taken (R7). -/
def State.takeDoor (s : State) (m : MachineNo) (opened : Bool) : State :=
  if opened then
    match (s.machine m).state with
    | .settling => s.modMachine m fun r => { r with doorOpened := true }
    | .done => s.enter m .idle
    | _ => s
  else s

/-! ## Status summaries -/

/-- A foreign run (R23). DESIGN CHOICE (log entry 27). -/
def State.foreignRun (s : State) (m : MachineNo) (id : Nat) : State :=
  let t := s.reportFault m .foreignRun
  if t.washerShut m then t.send m (.stop id)
  else
    let x := { newSession id 0 .unbilled 0 0 [] with startDay := s.clock.day, startMinute := s.clock.minute }
    let t := t.modMachine m fun r => { r with session := some x, minuteTimer := true }
    let t := t.enter m .running
    match (t.machine m).cls with
    | .washer => t
    | .dryer => (t.setHeat m .waiting).requestHeat m

/-- A summary at an IDLE or DONE machine (R19, R23). `first` is the node's first good reply. DESIGN CHOICE (log entry 70).
DESIGN CHOICE (log entry 71). -/
def State.judgeIdle (s : State) (m : MachineNo) (n : Summary) (first : Bool) : State :=
  let r := s.machine m
  if n.state.runs then
    if first ∧ s.store.state = .noStore then s.foreignRun m n.sessionId
    else if n.sessionId = 0 then s
    else if n.sessionId = r.stoppedId then s.send m (.stop n.sessionId)
    else s.foreignRun m n.sessionId
  else
    match r.state, n.state with
    | .idle, .armed => s.send m (.disable n.sessionId)
    | .done, .idle => s.enter m .idle
    | _, _ => s

/-- The delay reaches 0 and the session goes to RUNNING (R11). -/
def State.delayOver (s : State) (m : MachineNo) : State := (s.modSession m fun y => { y with delay := 0 }).goRunning m

/-- A summary at an ARMED or DELAYED machine (R19). -/
def State.judgeArmed (s : State) (m : MachineNo) (n : Summary) (x : Session) : State :=
  match n.state with
  | .running | .held =>
    if n.sessionId = x.id then
      if (s.machine m).state = .armed then s.takeStart m else s.delayOver m
    else s
  | .idle | .interrupted => s.reportEnding m .powerInterrupt
  | .armed | .ended => s

/-- A summary at a RUNNING machine (R19). -/
def State.judgeRunning (s : State) (m : MachineNo) (n : Summary) (x : Session) : State :=
  match n.state with
  | .ended | .idle => s.complete m
  | .interrupted | .armed => s.reportEnding m .powerInterrupt
  | .running | .held =>
    if n.sessionId ≠ x.id then s.reportEnding m .powerInterrupt
    else if n.door = .opened ∧ x.doorFaultRaised = false then
      (s.modSession m fun y => { y with doorFaultRaised := true }).reportFault m .doorOpenRunning
    else s

/-- The node of a STRANDED machine has returned (R21): the return's summary, or the first after it that is judged, decides.
DEDUCED (log entry 26). DEDUCED (log entry 30). -/
def State.judgeStranded (s : State) (m : MachineNo) (n : Summary) (x : Session) : State :=
  let back := (s.modMachine m fun r => { r with graceTimer := none, minuteTimer := true }).modSession m fun y =>
    { y with strandedFrom := none }
  match n.state, x.strandedFrom with
  | .running, some .running | .held, some .running =>
    if n.sessionId = x.id then
      let t := back.enter m .running
      if x.heat = .none then t else t.requestHeat m
    else s.reportEnding m .powerInterrupt
  | .armed, some .delayed =>
    if n.sessionId = x.id then back.enter m .delayed else s.reportEnding m .powerInterrupt
  | .ended, some .running | .idle, some .running => s.complete m
  | _, _ => s.reportEnding m .powerInterrupt

/-- A rebuilt session resumes RUNNING (R22). A lockout that waited as the after-settle state is no longer pending, so its record
is no locking record any more (R162). DESIGN CHOICE (log entry 72). -/
def State.resume (s : State) (m : MachineNo) (n : Summary) (x : Session) : State :=
  let t := s.modMachine m fun r => { r with recoveryWindow := false, minuteTimer := true }
  let t := t.setLocking m none
  let t := t.modSession m fun y => { y with allowance := s.engine.overrunMinutes }
  let t := t.enter m .running
  match (s.machine m).cls with
  | .washer => if n.state = .held ∨ n.heater = true then t.requestHeat m else t
  | .dryer =>
    if x.elapsed < x.units then
      let l := s.lengthOf x.programme
      (t.modSession m fun y => { y with increment := l - x.elapsed % l }).requestHeat m
    else t.finish m

/-- The first judged good reply of a RECOVERING machine's node (R22). -/
def State.judgeRecovering (s : State) (m : MachineNo) (n : Summary) (x : Session) : State :=
  let after := (s.machine m).afterSettle
  match n.state with
  | .running | .held =>
    if n.sessionId ≠ x.id then s.reportRecovery m .powerInterrupt x.elapsed
    else if s.washerShut m then s.reportRecovery m .leak x.elapsed
    else s.resume m n x
  | .ended | .idle =>
    (s.endSession m .completed (if after.isLockedOut then after else .done)).completeIfEmpty m
  | .interrupted | .armed => s.reportRecovery m .powerInterrupt x.elapsed

/-- A status summary is judged against the machine record (R19). DESIGN CHOICE (log entry 70). The STOP at a LOCKED_OUT machine, which has
no session, carries the id the node reports. DESIGN CHOICE (log entry 94). -/
def State.judgeSummary (s : State) (m : MachineNo) (n : Summary) (first : Bool) : State :=
  let r := s.machine m
  match r.state, r.session with
  | .idle, _ | .done, _ => s.judgeIdle m n first
  | .armed, some x | .delayed, some x => s.judgeArmed m n x
  | .running, some x => s.judgeRunning m n x
  | .stranded, some x => s.judgeStranded m n x
  | .recovering, some x => s.judgeRecovering m n x
  | .settling, _ =>
    if n.state = .idle then s.modMachine m fun y => { y with doorOpened := true }
    else if n.state.runs ∧ n.sessionId ≠ 0 ∧ n.sessionId = r.stoppedId then s.send m (.stop n.sessionId)
    else s
  | .lockedOut, _ => if n.state.runs then s.send m (.stop n.sessionId) else s
  | _, _ => s

/-! ## Link loss -/

/-- The machine line controller reports LOST (R20); at a STRANDED machine, whose return was not judged, it changes nothing.
DEDUCED (log entry 39). DESIGN CHOICE (log entry 90). -/
def State.linkLost (s : State) (m : MachineNo) : State :=
  let r := s.machine m
  match r.state with
  | .idle | .done => (s.enterOffline m).noteNodeLost m false
  | .authorising => (s.abandon m .nodeLoss).noteNodeLost m r.abandoned.isNone
  | .armed => ((s.endSession m (.fault .nodeLost) .offline).noteNodeLost m true).completeIfEmpty m
  | .running => s.strand m .running
  | .delayed => s.strand m .delayed
  | .settling =>
    if r.afterSettle.isLockedOut then s else s.modMachine m fun y => { y with afterSettle := .offline }
  | .unassigned | .offline | .recovering | .stranded | .lockedOut => s

/-! ## Timers -/

/-- A minute expiry that increases `e`: the dryer's increment counter and FINISH (R15). -/
def State.dryerMinute (s : State) (m : MachineNo) : State :=
  match s.session m with
  | none => s
  | some x =>
    let c := x.increment - 1
    let c := if c = 0 ∧ x.elapsed < x.units then s.lengthOf x.programme else c
    let t := s.modSession m fun y => { y with increment := c }
    if x.units ≤ x.elapsed ∧ x.finishSent = false ∧ x.mode ≠ .unbilled then t.finish m else t

/-- The overrun comparison (R16). -/
def State.checkOverrun (s : State) (m : MachineNo) : State :=
  match s.session m with
  | none => s
  | some x =>
    if x.mode ≠ .unbilled ∧ x.overrunRaised = false ∧ x.units + x.allowance < x.elapsed then
      (s.modSession m fun y => { y with overrunRaised := true }).reportFault m .overrun
    else s

/-- The refresh mark of machine `m` is set at a minute of a session of mode IMMEDIATE or DELAYED (R181). -/
def State.markRefresh (s : State) (m : MachineNo) (x : Session) : State :=
  if x.mode = .immediate ∨ x.mode = .delayed then
    { s with store := { s.store with refreshMarks := update s.store.refreshMarks m fun _ => true } }
  else s

/-- The minute timer expires in RUNNING (R12). -/
def State.runningMinute (s : State) (m : MachineNo) (x : Session) : State :=
  let s := s.markRefresh m x
  match x.heat with
  | .waiting | .withdrawn => s.modSession m fun y => { y with paused := y.paused + 1 }
  | .none | .granted =>
    let t := s.modSession m fun y => { y with elapsed := y.elapsed + 1 }
    let t := match (s.machine m).cls with
      | .washer => t
      | .dryer => t.dryerMinute m
    t.checkOverrun m

/-- The minute timer expires in DELAYED (R11). -/
def State.delayedMinute (s : State) (m : MachineNo) (x : Session) : State :=
  if x.delay ≤ 1 then s.delayOver m else s.modSession m fun y => { y with delay := y.delay - 1 }

/-- The minute timer of machine `m`, running, expires (R11, R12). -/
def State.minuteExpiry (s : State) (m : MachineNo) : State :=
  if (s.machine m).minuteTimer then
    match (s.machine m).state, s.session m with
    | .running, some x => s.runningMinute m x
    | .delayed, some x => s.delayedMinute m x
    | _, _ => s
  else s

/-- tARM, running, expires at machine `m` (R10). -/
def State.armExpiry (s : State) (m : MachineNo) : State :=
  if (s.machine m).state = .armed ∧ (s.machine m).armTimer ≠ none then (s.endSession m .armExpired .idle).completeIfEmpty m else s

/-- tGRACE, running, expires at machine `m` (R21); the node's return has stopped it (R39). -/
def State.graceExpiry (s : State) (m : MachineNo) : State :=
  match (s.machine m).state, s.session m, (s.machine m).graceTimer with
  | .stranded, some x, some _ => (s.modMachine m fun r => { r with stoppedId := x.id }).reportEnding m .nodeLost
  | _, _, _ => s

/-- tRECOVER, running, expires at machine `m` (R22). Before the scan ends it does not run. DEDUCED (log entry 29). -/
def State.recoveryExpiry (s : State) (m : MachineNo) : State :=
  if (s.machine m).state = .recovering ∧ (s.machine m).recoveryWindow = true then s.reportRecovery m .nodeLost 0 else s

/-! ## Payment results -/

/-- The result of an AUTHORISE request is a success (R9). -/
def State.authorised (s : State) (m : MachineNo) (p : Part) : State :=
  let mark := (s.machine m).abandoned
  let t := s.modMachine m fun r => { r with outstanding := .none, abandoned := none }
  let t := t.modSession m fun x => { x with parts := [p], units := p.units }
  match mark with
  | none => t.arm m p.price
  | some a => (t.endSession m (.fault a.code) a.after).completeIfEmpty m

/-- The result of an AUTHORISE request is a refusal (R9): the session is discarded, the machine enters IDLE or the state its
abandonment mark gives, REFUSE is sent and the REFUSAL notice queued (R8, R60). DEDUCED (log entry 35). -/
def State.authoriseRefused (s : State) (m : MachineNo) (card : CardId) (why : Reason) : State :=
  let mark := (s.machine m).abandoned
  let t := (s.setEnding m none).modMachine m fun r =>
    { r with outstanding := .none, abandoned := none, session := none }
  let t := match mark with
    | none | some .leak => t.enter m .idle
    | some .nodeLoss => t.enterOffline m
    | some (.lockout c) => (t.enterLockedOut m c).markLockout m
  t.refuseCard m card why

/-- Whether an EXTEND's result is in time: the machine is RUNNING with the finish-sent flag clear (R18). A machine that left RUNNING
while the request was in flight and has come back to it unfinished (STRANDED, then resumed) is in time. DESIGN CHOICE (log entry 84). -/
def State.extendInTime (s : State) (m : MachineNo) : Bool :=
  (s.machine m).state == .running && (s.session m).any fun x => !x.finishSent

/-- A settlement held back by R6 is placed when the machine's session has ended (R18). -/
def State.placeHeldBack (s : State) (m : MachineNo) : State :=
  if (s.machine m).state = .settling then
    s.placeSettle m ((s.session m).map Session.elapsed |>.getD 0)
  else s

/-- The result of an EXTEND request is a success (R18). DEDUCED (log entry 49). -/
def State.extended (s : State) (m : MachineNo) (p : Part) (inSlot : Bool) : State :=
  match s.session m with
  | none => s
  | some x =>
    if s.extendInTime m then
      let t := s.modMachine m fun r => { r with outstanding := .none }
      let t := t.modSession m fun y =>
        { y with parts := y.parts ++ [{ p with start := y.units }], units := y.units + p.units }
      t.send m (.enable x.id x.programme p.price .immediate)
    else
      let t := s.modMachine m fun r => { r with outstanding := .partRelease }
      (t.enqueue (.partRelease m x.id (x.parts.length + 1) p inSlot)).send m (.refuse .machineBusy)

/-- The result of an EXTEND request is a refusal: REFUSE and the REFUSAL notice, in time or too late (R18, R48).
DEDUCED (log entry 34). -/
def State.extendRefused (s : State) (m : MachineNo) (card : CardId) (why : Reason) : State :=
  let t := (s.modMachine m fun r => { r with outstanding := .none }).refuseCard m card why
  if s.extendInTime m then t else t.placeHeldBack m

/-- A PART_RELEASE completes (R18). -/
def State.partReleased (s : State) (m : MachineNo) : State :=
  (s.modMachine m fun r => { r with outstanding := .none }).placeHeldBack m

end Sys2Proof.Machine
end

