-- ==== Sys2Proof/Machine/TariffOps.lean ====
section
/-! DEFINITION. The tariff calculator's two computations: the price of a part (R124 to R132) and its captured charge (R134
to R136). -/
namespace Sys2Proof.Machine

/-- `x` brought into `lo` to `hi`. -/
def clamp (x lo hi : Nat) : Nat := max lo (min x hi)

/-! ## The price -/

/-- The bands whose start minute satisfies `p`, in number order. -/
def Tariff.bandsWhere (t : Tariff) (p : Nat → Bool) : List (Fin 4) :=
  (indexes 4).filter fun b => p (look t.bands b).start

/-- Of a list of bands in number order, the one with the latest start; of equal starts the higher-numbered one (R124). -/
def Tariff.latest (t : Tariff) (bs : List (Fin 4)) : Option (Fin 4) :=
  bs.foldl (fun best b =>
    match best with
    | none => some b
    | some a => if (look t.bands a).start ≤ (look t.bands b).start then some b else some a) none

/-- The band in force (R124). -/
def Tariff.bandInForce (t : Tariff) (clock : Timebase) : Fin 4 :=
  if clock.clockSet then
    ((t.latest (t.bandsWhere fun m => decide (m ≤ clock.minute))) <|> t.latest (indexes 4)).getD 0
  else 0

/-- What a PRICE step is asked (R128). `count` is the dryer's increment count. -/
structure PriceRequest where
  cls : MachineClass
  programme : ProgrammeNo
  count : Nat
  peakExempt : Bool
  group : Fin 8
  free : Bool
  deriving DecidableEq, Repr

/-- What a PRICE step answers (R128), with the part's units (R120, R121). -/
structure Price where
  price : Nat
  factor : Nat
  band : Fin 4
  surcharged : Bool
  units : Nat
  deriving DecidableEq, Repr

/-- Stage 1: the factor of a band factor with or without the surcharge (R129). -/
def Tariff.factor (t : Tariff) (band : Fin 4) (surcharged : Bool) : Nat :=
  clamp ((look t.bands band).factor + if surcharged then t.surcharge else 0) 500 2500

/-- Stage 2: the gross, rounded half up (R130). -/
def Tariff.gross (t : Tariff) (q : PriceRequest) (factor : Nat) : Nat :=
  match q.cls with
  | .washer => ((look t.washers q.programme).price * factor + 500) / 1000
  | .dryer => (q.count * (look t.dryers q.programme).price * factor + 500) / 1000

/-- Stage 3: the net price after the tariff group discount (R131). -/
def Tariff.net (t : Tariff) (gross : Nat) (group : Fin 8) : Nat := gross - gross * look t.discounts group / 1000

/-- The units of a part: D of a washer, the count times L of a dryer (R120, R121). -/
def Tariff.units (t : Tariff) (q : PriceRequest) : Nat :=
  match q.cls with
  | .washer => (look t.washers q.programme).duration
  | .dryer => q.count * (look t.dryers q.programme).length

/-- Whether an increment count is within a dryer programme's M; a washer has no count to judge (R99, R104, R128). -/
def Tariff.countFits (t : Tariff) (cls : MachineClass) (p : ProgrammeNo) (count : Nat) : Bool :=
  match cls with
  | .washer => true
  | .dryer => decide (1 ≤ count) && decide (count ≤ (look t.dryers p).maximum)

/-- A PRICE step: refused when the count is outside 1 to M, and otherwise priced in four stages (R128 to R132). -/
def Tariff.priceOf (t : Tariff) (clock : Timebase) (demand : Bool) (q : PriceRequest) : Option Price :=
  if t.countFits q.cls q.programme q.count then
    let band := t.bandInForce clock
    let surcharged := demand && !q.peakExempt
    let f := t.factor band surcharged
    let n := if q.free then 0 else min (t.net (t.gross q f) q.group) t.cap
    some ⟨n, f, band, surcharged, t.units q⟩
  else none

/-- Whether a programme is zero-priced: B or I is 0 (R103). -/
def Tariff.zeroPriced (t : Tariff) (cls : MachineClass) (p : ProgrammeNo) : Bool :=
  match cls with
  | .washer => (look t.washers p).price == 0
  | .dryer => (look t.dryers p).price == 0

/-! ## The charge -/

/-- `x` divided by `y`, rounded up. -/
def ceilDiv (x y : Nat) : Nat := (x + y - 1) / y

/-- The used minutes of a part with span start `start` and `units` (R135). -/
def Tariff.usedMinutes (t : Tariff) (cls : MachineClass) (p : ProgrammeNo) (start units elapsed : Nat) : Nat :=
  match cls with
  | .washer => min (elapsed - start) units
  | .dryer =>
    if elapsed ≤ start then 0
    else
      let l := (look t.dryers p).length
      min units (l * ceilDiv (elapsed - start) l)

/-- What a settlement's capture requests share (R134). -/
structure Ending where
  cls : MachineClass
  programme : ProgrammeNo
  cause : EndCause
  elapsed : Nat
  paused : Nat
  rules : CaptureRules
  deriving DecidableEq, Repr

/-- Stage 5: the charge by the end cause (R134, R135). -/
def Tariff.chargeBeforeCredit (t : Tariff) (e : Ending) (price start units : Nat) : Nat :=
  match e.cause with
  | .completed => price
  | .armExpired => 0
  | .aborted | .fault _ =>
    if e.elapsed < e.rules.grace then 0
    else price * t.usedMinutes e.cls e.programme start units e.elapsed / units

/-- Stage 6: the delay credit (R136). -/
def delayCredit (e : Ending) (charge : Nat) : Nat :=
  if e.rules.allowance < e.paused then charge - charge * e.rules.credit / 1000 else charge

/-- The captured charge of a part that takes a capture request (R134 to R136). -/
def Tariff.charge (t : Tariff) (e : Ending) (p : Part) : Nat :=
  delayCredit e (t.chargeBeforeCredit e p.price p.start p.units)

end Sys2Proof.Machine
end

