-- ==== Sys2Proof/Machine/AccountOps.lean ====
section
/-! DEFINITION. The payment unit's account operations: the damaged list (R94), the locks (R98), settlement and release writes
(R108, R112), the held amount a full ACCOUNT_SET writes (R117), and the judgement of the host operations (R115 to
R118). -/
namespace Sys2Proof.Machine

/-! ## Damaged list and locks -/

/-- Whether an account is on the damaged list. -/
def State.isDamaged (s : State) (a : AccountNo) : Bool := s.payment.damaged.contains a

/-- The damaged list with an account joined: at the tail, the oldest pushed out of a full list, no index twice (R94). -/
def joinDamaged (l : List AccountNo) (a : AccountNo) : List AccountNo :=
  if l.contains a then l
  else if l.length < Config.damagedSize then l ++ [a]
  else l.drop 1 ++ [a]

/-- An account joins the damaged list (R94). -/
def State.addDamaged (s : State) (a : AccountNo) : State :=
  { s with payment := { s.payment with damaged := joinDamaged s.payment.damaged a } }

/-- STORE_DAMAGED naming an account (R94, R111). -/
def State.reportDamaged (s : State) (a : AccountNo) : State := s.reportPart .storeDamaged (.account a)

/-- An account whose read failed its check joins the list, with its STORE_DAMAGED report (R94).
DEDUCED (log entry 40). -/
def State.foundDamaged (s : State) (a : AccountNo) : State := (s.addDamaged a).reportDamaged a

/-- What a step of the payment unit gives: the state, and the contexts that have been given the lock they waited for and
have still to go on. DESIGN CHOICE (log entry 41). -/
abbrev Flow := State × List ContextNo

/-- The state with the lock list replaced. -/
def State.withLocks (s : State) (l : List LockEntry) : State := { s with payment := { s.payment with locks := l } }

/-- Context `c` asks for the lock of an account: it holds it at once, or joins the waiters (R98). -/
def State.askLock (s : State) (c : ContextNo) (a : AccountNo) : Flow :=
  if s.payment.locks.any fun e => e.account == a then
    (s.withLocks (s.payment.locks.map fun e => if e.account = a then { e with waiters := e.waiters ++ [c] } else e), [])
  else (s.withLocks (s.payment.locks ++ [⟨a, c, []⟩]), [c])

/-- An entry of the lock list after its holder released it: the first waiter holds it, or it goes (R98). -/
def LockEntry.released (e : LockEntry) : Option LockEntry :=
  match e.waiters with
  | [] => none
  | w :: rest => some { e with holder := w, waiters := rest }

/-- The lock of an account is released; the context that holds it next, if any, is to go on (R98). -/
def State.releaseLock (s : State) (a : AccountNo) : Flow :=
  match s.payment.locks.find? fun e => e.account == a with
  | none => (s, [])
  | some e =>
    (s.withLocks (s.payment.locks.filterMap fun x => if x.account = a then x.released else some x), e.waiters.take 1)

/-- Several locks are released, first to last. -/
def State.releaseLocks (s : State) (as : List AccountNo) : Flow :=
  as.foldl (fun f a => let g := f.1.releaseLock a; (g.1, f.2 ++ g.2)) (s, [])

/-- A transaction of context `c` is issued (R179). While the store is not UP, `State.drain` fails it back (R183). -/
def State.issueFor (s : State) (c : ContextNo) (a : Access) : State := s.issue (.context c) a

/-- Context `c` goes to a step and issues its transaction. -/
def State.goTo (s : State) (c : ContextNo) (g : Stage) (a : Access) : State := (s.stage c g).issueFor c a

/-- The reply to the host of context `c`'s request, which is then FREE (R97). -/
def State.replyHost (s : State) (c : ContextNo) (st : Status) (results : List Byte) : State :=
  (s.reply st results).freeContext c

/-! ## Writes of account records -/

/-- A count that stays at 65535 once it reaches it (R92). -/
def vendUp (n : Nat) : Nat := if n < 65535 then n + 1 else n

/-- The record after the settlement write of a part (R108). -/
def Account.settle (x : Account) (charge hold day : Nat) : Account :=
  { x with balance := x.balance - charge, held := x.held - hold, vends := vendUp x.vends, lastDay := day }

/-- The record after the release write of a part (R105, R112). -/
def Account.release (x : Account) (hold : Nat) : Account := { x with held := x.held - hold }

/-- The record after the write of one part of a deferred entry (R113). -/
def Account.deferred (x : Account) (p : DeferredPart) (day : Nat) : Account :=
  if p.release then x.release p.hold else x.settle p.charge p.hold day

/-! ## Parts the payment unit still knows of (R117, R127) -/

/-- A part of a deferred entry whose account write is still to come: its payer and hold. DEDUCED (log entry 76). -/
def DeferredPart.owed (p : DeferredPart) : Option (AccountNo × Nat) :=
  if p.written then none else p.payer.map fun a => (a, p.hold)

/-- A charge part's payer and hold. -/
def Part.owed (p : Part) : Option (AccountNo × Nat) := p.payer.map fun a => (a, p.hold)

/-- The holds of a session's parts. -/
def Session.owed (x : Session) : List (AccountNo × Nat) := x.parts.filterMap Part.owed

/-- The holds of a settlement whose capture has not completed. -/
def SettleJob.owed (j : SettleJob) : List (AccountNo × Nat) := j.todo.filterMap Part.owed

/-- What the SETTLE of a machine in a context leaves still to capture, when a context carries one; `none` otherwise. A
settlement still reading its slot has captured nothing. -/
def Context.settling (x : Context) (m : MachineNo) : Option (Option (List (AccountNo × Nat))) :=
  match x.request with
  | some (.settle n _ _ _ _) =>
    if n = m then
      match x.stage with
      | .settleMark j | .settleLock j | .settleRead j | .settleWrite j _ => some (some j.owed)
      | .settleSlot _ _ => some (some [])
      | .reply _ (some d) => some (some (d.parts.filterMap DeferredPart.owed))
      | .reply _ none => some (some [])
      | _ => some none
    else none
  | _ => none

/-- The holds of machine `m`'s session, leaving out parts whose capture by a settlement in flight has completed (R117). -/
def State.sessionOwed (s : State) (m : MachineNo) : List (AccountNo × Nat) :=
  let own := match s.session m with | some x => x.owed | none => []
  match (indexes 8).findSome? fun c => (s.context c).settling m with
  | some (some l) => l
  | _ => own

/-- The holds a context's AUTHORISE, EXTEND or PART_RELEASE stands for (R117, R127). A PART_RELEASE passed over because its payer is
damaged stands for none from then on, though no account write was made. DEDUCED (log entry 76). DEDUCED (log entry 78). -/
def Context.owed (x : Context) : List (AccountNo × Nat) :=
  match x.request, x.stage with
  | some (.authorise _ _ _ _ _ _), .holdSlot p | some (.extend _ _ _ _ _), .holdSlot p => p.owed.toList
  | some (.authorise _ _ _ _ _ _), .reply (.success p _) _ | some (.extend _ _ _ _ _), .reply (.success p _) _ => p.owed.toList
  | some (.authorise _ _ _ _ _ _), .reply _ (some d) | some (.extend _ _ _ _ _), .reply _ (some d)
  | some (.partRelease _ _ _ _ _), .reply _ (some d) => d.parts.filterMap DeferredPart.owed
  | some (.partRelease _ _ _ p _), .releaseMark | some (.partRelease _ _ _ p _), .releaseLock
  | some (.partRelease _ _ _ p _), .releaseRead | some (.partRelease _ _ _ p _), .releaseWrite => p.owed.toList
  | _, _ => []

/-- The holds of PART_RELEASE requests still in the queue. -/
def PayRequest.owed : PayRequest → List (AccountNo × Nat)
  | .partRelease _ _ _ p _ => p.owed.toList
  | _ => []

/-- The holds outside the machine records (R117, R127). -/
def State.otherOwed (s : State) : List (AccountNo × Nat) :=
  ((indexes 8).flatMap fun c => (s.context c).owed) ++ s.payment.queue.flatMap PayRequest.owed ++
    s.store.deferred.flatMap fun d => d.parts.filterMap DeferredPart.owed

/-- The held amount a full ACCOUNT_SET writes: the holds the part still knows of (R117). -/
def State.computeHeld (s : State) (a : AccountNo) : Nat :=
  ((((indexes 64).flatMap s.sessionOwed ++ s.otherOwed).filter fun x => x.1 == a).map Prod.snd).sum

/-- The largest hold the part still knows of (R127). -/
def State.largestHold (s : State) : Nat :=
  let own := (indexes 64).flatMap fun m => match s.session m with | some x => x.parts.map Part.hold | none => []
  (own ++ s.otherOwed.map Prod.snd).foldl max 0

/-! ## Host operations -/

/-- The judgement of a host account operation: a refusal, a reply of the record as it is, or a record to write. -/
inductive AccountVerdict where
  | refuse (st : Status)
  | report
  | write (x : Account)
  deriving DecidableEq, Repr

/-- Whether the host operation changes nothing but reads the record. -/
def AccountOp.isRead : AccountOp → Bool
  | .read => true
  | _ => false

/-- ACCOUNT_OPEN (R115). -/
def judgeOpen (x : Account) (overdraft : Nat) (g : Fin 8) : AccountVerdict :=
  if x.state = .free then .write ⟨.opened, 0, overdraft, 0, g, 0, 0⟩ else .refuse .refusedState

/-- ACCOUNT_CLOSE (R115). -/
def judgeClose (x : Account) (refs : Nat) : AccountVerdict :=
  if x.state ≠ .free ∧ refs = 0 ∧ x.held = 0 then .write ⟨.free, 0, 0, 0, 0, 0, 0⟩ else .refuse .refusedState

/-- ACCOUNT_SET of changed fields (R117). A FREE account is refused REFUSED_STATE before the limit is judged.
DESIGN CHOICE (log entry 95). -/
def judgeSet (x : Account) (st : Option AccountState) (overdraft : Option Nat) (g : Option (Fin 8)) : AccountVerdict :=
  if x.state = .free then .refuse .refusedState
  else if overdraft.any fun o => decide (o < x.overdraft ∧ x.balance + o < x.held) then .refuse .limit
  else .write { x with
    state := st.getD x.state
    overdraft := overdraft.getD x.overdraft
    group := g.getD x.group }

/-- ACCOUNT_CREDIT (R118). -/
def judgeCredit (x : Account) (amount : Nat) : AccountVerdict :=
  if x.state = .free then .refuse .refusedState
  else if Config.balanceMax < x.balance + amount then .refuse .limit
  else .write { x with balance := x.balance + amount }

/-- ACCOUNT_ADJUST (R118). -/
def judgeAdjust (x : Account) (amount : Int) : AccountVerdict :=
  let b := x.balance + amount
  if x.state = .free then .refuse .refusedState
  else if b < Config.balanceMin ∨ Config.balanceMax < b ∨ b < (x.held : Int) - x.overdraft then .refuse .limit
  else .write { x with balance := b }

/-- A host account operation judged against the record read (R93, R115 to R118). -/
def judgeAccount (x : Account) (refs : Nat) : AccountOp → AccountVerdict
  | .opened o g => judgeOpen x o g
  | .read => .report
  | .set st o g => judgeSet x st o g
  | .setAll _ _ _ _ _ _ => .refuse .refusedState
  | .credit n => judgeCredit x n
  | .adjust z => judgeAdjust x z
  | .close => judgeClose x refs

/-- ACCOUNT_SET of every field, with the held amount computed (R117). One that is to be refused LIMIT and REFUSED_STATE is refused
LIMIT. DESIGN CHOICE (log entry 95). -/
def judgeSetAll (held refs : Nat) (st : AccountState) (balance : Int) (overdraft : Nat) (g : Fin 8)
    (vends lastDay : Nat) : AccountVerdict :=
  if balance + overdraft < (held : Int) then .refuse .limit
  else if st = .free ∧ (0 < refs ∨ 0 < held) then .refuse .refusedState
  else .write ⟨st, balance, overdraft, held, g, vends, lastDay⟩

end Sys2Proof.Machine
end

