-- ==== Sys2Proof/Machine/VendFlow.lean ====
section
/-! DEFINITION. The flow of AUTHORISE, EXTEND and PROBE requests through a payment context: resolution (R48, R53, R57 to R59,
R73, R74), the account steps and PRICE (R99 to R101, R103, R104), and the slot write (R102, R105). -/
namespace Sys2Proof.Machine

/-! ## Requests for a vend -/

/-- What an AUTHORISE and an EXTEND request have in common; the class of an EXTEND is DRYER (R104). -/
structure Vend where
  machine : MachineNo
  cls : MachineClass
  card : CardId
  programme : ProgrammeNo
  count : Nat
  id : Nat
  extends_ : Bool
  deriving DecidableEq, Repr

/-- The vend of an AUTHORISE or EXTEND request. -/
def PayRequest.vend? : PayRequest → Option Vend
  | .authorise m cls card p n id => some ⟨m, cls, card, p, n, id, false⟩
  | .extend m card p n id => some ⟨m, .dryer, card, p, n, id, true⟩
  | _ => none

/-- A refusal goes to the session engine (R99). -/
def State.refuseVend (s : State) (c : ContextNo) (why : Reason) : State := s.stage c (.reply (.refused why) none)

/-- A PRICE step of a vend: the part it makes, or none when the count is out of range (R101, R128). -/
def State.pricePart (s : State) (v : Vend) (payer : Option AccountNo) (source : PayerSource) (attrs : Attributes)
    (group : Fin 8) (free : Bool) : Option Part :=
  (s.tariff.priceOf s.clock s.feeder.demand.isSome ⟨v.cls, v.programme, v.count, attrs.peakExempt, group, free⟩).map
    fun x =>
      { payer := payer, source := source, start := 0, units := x.units, price := x.price, hold := x.price, charge := none,
        factor := x.factor, band := x.band, surcharged := x.surcharged }

/-- The session copy an AUTHORISE writes (R102). -/
def State.newCopy (s : State) (v : Vend) (p : Part) : SlotCopy :=
  ⟨v.id, v.programme, ((s.session v.machine).map Session.mode).getD .immediate, p.units, 0, 0, [⟨p, false⟩]⟩

/-- The slot write of a vend; a part with no account step is granted without it while the store is not UP (R102,
R103). -/
def State.holdSlotStep (s : State) (c : ContextNo) (v : Vend) (p : Part) : State :=
  if !s.storeUp && !p.takesAccount then s.stage c (.reply (.success p false) none)
  else if v.extends_ then s.goTo c (.holdSlot p) (.slotAppend v.machine p)
  else s.goTo c (.holdSlot p) (.writeSlot v.machine ⟨none, some (s.newCopy v p)⟩)

/-- A part with no account step goes from PRICE to the slot write (R103). -/
def State.priceOnly (s : State) (c : ContextNo) (v : Vend) (payer : Option AccountNo) (source : PayerSource)
    (attrs : Attributes) (free : Bool) : State :=
  match s.pricePart v payer source attrs 0 free with
  | some p => s.holdSlotStep c v p
  | none => s.refuseVend c .programmeInvalid

/-- The steps after a HOUSE or RESOLVED outcome: the lock, or PRICE alone for a zero-priced programme (R100, R103). -/
def State.accountSteps (s : State) (c : ContextNo) (v : Vend) (y : Payer) : Flow :=
  if s.tariff.zeroPriced v.cls v.programme then
    (s.priceOnly c v (some y.account) y.source y.attributes false, [])
  else (s.stage c (.holdLock y)).askLock c y.account

/-! ## Resolution -/

/-- A walk begins, or begins again, with its stale mark clear (R57, R69). -/
def State.startWalk (s : State) (c : ContextNo) (p : CardPath) (cls : MachineClass) (restarted : Bool) : State :=
  let w := Walk.start p cls restarted
  (s.modContext c fun x => { x with stale := false }).goTo c (.walk w) w.access

/-- The cache lookup of a context: it joins the waiting lookups, or is a miss at once when no way is enabled (R77). -/
def State.askCache (s : State) (c : ContextNo) (p : CardPath) (cls : MachineClass) : State :=
  if s.cache.noWay then s.startWalk c p cls false
  else { s.stage c .lookup with cache := { s.cache with lookups := s.cache.lookups ++ [c] } }

/-- A vend's resolution begins (R48, R51, R53). -/
def State.resolveVend (s : State) (c : ContextNo) (v : Vend) : Flow :=
  match s.firstDecision v.card v.cls with
  | .window n .free => (s.priceOnly c v none (.window n) noAttributes true, [])
  | .window n (.house a) => s.accountSteps c v ⟨a, noAttributes, .window n⟩
  | .window _ .refuse => (s.refuseVend c .windowRefused, [])
  | .unknownSite => (s.refuseVend c .unknownSite, [])
  | .storeUnavailable => (s.refuseVend c .storeUnavailable, [])
  | .directory => (s.askCache c v.card.path v.cls, [])

/-- A vend is taken: the increment count is checked first (R99, R104). -/
def State.beginVend (s : State) (c : ContextNo) (v : Vend) : Flow :=
  if s.tariff.countFits v.cls v.programme v.count then s.resolveVend c v
  else (s.refuseVend c .programmeInvalid, [])

/-- A vend's resolved card: judged by hold and class, then the account steps (R59). -/
def State.vendResolved (s : State) (c : ContextNo) (v : Vend) (hold : Bool) (a : AccountNo) (attrs : Attributes) :
    Flow :=
  match judgeResolution v.cls hold attrs with
  | some why => (s.refuseVend c why, [])
  | none => s.accountSteps c v ⟨a, attrs, .directory⟩

/-! ## Probes (R73, R74) -/

/-- The result record of a CARD_PROBE. -/
structure ProbeResult where
  outcome : Nat
  level : Nat
  window : Nat
  action : Nat
  account : Option AccountNo
  attributes : Attributes
  hold : Bool
  via : Option CardPath
  foundBy : Nat
  deriving DecidableEq, Repr

/-- A result record with an outcome alone. -/
def ProbeResult.bare (outcome : Nat) : ProbeResult := ⟨outcome, 0, 0, 0, none, noAttributes, false, none, 0⟩

/-- The payload of a probe's reply (10.6). -/
def ProbeResult.payload (r : ProbeResult) : List Byte :=
  u8 r.outcome ++ u8 r.level ++ u8 r.window ++ u8 r.action ++ accountIndexBytes r.account ++
    u8 (attributeBits r.attributes) ++ yesNo r.hold ++ yesNo r.via.isSome ++
    (match r.via with
      | some p => u8 p.floor.1 ++ u8 p.flat.1 ++ u8 p.ordinal.1
      | none => u8 0 ++ u8 0 ++ u8 0) ++ u8 r.foundBy

/-- The result of a window decision. -/
def ProbeResult.ofWindow (n : Fin 4) : WindowAction → ProbeResult
  | .free => { ProbeResult.bare 0 with window := n.1 }
  | .house a => { ProbeResult.bare 0 with window := n.1, action := 1, account := some a }
  | .refuse => { ProbeResult.bare 0 with window := n.1, action := 2 }

/-- A probe's reply to the host (R74). -/
def State.probeReply (s : State) (c : ContextNo) (r : ProbeResult) : State := s.replyHost c .ok r.payload

/-- A probe is taken (R73). -/
def State.beginProbe (s : State) (c : ContextNo) (card : CardId) (cls : MachineClass) : State :=
  match s.firstDecision card cls with
  | .window n act => s.probeReply c (ProbeResult.ofWindow n act)
  | .unknownSite => s.probeReply c (ProbeResult.bare 2)
  | .storeUnavailable => s.probeReply c (ProbeResult.bare 4)
  | .directory => s.askCache c card.path cls

/-- A resolved probe, found by the cache (0) or a walk (1). -/
def ProbeResult.resolved (a : AccountNo) (attrs : Attributes) (hold : Bool) (via : Option CardPath) (foundBy : Nat) :
    ProbeResult :=
  { ProbeResult.bare 1 with account := some a, attributes := attrs, hold := hold, via := via, foundBy := foundBy }

/-! ## The cache's answer and the walk's reads -/

/-- A lookup of context `c` has been carried out: a hit is judged, a miss begins a walk (R78). -/
def State.lookupDone (s : State) (c : ContextNo) (hit : Option CacheEntry) : Flow :=
  match (s.context c).request with
  | some (.probe card cls) =>
    match hit with
    | some e => (s.probeReply c (ProbeResult.resolved e.account e.attributes e.hold e.via 0), [])
    | none => (s.startWalk c card.path cls false, [])
  | some q =>
    match q.vend?, hit with
    | some v, some e => s.vendResolved c v e.hold e.account e.attributes
    | some v, none => (s.startWalk c v.card.path v.cls false, [])
    | none, _ => (s, [])
  | none => (s, [])

/-- The entry a result is installed as (R80). -/
def Resolution.entry (r : Resolution) (p : CardPath) : CacheEntry := ⟨p, r.account, r.attributes, r.hold, r.via⟩

/-- The day update of a resolved vend (R61). -/
def State.updateDay (s : State) (r : Resolution) : State :=
  if s.clock.clockSet ∧ r.day ≠ s.clock.day then
    { s with store := { s.store with dayList := placeDay s.store.dayList ⟨r.from_, r.account, s.clock.day⟩ } }
  else s

/-- A vend's walk has resolved its card: offered to the cache, judged, the day update placed (R59, R61). -/
def State.walkResolved (s : State) (c : ContextNo) (v : Vend) (r : Resolution) : Flow :=
  let t := if r.installable then { s with cache := s.cache.install (r.entry v.card.path) } else s
  match judgeResolution v.cls r.hold r.attributes with
  | some why => (t.refuseVend c why, [])
  | none => (t.updateDay r).accountSteps c v ⟨r.account, r.attributes, .directory⟩

/-- A walk has ended without a store failure of its own: resolved, unknown, or broken by a damaged record (R56, R57). -/
def State.walkEnd (s : State) (c : ContextNo) (e : WalkStep) : Flow :=
  let t := if e = .broken then s.reportPart .storeDamaged .none else s
  match (s.context c).request with
  | some (.probe _ _) =>
    match e with
    | .resolved r => (t.probeReply c (ProbeResult.resolved r.account r.attributes r.hold r.via 1), [])
    | .unknown l => (t.probeReply c { ProbeResult.bare 3 with level := l.code }, [])
    | .broken | .goOn _ => (t.probeReply c (ProbeResult.bare 4), [])
  | some q =>
    match q.vend?, e with
    | some v, .resolved r => t.walkResolved c v r
    | some v, .unknown l => ((t.notify (.unknownCard v.machine v.card l)).refuseVend c .unknownCard, [])
    | some _, _ => (t.refuseVend c .storeUnavailable, [])
    | none, _ => (t, [])
  | none => (t, [])

/-- A read of a walk completes: a stale walk restarts whatever the read found, a damaged read still reported, and another goes
on or ends (R56, R57, R69). DEDUCED (log entry 53). -/
def State.walkDone (s : State) (c : ContextNo) (w : Walk) (r : Result) : Flow :=
  if (s.context c).stale then
    let t := if w.step r = .broken then s.reportPart .storeDamaged .none else s
    (t.startWalk c w.path w.cls true, [])
  else
    match w.step r with
    | .goOn x => (s.goTo c (.walk x) x.access, [])
    | e => s.walkEnd c e

/-- A read of a walk fails back (R60, R74). -/
def State.walkFailed (s : State) (c : ContextNo) : State :=
  match (s.context c).request with
  | some (.probe _ _) => s.probeReply c (ProbeResult.bare 4)
  | _ => s.refuseVend c .storeUnavailable

/-! ## The account steps of a vend -/

/-- A vend is refused after its lock was taken: the lock is released (R100, R101). -/
def State.refuseLocked (s : State) (c : ContextNo) (a : AccountNo) (why : Reason) : Flow :=
  (s.refuseVend c why).releaseLock a

/-- A vend has its account's lock (R100). -/
def State.holdLocked (s : State) (c : ContextNo) (y : Payer) : Flow :=
  if s.isDamaged y.account then s.refuseLocked c y.account .accountDamaged
  else (s.goTo c (.holdRead y) (.readAccount y.account), [])

/-- PRICE with the record read (R101). -/
def State.priceStep (s : State) (c : ContextNo) (v : Vend) (y : Payer) (x : Account) : Flow :=
  match s.pricePart v (some y.account) y.source y.attributes x.group false with
  | none => s.refuseLocked c y.account .programmeInvalid
  | some p =>
    if x.available < p.price then s.refuseLocked c y.account .insufficient
    else if p.price = 0 then (s.holdSlotStep c v p).releaseLock y.account
    else (s.goTo c (.holdWrite y p) (.writeAccount y.account { x with held := x.held + p.price }), [])

/-- A vend's account read completes (R100). -/
def State.holdReadDone (s : State) (c : ContextNo) (v : Vend) (y : Payer) (r : Result) : Flow :=
  match r with
  | .account x =>
    match x.state with
    | .free => s.refuseLocked c y.account .accountClosed
    | .suspended => s.refuseLocked c y.account .suspended
    | .opened => s.priceStep c v y x
  | _ => (s.foundDamaged y.account).refuseLocked c y.account .accountDamaged

/-- A vend's account write completes: the lock is released and the slot is written (R101). -/
def State.holdWriteDone (s : State) (c : ContextNo) (v : Vend) (y : Payer) (p : Part) : Flow :=
  (s.holdSlotStep c v p).releaseLock y.account

end Sys2Proof.Machine
end

