-- ==== Sys2Proof/Machine/SettleFlow.lean ====
section
/-! DEFINITION. The flow of SETTLE, PART_RELEASE and DEFERRED requests through a payment context (R107 to R113), the deferred
settlement list (R185) and its supply of the payment request queue (R96, R186). -/
namespace Sys2Proof.Machine

/-! ## The deferred settlement list -/

/-- Whether a request is a DEFERRED one. -/
def PayRequest.isDeferred : PayRequest → Bool
  | .deferred _ => true
  | _ => false

/-- A DEFERRED request joins the queue ahead of every other kind, behind those already waiting (R96). -/
def insertDeferred (q : List PayRequest) (key : Nat) : List PayRequest :=
  q.takeWhile PayRequest.isDeferred ++ [.deferred key] ++ q.dropWhile PayRequest.isDeferred

/-- The state with the deferred settlement list replaced. -/
def State.withDeferred (s : State) (l : List Deferred) : State := { s with store := { s.store with deferred := l } }

/-- The oldest entry not offered is offered, when fewer than 7 DEFERRED requests wait (R186). -/
def State.offerOne (s : State) : State :=
  if (s.payment.queue.filter PayRequest.isDeferred).length < Config.deferredWaiting then
    match s.store.deferred.find? fun d => !d.offered with
    | none => s
    | some d =>
      let t := s.withDeferred (s.store.deferred.map fun x => if x.key = d.key then { x with offered := true } else x)
      { t with payment := { t.payment with queue := insertDeferred t.payment.queue d.key } }
  else s

/-- `n` offers. -/
def State.offers : Nat → State → State
  | 0, s => s
  | n + 1, s => State.offers n s.offerOne

/-- The payment request queue is kept supplied with DEFERRED requests while the store is UP (R186). -/
def State.offerDeferred (s : State) : State := if s.storeUp then State.offers Config.deferredWaiting s else s

/-- Context `c` places an entry and goes to REPLY with what it hands on: at a full list it keeps the entry (R185), and in
NO_STORE no entry is placed (R192). -/
def State.placeEntry (s : State) (c : ContextNo) (h : Handed) (d : Deferred) : State :=
  if s.store.state = .noStore then s.stage c (.reply h none)
  else if s.store.deferred.length < Config.deferredSize then
    let t := s.withDeferred (s.store.deferred ++ [{ d with key := s.store.nextKey }])
    { t with store := { t.store with nextKey := s.store.nextKey + 1 } }.stage c (.reply h none)
  else s.stage c (.reply h (some d))

/-- The contexts that keep an entry in REPLY. -/
def State.keepers (s : State) : List (ContextNo × Handed × Deferred) :=
  (indexes 8).filterMap fun c =>
    match (s.context c).stage with
    | .reply h (some d) => some (c, h, d)
    | _ => none

/-- An entry has left the list: one context that keeps an entry places it (R185). Which one is a free value. -/
def State.placeKept (s : State) : State :=
  let ks := s.keepers
  match ks[Config.heldContext s.freeIndex % ks.length]? with
  | some (c, h, d) => s.useFree.placeEntry c h d
  | none => s

/-- The store port is told that an entry is done: it leaves the list, and the next is offered (R113). -/
def State.entryDone (s : State) (key : Nat) : State :=
  (s.withDeferred (s.store.deferred.filter fun d => d.key != key)).placeKept.offerDeferred

/-- An entry of the list changed. -/
def State.modEntry (s : State) (key : Nat) (f : Deferred → Deferred) : State :=
  s.withDeferred (s.store.deferred.map fun d => if d.key = key then f d else d)

/-- An unnumbered new entry; its key is given when it joins the list. -/
def newEntry (m : MachineNo) (id : Nat) (parts : List DeferredPart) (slotOwed : Bool) : Deferred :=
  ⟨0, m, id, parts, slotOwed, false⟩

/-! ## Settlement -/

/-- What a settlement's capture requests share (R134). -/
def SettleJob.ending (j : SettleJob) : Ending := ⟨j.cls, j.programme, j.cause, j.elapsed, j.paused, j.rules⟩

/-- The captured charge of a part of a settlement: 0 for a part that takes no account step (R108, R134). -/
def State.chargeOf (s : State) (j : SettleJob) (p : Part) : Nat :=
  if p.takesAccount then s.tariff.charge j.ending p else 0

/-- The settlement with its leading parts that take no account step settled at 0 (R108). -/
def SettleJob.skip (j : SettleJob) : SettleJob :=
  { j with
    settled := j.settled ++ (j.todo.takeWhile fun p => !p.takesAccount).map fun p => { p with charge := some 0 }
    todo := j.todo.dropWhile fun p => !p.takesAccount }

/-- The settlement with its next part settled at a charge. -/
def SettleJob.capture (j : SettleJob) (charge : Nat) : SettleJob :=
  match j.todo with
  | [] => j
  | p :: rest => { j with settled := j.settled ++ [{ p with charge := some charge }], todo := rest }

/-- The payer of a settlement's next part. -/
def SettleJob.payer? (j : SettleJob) : Option AccountNo := j.todo.head?.bind Part.payer

/-- The lockout code a settlement's slot write writes: that of an after-settle state LOCKED_OUT (R109). -/
def AfterSettle.slotCode : AfterSettle → Option FaultCode
  | .lockedOut code => some code
  | .idle | .done | .offline => none

/-- The last part is settled: the slot is written, or the completion handed on where the session has no slot copy
(R109). -/
def State.settleEnd (s : State) (c : ContextNo) (j : SettleJob) : State :=
  if j.writesSlot then
    let code := (s.machine j.machine).afterSettle.slotCode
    s.goTo c (.settleSlot j code) (.writeSlot j.machine ⟨code, none⟩)
  else s.stage c (.reply (.settled j.settled none) none)

/-- A settlement goes on to its next part, or to its end (R108). -/
def State.settleNext (s : State) (c : ContextNo) (j : SettleJob) : Flow :=
  let k := j.skip
  match k.payer? with
  | some a => (s.stage c (.settleLock k)).askLock c a
  | none => (s.settleEnd c k, [])

/-- A settlement leaves the part it is at: its lock is released and the next begins, its transaction ahead of those of the contexts
the release lets go on (R108). DESIGN CHOICE (log entry 41). -/
def State.settlePast (s : State) (c : ContextNo) (j : SettleJob) (a : AccountNo) (charge : Nat) : Flow :=
  let f := s.releaseLock a
  let g := f.1.settleNext c (j.capture charge)
  (g.1, g.2 ++ f.2)

/-- A part whose payer's record cannot be read: its charge is computed and nothing written (R111). -/
def State.settleUnreadable (s : State) (c : ContextNo) (j : SettleJob) (a : AccountNo) : Flow :=
  match j.todo with
  | p :: _ => (s.reportDamaged a).settlePast c j a (s.chargeOf j p)
  | [] => (s, [])

/-- A settlement has its part's lock (R108, R111). -/
def State.settleLocked (s : State) (c : ContextNo) (j : SettleJob) : Flow :=
  match j.payer? with
  | some a =>
    if s.isDamaged a then s.settleUnreadable c j a else (s.goTo c (.settleRead j) (.readAccount a), [])
  | none => (s, [])

/-- A settlement's account read completes (R108, R111). -/
def State.settleReadDone (s : State) (c : ContextNo) (j : SettleJob) (r : Result) : Flow :=
  match j.todo, j.payer?, r with
  | p :: _, some a, .account x =>
    let n := s.chargeOf j p
    (s.goTo c (.settleWrite j n) (.writeAccount a (x.settle n p.hold s.clock.day)), [])
  | _, some a, _ => (s.addDamaged a).settleUnreadable c j a
  | _, none, _ => (s, [])

/-- A settlement's account write completes (R108). -/
def State.settleWriteDone (s : State) (c : ContextNo) (j : SettleJob) (charge : Nat) : Flow :=
  match j.payer? with
  | some a => s.settlePast c j a charge
  | none => (s, [])

/-- A settlement over given parts (R107). -/
def State.settleJob (s : State) (m : MachineNo) (id : Nat) (cause : EndCause) (e p : Nat) (rules : CaptureRules)
    (parts : List Part) (writesSlot : Bool) : SettleJob :=
  ⟨m, id, cause, e, p, (s.machine m).cls, ((s.session m).map Session.programme).getD 0, rules, writesSlot, parts, []⟩

/-- The parts of the session engine's record of a machine's session (R107). -/
def State.engineParts (s : State) (m : MachineNo) : List Part :=
  match s.session m with
  | some x => x.parts
  | none => []

/-- A settlement from the slot copy: every part that takes an account step is marked first (R107). -/
def State.settleFromCopy (s : State) (c : ContextNo) (j : SettleJob) : Flow :=
  if j.todo.any Part.takesAccount then (s.goTo c (.settleMark j) (.slotMarkAll j.machine), [])
  else s.settleNext c j

/-- A settlement's slot read completes (R107). DEDUCED (log entry 48). -/
def State.settleSlotDone (s : State) (c : ContextNo) (m : MachineNo) (id : Nat) (cause : EndCause) (e p : Nat)
    (rules : CaptureRules) (r : Result) : Flow :=
  let own (t : State) (writes : Bool) : Flow := t.settleNext c (t.settleJob m id cause e p rules (t.engineParts m) writes)
  match r with
  | .slot x =>
    match x.copy with
    | some y =>
      if y.id = id then s.settleFromCopy c (s.settleJob m id cause e p rules (y.parts.map SlotPart.part) true)
      else own s false
    | none => own s false
  | _ => own (s.reportPart .storeDamaged (.machine m)) true

/-- The deferred parts of a list of charged parts, numbered from `k` (R185). -/
def deferParts : Nat → List Part → List DeferredPart
  | _, [] => []
  | k, p :: rest =>
    if p.takesAccount then ⟨k, p.payer, p.hold, p.charge.getD 0, p.units, false, false, false⟩ :: deferParts (k + 1) rest
    else deferParts (k + 1) rest

/-- A settlement goes on on chip: the charges left are computed, an entry is placed and the completion handed on (R110).
`slotLost` says that the slot write was the transaction that failed: an entry is then placed even where no part took an account
step. DESIGN CHOICE (log entry 87). A part passed over as damaged before the failure (R111) is not among the charges left: it is in
no entry, and the charge computed for it then is handed on. DEDUCED (log entry 91). -/
def State.deferSettle (s : State) (c : ContextNo) (j : SettleJob) (slotLost : Bool) : State :=
  let charged := j.todo.map fun p => { p with charge := some (s.chargeOf j p) }
  let parts := deferParts (j.settled.length + 1) charged
  let h := Handed.settled (j.settled ++ charged) none
  if parts = [] ∧ slotLost = false then s.stage c (.reply h none)
  else s.placeEntry c h (newEntry j.machine j.id parts true)

/-- A SETTLE request is taken: the settings of R133 are taken with it, and the slot is read, or the settlement goes on on
chip while the store is not UP (R107, R110). -/
def State.beginSettle (s : State) (c : ContextNo) (m : MachineNo) (id : Nat) (cause : EndCause) (e p : Nat) : Flow :=
  let rules : CaptureRules := ⟨s.tariff.grace, s.tariff.allowance, s.tariff.credit⟩
  if s.storeUp then (s.goTo c (.settleSlotRead rules) (.readSlot m), [])
  else (s.deferSettle c (s.settleJob m id cause e p rules (s.engineParts m) true) false, [])

/-! ## PART_RELEASE -/

/-- The slot write of a PART_RELEASE: the session engine's present parts list and U (R112). -/
def State.releaseSlotStep (s : State) (c : ContextNo) (m : MachineNo) : State :=
  match s.session m with
  | some x => s.goTo c .releaseSlot (.slotParts m x.parts x.units)
  | none => s.goTo c .releaseSlot (.slotParts m [] 0)

/-- A PART_RELEASE is taken (R112). -/
def State.beginRelease (s : State) (c : ContextNo) (m : MachineNo) (p : Part) : State :=
  if p.takesAccount then s.goTo c .releaseMark (.slotMarkPart m p) else s.releaseSlotStep c m

/-- The capture mark of a PART_RELEASE is made: the payer's lock is asked for (R112). -/
def State.releaseMarked (s : State) (c : ContextNo) (m : MachineNo) (p : Part) : Flow :=
  match p.payer with
  | some a => (s.stage c .releaseLock).askLock c a
  | none => (s.releaseSlotStep c m, [])

/-- A PART_RELEASE leaves its account step: the lock is released and the slot written (R112). -/
def State.releasePast (s : State) (c : ContextNo) (m : MachineNo) (a : AccountNo) : Flow :=
  (s.releaseSlotStep c m).releaseLock a

/-- A PART_RELEASE has its payer's lock (R112). -/
def State.releaseLocked (s : State) (c : ContextNo) (m : MachineNo) (a : AccountNo) : Flow :=
  if s.isDamaged a then (s.reportDamaged a).releasePast c m a
  else (s.goTo c .releaseRead (.readAccount a), [])

/-- A PART_RELEASE's account read completes (R112). -/
def State.releaseReadDone (s : State) (c : ContextNo) (m : MachineNo) (p : Part) (a : AccountNo) (r : Result) : Flow :=
  match r with
  | .account x => (s.goTo c .releaseWrite (.writeAccount a (x.release p.hold)), [])
  | _ => (s.foundDamaged a).releasePast c m a

/-- A store failure during a PART_RELEASE: a release entry is placed, the slot write owed, and the completion handed on
(R112). -/
def State.deferRelease (s : State) (c : ContextNo) (m : MachineNo) (id number : Nat) (p : Part) (inSlot written : Bool) :
    State :=
  s.placeEntry c .released
    (newEntry m id [⟨number, p.payer, p.hold, 0, p.units, true, written || !p.takesAccount, inSlot⟩] true)

/-! ## DEFERRED -/

/-- The next part of a deferred entry to write. -/
def Deferred.nextPart (d : Deferred) : Option DeferredPart := d.parts.find? fun p => !p.written && p.payer.isSome

/-- The entry with one part marked written. -/
def Deferred.wrote (d : Deferred) (number : Nat) : Deferred :=
  { d with parts := d.parts.map fun p => if p.number = number then { p with written := true } else p }

/-- The slot removal a deferred entry owes: of the session copy, or of the released part (R113). -/
def Deferred.removal (d : Deferred) : Access :=
  match d.parts.find? DeferredPart.release with
  | some p => .slotRemovePart d.machine d.id p
  | none => .slotRemove d.machine d.id

/-- A DEFERRED request goes on: its next part's lock, the owed slot write, or its end (R113). -/
def State.deferredNext (s : State) (c : ContextNo) (d : Deferred) : Flow :=
  match d.nextPart.bind DeferredPart.payer with
  | some a => (s.stage c (.deferredLock d)).askLock c a
  | none =>
    if d.slotOwed then (s.goTo c (.deferredSlot d) d.removal, [])
    else ((s.freeContext c).entryDone d.key, [])

/-- A DEFERRED request is taken; the next entry is offered as it leaves the queue (R113, R186). -/
def State.beginDeferred (s : State) (c : ContextNo) (key : Nat) : Flow :=
  let t := s.offerDeferred
  match t.store.deferred.find? fun d => d.key == key with
  | some d => t.deferredNext c d
  | none => (t.freeContext c, [])

/-- A DEFERRED request leaves a part behind, written or passed over: the part is marked in the list, the lock released, and the
request goes on ahead of the contexts the release lets go on (R113). DEDUCED (log entry 75). DESIGN CHOICE (log entry 41). -/
def State.deferredPast (s : State) (c : ContextNo) (d : Deferred) (p : DeferredPart) (a : AccountNo) : Flow :=
  let f := (s.modEntry d.key fun x => x.wrote p.number).releaseLock a
  let g := f.1.deferredNext c (d.wrote p.number)
  (g.1, g.2 ++ f.2)

/-- A DEFERRED request has its part's lock (R113). -/
def State.deferredLocked (s : State) (c : ContextNo) (d : Deferred) : Flow :=
  match d.nextPart with
  | some p =>
    match p.payer with
    | some a =>
      if s.isDamaged a then (s.reportDamaged a).deferredPast c d p a
      else (s.goTo c (.deferredRead d) (.readAccount a), [])
    | none => (s, [])
  | none => (s, [])

/-- A DEFERRED request's account read completes (R113). -/
def State.deferredReadDone (s : State) (c : ContextNo) (d : Deferred) (r : Result) : Flow :=
  match d.nextPart with
  | some p =>
    match p.payer, r with
    | some a, .account x => (s.goTo c (.deferredWrite d) (.writeAccount a (x.deferred p s.clock.day)), [])
    | some a, _ => (s.foundDamaged a).deferredPast c d p a
    | none, _ => (s, [])
  | none => (s, [])

/-- A DEFERRED request's account write completes (R113). -/
def State.deferredWriteDone (s : State) (c : ContextNo) (d : Deferred) : Flow :=
  match d.nextPart with
  | some p =>
    match p.payer with
    | some a => s.deferredPast c d p a
    | none => (s, [])
  | none => (s, [])

/-- A DEFERRED request's slot write completes: the entry is done (R113). -/
def State.deferredSlotDone (s : State) (c : ContextNo) (d : Deferred) : State := (s.freeContext c).entryDone d.key

/-- A store failure during a DEFERRED request: the entry keeps its place with what is left, no longer offered (R113). -/
def State.deferredFailed (s : State) (c : ContextNo) (d : Deferred) : State :=
  (s.freeContext c).modEntry d.key fun x => { x with offered := false }

end Sys2Proof.Machine
end

