-- ==== Sys2Proof/Machine/HostFlow.lean ====
section
/-! DEFINITION. The flow of DIRECTORY and ACCOUNT requests through a payment context: reads, locks, checks and writes of a
directory request (R62 to R70), and the host account operations (R114 to R118). -/
namespace Sys2Proof.Machine

/-! ## DIRECTORY -/

/-- A directory request's reply, its locks released (R62). -/
def State.dirReply (s : State) (c : ContextNo) (locks : List AccountNo) (st : Status) (results : List Byte) : Flow :=
  (s.replyHost c st results).releaseLocks locks

/-- Phase 2 and the start of phase 3: the checks that are left, the pages taken, the first write (R62, R65). -/
def State.dirPlanStep (s : State) (c : ContextNo) (j : DirJob) : Flow :=
  match planWrites s.directory j with
  | .refuse st => s.dirReply c j.locks st []
  | .write [] _ _ => s.dirReply c j.locks .ok []
  | .write (w :: rest) fs cs =>
    let t := { s with directory := { s.directory with freeFlats := fs, freeCards := cs } }
    let change := j.countChange
    let x : DirWrites := ⟨j.path, w :: rest, change.1, change.2, j.current.marked, j.locks⟩
    (t.goTo c (.dirWrite x) w.access, [])

/-- The locks are held: the new account's record is read, if there is one, whether its count changes or not (R63). -/
def State.dirAccountStep (s : State) (c : ContextNo) (j : DirJob) : Flow :=
  match j.newAccount with
  | some a =>
    if s.isDamaged a then s.dirReply c j.locks .refusedState []
    else (s.goTo c (.dirAccount j) (.readAccount a), [])
  | none => s.dirPlanStep c j

/-- The next lock is asked for, or all are held (R63). -/
def State.dirLockStep (s : State) (c : ContextNo) (j : DirJob) (wanted : List AccountNo) : Flow :=
  match wanted with
  | [] => s.dirAccountStep c j
  | a :: _ => (s.stage c (.dirLock j wanted)).askLock c a

/-- What follows a read of a directory request (R62, R70). -/
def State.dirGo (s : State) (c : ContextNo) (j : DirJob) (n : DirNext) : Flow :=
  match n with
  | .read at_ => (s.goTo c (.dirRead { j with at_ := at_ }) at_.access, [])
  | .refuse st => s.dirReply c [] st []
  | .ready =>
    match j.write with
    | none => s.dirReply c [] .ok (j.readPayload s.directory)
    | some _ => s.dirLockStep c j j.wanted

/-- A DIRECTORY request is taken: its first read is of the floor table (R62, R70). -/
def State.beginDirectory (s : State) (c : ContextNo) (p : DirPath) (w : Option NewDescriptor) : State :=
  s.goTo c (.dirRead ⟨p, w, .floor, none, none, none, none, none, none, []⟩) .readFloors

/-- A read of a directory request completes; a damaged one refuses it (R56). -/
def State.dirReadDone (s : State) (c : ContextNo) (j : DirJob) (r : Result) : Flow :=
  match j.take r with
  | some (k, n) => s.dirGo c k n
  | none => (s.reportPart .storeDamaged .none).dirReply c [] .storeUnavailable []

/-- A directory write has a lock it asked for (R63). -/
def State.dirLocked (s : State) (c : ContextNo) (j : DirJob) (wanted : List AccountNo) : Flow :=
  match wanted with
  | [] => (s, [])
  | a :: rest => s.dirLockStep c { j with locks := j.locks ++ [a] } rest

/-- The read of the new account completes (R63). The account is judged before the pages and counts of R65 to R67, so a FREE or a
damaged account is refused as such where a needed page is not free either. DESIGN CHOICE (log entry 86). -/
def State.dirAccountDone (s : State) (c : ContextNo) (j : DirJob) (r : Result) : Flow :=
  match j.newAccount, r with
  | some _, .account x => if x.state = .free then s.dirReply c j.locks .badArgument [] else s.dirPlanStep c j
  | some a, _ => (s.foundDamaged a).dirReply c j.locks .refusedState []
  | none, _ => (s, [])

/-- A sweep is requested of the cache (R68, R85). -/
def State.requestSweep (s : State) (w : Sweep) : State := { s with cache := (s.cache.requestSweep w).1 }

/-- The effect of a completed write of phase 3, besides the stale marking (R66 to R68): the state, the write in progress
and the contexts let go on. -/
def State.dirEffect (s : State) (x : DirWrites) (e : DirEffect) : Flow × DirWrites :=
  match e with
  | .plain => ((s, []), x)
  | .freeCardPage g =>
    (({ s with directory := { s.directory with freeCards := returnPage s.directory.freeCards g } }, []), x)
  | .freeFlatPage g =>
    (({ s with directory := { s.directory with freeFlats := returnPage s.directory.freeFlats g } }, []), x)
  | .sweep w => ((s.requestSweep w, []), x)
  | .card =>
    match x.path with
    | .card p =>
      let t := { s with
        directory := { s.directory with refs := countCards s.directory.refs x.loses x.gains }
        cache := s.cache.invalidate p }
      let t := if x.viaSweep then t.requestSweep (.via p) else t
      (t.releaseLocks x.locks, { x with locks := [] })
    | _ => ((s, []), x)

/-- The pages among the accesses of a list of writes, back in their pools. -/
def DirectoryUnit.returnPages (d : DirectoryUnit) (ws : List DirWrite) : DirectoryUnit :=
  ws.foldl (fun d w =>
    match w.access with
    | .writeFlatPage g _ => { d with freeFlats := returnPage d.freeFlats g }
    | .writeCardPage g _ => { d with freeCards := returnPage d.freeCards g }
    | _ => d) d

/-- The write at which phase 3 ends without effect: when it is the target marker update nothing has changed, so the pages taken
for the writes after it return to their pools; the pages of other writes stay out (R68). -/
def State.restorePages (s : State) (x : DirWrites) : State :=
  match x.writes with
  | ⟨.updateCard _ _ _, _, .plain⟩ :: rest => { s with directory := s.directory.returnPages rest }
  | _ => s

/-- A store write of a directory write completes; one that finds its record damaged wrote nothing, and ends the request
(R56, R68, R69, R178). DEDUCED (log entry 47). -/
def State.dirWriteDone (s : State) (c : ContextNo) (x : DirWrites) (r : Result) : Flow :=
  match x.writes with
  | [] => (s, [])
  | w :: rest =>
    if r = .damaged then ((s.reportPart .storeDamaged .none).restorePages x).dirReply c x.locks .storeUnavailable []
    else
      let e := (s.markStale w.path).dirEffect x w.effect
      let t := e.1.1
      match rest with
      | [] =>
        let f := t.dirReply c e.2.locks .ok []
        (f.1, e.1.2 ++ f.2)
      | n :: _ => (t.goTo c (.dirWrite { e.2 with writes := rest }) n.access, e.1.2)

/-! ## ACCOUNT -/

/-- An account operation's reply, its lock released (R114). -/
def State.accountReply (s : State) (c : ContextNo) (a : AccountNo) (st : Status) (results : List Byte) : Flow :=
  (s.replyHost c st results).releaseLock a

/-- The reply to an ACCOUNT_READ of a damaged account (R116). -/
def State.damagedReply (s : State) (c : ContextNo) (a : AccountNo) : Flow :=
  s.accountReply c a .ok (damagedAccountBytes (s.computeHeld a) (s.refs a))

/-- A host operation on an account that cannot be read (R114, R116). -/
def State.accountUnreadable (s : State) (c : ContextNo) (a : AccountNo) (op : AccountOp) : Flow :=
  if op.isRead then s.damagedReply c a else s.accountReply c a .refusedState []

/-- A host operation's judgement is carried out; `before` is the balance the account had (R114). -/
def State.accountVerdict (s : State) (c : ContextNo) (a : AccountNo) (x : Account) (v : AccountVerdict) : Flow :=
  match v with
  | .refuse st => s.accountReply c a st []
  | .report => s.accountReply c a .ok (accountBytes x (s.refs a))
  | .write y => (s.goTo c (.accountWrite y x.balance) (.writeAccount a y), [])

/-- An account with nothing in it: what a full ACCOUNT_SET is judged beside, since it does not read the record. -/
def Account.blank : Account := ⟨.free, 0, 0, 0, 0, 0, 0⟩

/-- A host operation has the account's lock (R114, R117). -/
def State.accountLocked (s : State) (c : ContextNo) (a : AccountNo) (op : AccountOp) : Flow :=
  match op with
  | .setAll st balance overdraft g vends day =>
    s.accountVerdict c a Account.blank (judgeSetAll (s.computeHeld a) (s.refs a) st balance overdraft g vends day)
  | _ =>
    if s.isDamaged a then s.accountUnreadable c a op
    else (s.goTo c .accountRead (.readAccount a), [])

/-- A host operation's read completes (R114). -/
def State.accountReadDone (s : State) (c : ContextNo) (a : AccountNo) (op : AccountOp) (r : Result) : Flow :=
  match r with
  | .account x => s.accountVerdict c a x (judgeAccount x (s.refs a) op)
  | _ => (s.foundDamaged a).accountUnreadable c a op

/-- Whether a completed host operation makes the cache forget the account: a close, or a full set to FREE (R89, R117). -/
def AccountOp.frees : AccountOp → Bool
  | .close => true
  | .setAll st _ _ _ _ _ => st == .free
  | _ => false

/-- A host operation's write completes (R114, R115, R117). -/
def State.accountWriteDone (s : State) (c : ContextNo) (a : AccountNo) (op : AccountOp) (y : Account) (before : Int) :
    Flow :=
  let t := if op.frees then { s with cache := s.cache.invalidateAccount a } else s
  let t := match op with
    | .setAll _ _ _ _ _ _ => { t with payment := { t.payment with damaged := t.payment.damaged.filter (· != a) } }
    | _ => t
  let more := match op with | .close => i32 before | _ => []
  t.accountReply c a .ok (accountBytes y (t.refs a) ++ more)

end Sys2Proof.Machine
end

