-- ==== Sys2Proof/Machine/Contexts.lean ====
section
/-! DEFINITION. The payment contexts as a whole: the states of R97, taking a request (R96), going on with a lock (R98), the
completion of a store transaction, and its failing back. -/
namespace Sys2Proof.Machine

/-! ## The states of R97 -/

/-- A context's state as R97 names it. WALK carries its level. -/
inductive ContextState where
  | free | lookup
  | walk (level : Level)
  | waitLock | readAccount | writeAccount | writeSlot | reply
  deriving DecidableEq, Repr

/-- The level of a walk's read in flight. -/
def WalkAt.level : WalkAt → Level
  | .floor => .floor
  | .flat _ => .flat
  | .card _ => .card

/-- The level of a directory request's read in flight. -/
def DirAt.level : DirAt → Level
  | .floor | .targetFloor => .floor
  | .flat _ | .targetFlat _ | .belowFloor _ => .flat
  | .card _ | .targetCard _ | .belowFlat _ => .card

/-- The state of R97 a context's step belongs to. PRICE is left within the event that enters it. -/
def Stage.state : Stage → ContextState
  | .free => .free
  | .lookup => .lookup
  | .walk w => .walk w.at_.level
  | .dirRead j => .walk j.at_.level
  | .holdLock _ | .settleLock _ | .releaseLock | .deferredLock _ | .dirLock _ _ | .accountLock => .waitLock
  | .holdRead _ | .settleSlotRead _ | .settleRead _ | .releaseRead | .deferredRead _ | .dirAccount _
  | .accountRead => .readAccount
  | .holdWrite _ _ | .settleWrite _ _ | .releaseWrite | .deferredWrite _ | .dirWrite _ | .accountWrite _ _ =>
    .writeAccount
  | .holdSlot _ | .settleMark _ | .settleSlot _ _ | .releaseMark | .releaseSlot | .deferredSlot _ => .writeSlot
  | .reply _ _ => .reply

/-! ## Going on with a lock -/

/-- The PART_RELEASE a context carries out: machine, session id, part number, part, and whether the slot was given it. -/
def Context.release? (x : Context) : Option (MachineNo × Nat × Nat × Part × Bool) :=
  match x.request with
  | some (.partRelease m id n p w) => some (m, id, n, p, w)
  | _ => none

/-- The ACCOUNT request a context carries out. -/
def Context.account? (x : Context) : Option (AccountNo × AccountOp) :=
  match x.request with
  | some (.account a op) => some (a, op)
  | _ => none

/-- The vend a context carries out. -/
def Context.vend? (x : Context) : Option Vend := x.request.bind PayRequest.vend?

/-- Context `c` has been given the lock it waited for, and goes on (R98). -/
def State.gotLock (s : State) (c : ContextNo) : Flow :=
  let x := s.context c
  match x.stage with
  | .holdLock y => s.holdLocked c y
  | .settleLock j => s.settleLocked c j
  | .releaseLock =>
    match x.release? with
    | some (m, _, _, p, _) =>
      match p.payer with
      | some a => s.releaseLocked c m a
      | none => (s, [])
    | none => (s, [])
  | .deferredLock d => s.deferredLocked c d
  | .dirLock j wanted => s.dirLocked c j wanted
  | .accountLock =>
    match x.account? with
    | some (a, op) => s.accountLocked c a op
    | none => (s, [])
  | _ => (s, [])

/-- The contexts given a lock go on, one after the other, with those their steps let go on after them. `fuel` bounds the
steps: only a part whose payer is on the damaged list passes a lock on without a transaction, and there are 8 contexts of
at most 4 parts each. -/
def State.goOn : Nat → List ContextNo → State → State
  | 0, _, s => s
  | _ + 1, [], s => s
  | fuel + 1, c :: rest, s =>
    let f := s.gotLock c
    State.goOn fuel (f.2 ++ rest) f.1

/-- A flow followed to its end. -/
def Flow.run (f : Flow) : State := State.goOn 64 f.2 f.1

/-! ## Taking a request -/

/-- The kinds of the session engine (R96). -/
def PayRequest.isEngine : PayRequest → Bool
  | .authorise _ _ _ _ _ _ | .extend _ _ _ _ _ | .settle _ _ _ _ _ | .partRelease _ _ _ _ _ => true
  | .deferred _ | .probe _ _ | .directory _ _ | .account _ _ => false

/-- Whether a context may take a request: the session engine's kinds wait while seven contexts hold requests of these
kinds (R96). -/
def State.admits (s : State) (q : PayRequest) : Bool :=
  !q.isEngine ||
    decide (((indexes 8).filter fun c => (s.context c).request.any PayRequest.isEngine).length < Config.sessionContexts)

/-- The lowest-numbered FREE context (R96). -/
def State.freeNo (s : State) : Option ContextNo := (indexes 8).find? fun c => (s.context c).request.isNone

/-- A context begins a request. -/
def State.begin (s : State) (c : ContextNo) : PayRequest → Flow
  | .authorise m cls card p n id => s.beginVend c ⟨m, cls, card, p, n, id, false⟩
  | .extend m card p n id => s.beginVend c ⟨m, .dryer, card, p, n, id, true⟩
  | .settle m id cause e p => s.beginSettle c m id cause e p
  | .partRelease m _ _ p _ => (s.beginRelease c m p, [])
  | .deferred key => s.beginDeferred c key
  | .probe card cls => (s.beginProbe c card cls, [])
  | .directory p w => (s.beginDirectory c p w, [])
  | .account a _ => (s.stage c .accountLock).askLock c a

/-- A FREE context takes the request at the head of the queue, if it may, and begins it (R96). -/
def State.takeRequest (s : State) : State :=
  match s.freeNo, s.payment.queue with
  | some c, q :: rest =>
    if s.admits q then
      let t := { s with payment := { s.payment with queue := rest } }
      let t := t.modContext c fun x => { x with request := some q }
      (t.begin c q).run
    else s
  | _, _ => s

/-! ## Transactions -/

/-- A store transaction of context `c` completes with a result: the rule of the request's kind, at its step.
DESIGN CHOICE (log entry 45). -/
def State.contextDone (s : State) (c : ContextNo) (r : Result) : Flow :=
  let x := s.context c
  match x.stage with
  | .walk w => s.walkDone c w r
  | .holdRead y => match x.vend? with | some v => s.holdReadDone c v y r | none => (s, [])
  | .holdWrite y p => match x.vend? with | some v => s.holdWriteDone c v y p | none => (s, [])
  | .holdSlot p => (s.stage c (.reply (.success p true) none), [])
  | .settleSlotRead rules =>
    match x.request with
    | some (.settle m id cause e p) => s.settleSlotDone c m id cause e p rules r
    | _ => (s, [])
  | .settleMark j => s.settleNext c j
  | .settleRead j => s.settleReadDone c j r
  | .settleWrite j n => s.settleWriteDone c j n
  | .settleSlot j code => (s.stage c (.reply (.settled j.settled (some code)) none), [])
  | .releaseMark => match x.release? with | some (m, _, _, p, _) => s.releaseMarked c m p | none => (s, [])
  | .releaseRead =>
    match x.release? with
    | some (m, _, _, p, _) => match p.payer with | some a => s.releaseReadDone c m p a r | none => (s, [])
    | none => (s, [])
  | .releaseWrite =>
    match x.release? with
    | some (m, _, _, p, _) => match p.payer with | some a => s.releasePast c m a | none => (s, [])
    | none => (s, [])
  | .releaseSlot => (s.stage c (.reply .released none), [])
  | .deferredRead d => s.deferredReadDone c d r
  | .deferredWrite d => s.deferredWriteDone c d
  | .deferredSlot d => (s.deferredSlotDone c d, [])
  | .dirRead j => s.dirReadDone c j r
  | .dirAccount j => s.dirAccountDone c j r
  | .dirWrite w => s.dirWriteDone c w r
  | .accountRead => match x.account? with | some (a, op) => s.accountReadDone c a op r | none => (s, [])
  | .accountWrite y before =>
    match x.account? with
    | some (a, op) => s.accountWriteDone c a op y before
    | none => (s, [])
  | _ => (s, [])

/-- The slot write of a vend fails back: the hold of a part with an account step is left to a release entry, and a part
without one is granted all the same (R103, R105). The part of an EXTEND has the number the engine would give it (R5, R185).
DEDUCED (log entry 74). -/
def State.holdSlotFailed (s : State) (c : ContextNo) (v : Vend) (p : Part) : State :=
  if p.takesAccount then
    s.placeEntry c (.refused .storeUnavailable)
      (newEntry v.machine v.id
        [⟨(s.engineParts v.machine).length + 1, p.payer, p.hold, 0, p.units, true, false, false⟩] false)
  else s.stage c (.reply (.success p false) none)

/-- A step that held the lock of an account gives it up after what it does instead. -/
def State.andRelease (s : State) (a : Option AccountNo) : Flow :=
  match a with
  | some x => s.releaseLock x
  | none => (s, [])

/-- A store transaction of context `c` fails back with STORE_UNAVAILABLE: the rule of the request's kind, at its step
(R60, R62, R68, R105, R110, R112 to R114). -/
def State.contextFailed (s : State) (c : ContextNo) : Flow :=
  let x := s.context c
  match x.stage with
  | .walk _ => (s.walkFailed c, [])
  | .holdRead y | .holdWrite y _ => s.refuseLocked c y.account .storeUnavailable
  | .holdSlot p => match x.vend? with | some v => (s.holdSlotFailed c v p, []) | none => (s, [])
  | .settleSlotRead rules =>
    match x.request with
    | some (.settle m id cause e p) =>
      (s.deferSettle c (s.settleJob m id cause e p rules (s.engineParts m) true) false, [])
    | _ => (s, [])
  | .settleMark j => (s.deferSettle c j false, [])
  | .settleRead j | .settleWrite j _ => (s.deferSettle c j false).andRelease j.payer?
  | .settleSlot j _ => (s.deferSettle c j true, [])
  | .releaseMark =>
    match x.release? with
    | some (m, id, n, p, w) => (s.deferRelease c m id n p w false, [])
    | none => (s, [])
  | .releaseRead | .releaseWrite =>
    match x.release? with
    | some (m, id, n, p, w) => (s.deferRelease c m id n p w false).andRelease p.payer
    | none => (s, [])
  | .releaseSlot =>
    match x.release? with
    | some (m, id, n, p, w) => (s.deferRelease c m id n p w true, [])
    | none => (s, [])
  | .deferredRead d | .deferredWrite d => (s.deferredFailed c d).andRelease (d.nextPart.bind DeferredPart.payer)
  | .deferredSlot d => (s.deferredFailed c d, [])
  | .dirRead _ => s.dirReply c [] .storeUnavailable []
  | .dirAccount j => s.dirReply c j.locks .storeUnavailable []
  | .dirWrite w => (s.restorePages w).dirReply c w.locks .storeUnavailable []
  | .accountRead | .accountWrite _ _ =>
    match x.account? with
    | some (a, _) => s.accountReply c a .storeUnavailable []
    | none => (s, [])
  | _ => (s, [])

end Sys2Proof.Machine
end

