-- ==== Sys2Proof/Machine/StoreOps.lean ====
section
/-! DEFINITION. The store port: carrying out the head transaction (R179), failing back (R182, R183), the write-back list and
the slot refresher (R180, R181), the probe (R184), CONFIG_SAVE's writer (R206), what a power loss leaves (R177), and what
ends every event. -/
namespace Sys2Proof.Machine

/-! ## The head of the queue -/

/-- The state with the store port's queue replaced. -/
def State.withQueue (s : State) (q : List Transaction) : State := { s with store := { s.store with queue := q } }

/-- The transaction at the head of the queue is carried out and leaves it: its result, and the state (R178, R179). -/
def State.carry (s : State) (t : Transaction) (rest : List Transaction) : Result × State :=
  let r := s.fram.perform t.access
  (r.1, { s.withQueue rest with fram := r.2 })

/-- The head of the queue completes at a context, when the context is at a step the event is due for; otherwise the event
does not arise and nothing changes. -/
def State.contextEvent (s : State) (due : Stage → Bool) : State :=
  match s.store.queue with
  | ⟨.context c, a⟩ :: rest =>
    if s.storeUp && due (s.context c).stage then
      let p := s.carry ⟨.context c, a⟩ rest
      (p.2.contextDone c p.1).run
    else s
  | _ => s

/-- A directory read of a walk, or of a directory request, is in flight. -/
def Stage.readsDirectory : Stage → Bool
  | .walk _ | .dirRead _ => true
  | _ => false

/-- An account record read is in flight. -/
def Stage.readsAccount : Stage → Bool
  | .holdRead _ | .settleRead _ | .releaseRead | .deferredRead _ | .dirAccount _ | .accountRead => true
  | _ => false

/-- An account record write is in flight. -/
def Stage.writesAccount : Stage → Bool
  | .holdWrite _ _ | .settleWrite _ _ | .releaseWrite | .deferredWrite _ | .accountWrite _ _ => true
  | _ => false

/-- A settlement's slot read is in flight. -/
def Stage.readsSlot : Stage → Bool
  | .settleSlotRead _ => true
  | _ => false

/-- A slot write by a context is in flight. -/
def Stage.writesSlot : Stage → Bool
  | .holdSlot _ | .settleMark _ | .settleSlot _ _ | .releaseMark | .releaseSlot | .deferredSlot _ => true
  | _ => false

/-- A store write of a directory write is in flight. -/
def Stage.writesDirectory : Stage → Bool
  | .dirWrite _ => true
  | _ => false

/-! ## Failing back -/

/-- The mark of a refresher transaction is set again (R181). -/
def State.remark (s : State) (m : MachineNo) (lockout : Bool) : State :=
  if lockout then s.markLockout m
  else { s with store := { s.store with refreshMarks := update s.store.refreshMarks m fun _ => true } }

/-- A transaction fails back to its issuer (R180 to R182, R206). -/
def State.failIssuer (s : State) (i : Issuer) : State :=
  match i with
  | .context c => (s.contextFailed c).run
  | .dayList => s
  | .refresher m lockout => s.remark m lockout
  | .configWriter => ({ s with store := { s.store with saving := none } }).refuse .storeUnavailable
  | .probe | .scanner => s

/-- Whether a transaction is the probe's. -/
def Transaction.isProbe (t : Transaction) : Bool := t.issuer == .probe

/-- While the store is not UP, every transaction that is not the probe's fails back, first to last (R182, R183). What the
failing of one issues fails back before the rest, in the order issued. `fuel` bounds them: each of the at most 16 fails once, and
the contexts they let go on fail once each, so none is left when it runs out. -/
def State.drain : Nat → State → State
  | 0, s => s.withQueue (s.store.queue.filter Transaction.isProbe)
  | fuel + 1, s =>
    match s.store.queue.filter fun t => !t.isProbe with
    | [] => s
    | t :: rest =>
      let u := (s.withQueue (s.store.queue.filter Transaction.isProbe)).failIssuer t.issuer
      State.drain fuel (u.withQueue (u.store.queue ++ rest))

/-- The transactions issued while the store is not UP fail back at once (R183). DEDUCED (log entry 42). -/
def State.failIssued (s : State) : State := if s.storeUp then s else s.drain 64

/-- The store goes DOWN: everything queued fails back, the STORE notice is queued and tPROBE starts (R182). -/
def State.storeDown (s : State) : State :=
  let t := ({ s with store := { s.store with state := .down } }).failIssued
  let t := t.notify (.store .down t.store.deferred.length)
  { t with store := { t.store with probeTimer := true } }

/-- The store returns to UP (R184). -/
def State.storeReturns (s : State) : State :=
  let t := { s with store := { s.store with state := .up } }
  (t.notify (.store .up t.store.deferred.length)).offerDeferred

/-! ## The write-back list and the refresher -/

/-- Whether a transaction of an issuer of some kind is queued. -/
def State.hasIssued (s : State) (p : Issuer → Bool) : Bool := s.store.queue.any fun t => p t.issuer

/-- The oldest day update is issued when none of the list is in the queue (R180). -/
def State.issueDay (s : State) : State :=
  if s.hasIssued (· == .dayList) then s
  else
    match s.store.dayList with
    | [] => s
    | u :: rest => ({ s with store := { s.store with dayList := rest } }).issue .dayList (.dayUpdate u)

/-- Whether an issuer is the slot refresher. -/
def Issuer.isRefresher : Issuer → Bool
  | .refresher _ _ => true
  | _ => false

/-- The refresher's pointer passes the machine chosen (R181). -/
def State.passRefresher (s : State) (m : MachineNo) : State := { s with store := { s.store with pointer := next m } }

/-- A lockout slot update is issued, its mark cleared (R181). -/
def State.issueLockout (s : State) (m : MachineNo) : State :=
  let t := { s with store := { s.store with lockoutMarks := update s.store.lockoutMarks m fun _ => false } }
  (t.passRefresher m).issue (.refresher m true) (.slotLockout m (s.machine m).lockout)

/-- A slot refresh is issued, its mark cleared: `e` and `P` as the session engine holds them now (R181).
DESIGN CHOICE (log entry 44). -/
def State.issueRefresh (s : State) (m : MachineNo) : State :=
  let t := { s with store := { s.store with refreshMarks := update s.store.refreshMarks m fun _ => false } }
  let a : Access :=
    match s.session m with
    | some x => .slotRefresh m x.id x.elapsed x.paused
    | none => .slotRefresh m 0 0 0
  (t.passRefresher m).issue (.refresher m false) a

/-- The refresher chooses its next machine when it has no transaction in the queue: lockout marks first (R181). -/
def State.refresh (s : State) : State :=
  if s.hasIssued Issuer.isRefresher then s
  else
    match firstFrom s.store.pointer (fun m => look s.store.lockoutMarks m) with
    | some m => s.issueLockout m
    | none =>
      match firstFrom s.store.pointer (fun m => look s.store.refreshMarks m) with
      | some m => s.issueRefresh m
      | none => s

/-- The store port's own issuers issue while the store is UP; none does before the scan has ended (R180, R181).
DEDUCED (log entry 43). -/
def State.issueOwn (s : State) : State := if s.storeUp && s.scan.at_ == .off then s.issueDay.refresh else s

/-! ## CONFIG_SAVE -/

/-- A copy of every item in force, the enables and the severities (R206). -/
def State.configBlock (s : State) : ConfigBlock where
  one := {
    site := s.directory.site
    rooms := Vector.ofFn fun r => ⟨(look s.feeder.rooms r).capacity, (s.guard r).edge⟩
    machines := Vector.ofFn fun m => ⟨(s.machine m).room, (s.machine m).cls, (s.machine m).assigned⟩ }
  two := s.tariff
  three := {
    armSeconds := s.engine.armSeconds
    overrunMinutes := s.engine.overrunMinutes
    graceMinutes := s.engine.graceMinutes
    windows := s.directory.windows
    cache := ⟨s.cache.mask, s.cache.replacement, s.cache.sweepBurst, s.cache.lookupBurst⟩
    mode := s.feeder.mode
    limit := s.feeder.limit
    high := s.feeder.high
    low := s.feeder.low
    lamps := s.lamps
    mask := s.host.mask }
  four := ⟨s.supervisor.enables, s.supervisor.severities⟩

/-- The whole-record write of a segment (R206). -/
def ConfigBlock.access (b : ConfigBlock) (k : Fin 4) : Access :=
  if k = 0 then .writeOne b.one
  else if k = 1 then .writeTwo b.two
  else if k = 2 then .writeThree b.three
  else .writeFour b.four

/-- A segment's write is issued. -/
def State.saveSegment (s : State) (b : ConfigBlock) (k : Fin 4) : State :=
  ({ s with store := { s.store with saving := some ⟨b, k⟩ } }).issue .configWriter (b.access k)

/-- A segment's write has completed: the next is issued, or the save replies OK (R206). -/
def State.segmentDone (s : State) : State :=
  match s.store.saving with
  | none => s
  | some v =>
    if v.segment = 3 then ({ s with store := { s.store with saving := none } }).reply .ok []
    else s.saveSegment v.block (next v.segment)

/-! ## Power -/

/-- What a power loss leaves of the store: the head transaction not begun, cut short, or carried out (R177). -/
def State.cutFram (s : State) (cut : PowerCut) : Fram :=
  match s.store.queue, cut with
  | t :: _, .duringWrite => if s.storeUp then s.fram.cutShort t.access else s.fram
  | t :: _, .afterWrite => if s.storeUp then (s.fram.perform t.access).2 else s.fram
  | _, _ => s.fram

/-- The rooms' guards at reset: what stands at the input pins is no state of the part's, and stays. -/
def State.resetGuards (s : State) : Vector RoomGuard 4 :=
  Vector.ofFn fun r => { RoomGuard.initial with input := (s.guard r).input }

/-- Every block at its reset values, over a store and what stands outside the part (R209). -/
def State.restart (s : State) (f : Fram) : State :=
  { State.reset with
    fram := f
    supervisor := { Supervisor.initial with rooms := s.resetGuards }
    freeIndex := s.freeIndex
    pending := s.pending }

/-- The soft reset: the transaction being carried out is finished (R179), and the timebase and the rule lock are kept
(R161, R207, R209). -/
def State.softReset (s : State) : State :=
  let t := s.restart (s.cutFram .afterWrite)
  { t with clock := s.clock, supervisor := { t.supervisor with ruleLock := s.supervisor.ruleLock } }

/-! ## The end of an event -/

/-- The idle cache array's arbiter chooses its next access (R87). -/
def State.arbitrate (s : State) : State := { s with cache := s.cache.arbitrate }

/-- What ends every event: transactions issued to a store that is not UP fail back, the store port's own issuers issue, the
idle cache array chooses its next access, the free line begins its next exchange, and the free transmitter chooses its next
frame (R41, R87, R180, R183, R199). -/
def State.conclude (s : State) : State := s.failIssued.issueOwn.arbitrate.beginExchange.transmit

/-- An event of the powered part: nothing happens in a part without power. DEDUCED (log entry 12). -/
def act (f : State → State) (s : State) : Host.Outcome State Fault Refusal :=
  .next (if s.powered then (f s).conclude else s)

end Sys2Proof.Machine
end

