-- ==== Sys2Proof/Machine/Scan.lean ====
section
/-! DEFINITION. The start-up scan: the configuration block (R187), the directory pass (R188), the slot pass (R189), the account
pass (R190), and the end of the scan (R2, R209). -/
namespace Sys2Proof.Machine

/-! ## Steps -/

/-- The state with the scan changed. -/
def State.modScan (s : State) (f : Scan → Scan) : State := { s with scan := f s.scan }

/-- The scan goes to a step and issues its transaction (R180). -/
def State.scanTo (s : State) (at_ : ScanAt) (a : Access) : State :=
  (s.modScan fun x => { x with at_ := at_ }).issue .scanner a

/-! ## The end of the scan -/

/-- One room's leak input is sampled (R176). -/
def State.sampleRoom (s : State) (r : RoomNo) : State :=
  let t := s.modGuard r fun g => { g with filtered := g.input, debounce := false }
  if EdgeSelect.onset (t.guard r).edge (t.guard r).filtered && t.leakRule then t.closeRoom r
  else t.modGuard r fun g => { g with valveOpen := true }

/-- The links of assigned and enabled machines start PROBING, and the recovery windows start (R22, R37, R209).
DEDUCED (log entry 64). -/
def State.startMachine (s : State) (m : MachineNo) : State :=
  let r := s.machine m
  let t := if r.assigned && r.enabled then s.startProbing m else s
  if r.state = .recovering then t.modMachine m fun x => { x with recoveryWindow := true } else t

/-- What every end of the scan does: sampling, room 0 first, links, recovery windows, the stored mask, the START_UP notice (R209).
DEDUCED (log entry 68). DESIGN CHOICE (log entry 82). -/
def State.endScan (s : State) (st : StartUpState) (mask : NoticeMask) : State :=
  let t := { s with scan := { Scan.initial with at_ := .off } }
  let t := forEach (indexes 4) (fun r u => u.sampleRoom r) t
  let t := forEach (indexes 64) (fun m u => u.startMachine m) t
  let t := { t with startUp := st, host := { t.host with mask := mask } }
  t.notify (.startUp st t.store.state)

/-- Every block the configuration and the scan build, at its defaults again (R187). DEDUCED (log entry 57). -/
def State.discardBuilt (s : State) : State :=
  { s with
    engine := SessionEngine.initial
    directory := DirectoryUnit.initial
    cache := Cache.initial
    tariff := Tariff.initial
    feeder := Feeder.initial
    lamps := LampMap.initial
    payment := PaymentUnit.initial
    supervisor := { s.supervisor with
      enables := Supervisor.initial.enables
      severities := Supervisor.initial.severities
      locking := Supervisor.initial.locking
      rooms := s.resetGuards } }

/-- The scan ends for want of a valid status (R187). -/
def State.scanNoStore (s : State) : State :=
  let t := { s.discardBuilt with store := { s.store with state := .noStore, queue := [] } }
  t.endScan .noStore NoticeMask.all

/-- The scan ends at an absent or damaged segment (R187). -/
def State.scanNotConfigured (s : State) : State := s.endScan .notConfigured NoticeMask.all

/-- The cap in force after the scan: the stored one, raised to the largest hold of the rebuilt sessions (R127). -/
def State.raiseCap (s : State) : State :=
  { s with tariff := { s.tariff with cap := max s.tariff.cap s.largestHold } }

/-- The scan is complete (R209). -/
def State.scanComplete (s : State) : State :=
  let mask := match s.scan.three with | some c => c.mask | none => NoticeMask.all
  s.raiseCap.endScan (if s.anyRecovering then .recovering else .ready) mask

/-! ## The configuration block -/

/-- The room items of segment 1 take effect (R138, R172). -/
def State.loadRoom (s : State) (c : SegmentOne) (r : RoomNo) : State :=
  let i := look c.rooms r
  ({ s with feeder := s.feeder.modRoom r fun x => { x with capacity := i.capacity } }).modGuard r fun g =>
    { g with edge := i.edge }

/-- A machine item of segment 1 takes effect; the slot pass gives its state (R2). -/
def State.loadMachine (s : State) (c : SegmentOne) (m : MachineNo) : State :=
  let i := look c.machines m
  s.modMachine m fun r => { r with room := i.room, cls := i.cls, assigned := i.assigned }

/-- Segment 3 takes effect, but for the notice mask, which waits for the end of the scan (R200). -/
def State.loadThree (s : State) (c : SegmentThree) : State :=
  { s with
    engine := { s.engine with
      armSeconds := c.armSeconds, overrunMinutes := c.overrunMinutes, graceMinutes := c.graceMinutes }
    directory := { s.directory with windows := c.windows }
    cache := s.cache.configure c.cache
    feeder := { s.feeder with mode := c.mode, limit := c.limit, high := c.high, low := c.low }
    lamps := c.lamps }

/-- Every segment has been read: the stored values take effect (R187). -/
def State.loadConfig (s : State) (c : ConfigBlock) : State :=
  let t := { s with directory := { s.directory with site := c.one.site }, tariff := c.two }
  let t := forEach (indexes 4) (fun r u => u.loadRoom c.one r) t
  let t := forEach (indexes 64) (fun m u => u.loadMachine c.one m) t
  let t := t.loadThree c.three
  { t with supervisor := { t.supervisor with enables := c.four.enables, severities := c.four.severities } }

/-- A segment's read completes (R187). The first that is absent or damaged ends the scan, and the later ones are not read.
DESIGN CHOICE (log entry 96). -/
def State.scanSegment (s : State) (r : Result) : State :=
  match r with
  | .one c => (s.modScan fun x => { x with one := some c }).scanTo (.segment 1) (.readSegment 1)
  | .two c => (s.modScan fun x => { x with two := some c }).scanTo (.segment 2) (.readSegment 2)
  | .three c => (s.modScan fun x => { x with three := some c }).scanTo (.segment 3) (.readSegment 3)
  | .four c =>
    match s.scan.one, s.scan.two, s.scan.three with
    | some a, some b, some d => (s.loadConfig ⟨a, b, d, c⟩).scanTo .floors .readFloors
    | _, _, _ => s.scanNotConfigured
  | _ => s.scanNotConfigured

/-! ## The account pass -/

/-- The sum the slot pass built for an account: H over the parts of the slots read that name it (R189). -/
def Scan.sum (x : Scan) (a : AccountNo) : Nat :=
  ((x.slots.flatMap fun y => match y.2.copy with | some c => c.parts | none => []).filterMap fun p =>
    if p.part.payer = some a then some p.part.hold else none).sum

/-- One part detached, if it names the account, bears the mark, and the sum still exceeds the stored held amount (R190):
the part and the sum left. -/
def detachPart (a : AccountNo) (held sum : Nat) (p : SlotPart) : SlotPart × Nat :=
  if p.part.payer = some a ∧ p.mark = true ∧ held < sum then
    ({ p with part := { p.part with payer := none } }, sum - p.part.hold)
  else (p, sum)

/-- The parts of one session, in part order. -/
def detachParts (a : AccountNo) (held : Nat) : Nat → List SlotPart → List SlotPart × Nat
  | sum, [] => ([], sum)
  | sum, p :: rest =>
    let d := detachPart a held sum p
    let r := detachParts a held d.2 rest
    (d.1 :: r.1, r.2)

/-- The slots, in machine number order. -/
def detachSlots (a : AccountNo) (held : Nat) : Nat → List (MachineNo × Slot) → List (MachineNo × Slot) × Nat
  | sum, [] => ([], sum)
  | sum, (m, x) :: rest =>
    match x.copy with
    | none =>
      let r := detachSlots a held sum rest
      ((m, x) :: r.1, r.2)
    | some c =>
      let d := detachParts a held sum c.parts
      let r := detachSlots a held d.2 rest
      ((m, { x with copy := some { c with parts := d.1 } }) :: r.1, r.2)

/-- The on-chip session of machine `m` takes the parts its slot now holds. -/
def State.takeParts (s : State) (y : MachineNo × Slot) : State :=
  match y.2.copy with
  | some c => s.modSession y.1 fun x => { x with parts := c.parts.map SlotPart.part }
  | none => s

/-- The slots after detaching, and those changed (R190). -/
def State.detach (s : State) (slots : List (MachineNo × Slot)) : State :=
  let changed := (s.scan.slots.zip slots).filterMap fun y => if y.1 = y.2 then none else some y.1.1
  let t := s.modScan fun x => { x with slots := slots, changed := x.changed ++ changed.filter fun m => !x.changed.contains m }
  forEach slots (fun y u => u.takeParts y) t

/-- The slots that hold a detached part are written, in machine number order; then the scan is complete (R190).
The order of the writes is the model's. DESIGN CHOICE (log entry 93). -/
def State.scanSlotWrites (s : State) : State :=
  match (indexes 64).find? fun m => s.scan.changed.contains m with
  | none => s.scanComplete
  | some m =>
    let t := s.modScan fun x => { x with changed := x.changed.filter (· != m) }
    match t.scan.slots.find? fun y => y.1 == m with
    | some y => t.scanTo (.slotWrite m) (.writeSlot m y.2)
    | none => t.scanTo (.slotWrite m) (.writeSlot m ⟨none, none⟩)

/-- The account pass goes on after account `a` (R190). -/
def State.scanAfterAccount (s : State) (a : AccountNo) : State :=
  if h : a.1 + 1 < 1024 then s.scanTo (.account ⟨a.1 + 1, h⟩) (.readAccount ⟨a.1 + 1, h⟩) else s.scanSlotWrites

/-- An account's read completes (R190). -/
def State.scanAccount (s : State) (a : AccountNo) (r : Result) : State :=
  match r with
  | .account x =>
    let sum := s.scan.sum a
    if x.held = sum then s.scanAfterAccount a
    else if sum < x.held then s.scanTo (.accountWrite a) (.writeAccount a { x with held := sum })
    else
      let d := detachSlots a x.held sum s.scan.slots
      (s.detach d.1).scanTo (.accountWrite a) (.writeAccount a { x with held := d.2 })
  | _ => (s.foundDamaged a).scanAfterAccount a

/-! ## The slot pass -/

/-- The slot of the first assigned machine at or after number `k` is read; after the last the account pass begins. -/
def State.scanSlotFrom (s : State) (k : Nat) : State :=
  match (indexes 64).find? fun m => decide (k ≤ m.1) && (s.machine m).assigned with
  | some m => s.scanTo (.slot m) (.readSlot m)
  | none => s.scanTo (.account 0) (.readAccount 0)

/-- A session rebuilt from a slot copy (R2). -/
def rebuilt (c : SlotCopy) (clock : Timebase) : Session :=
  { newSession c.id c.programme c.mode 0 c.units (c.parts.map SlotPart.part) with
    elapsed := c.elapsed
    paused := c.paused
    startDay := clock.day
    startMinute := clock.minute }

/-- A RESTORED_LOCKOUT record is written as machine `m`'s locking record (R189). -/
def State.restoreLockout (s : State) (m : MachineNo) : State :=
  let t := s.writeRecord (.machine m) .restoredLockout .lockout (s.sessionRef m)
  (t.setLocking m (some t.supervisor.counter)).faultNotice

/-- A slot read by the slot pass is judged (R189). -/
def State.judgeSlot (s : State) (m : MachineNo) (x : Slot) : State :=
  match x.copy, x.lockout with
  | none, none => s.modMachine m fun r => { r with state := .offline }
  | none, some code => (s.modMachine m fun r => { r with state := .lockedOut, lockout := some code }).restoreLockout m
  | some c, lockout =>
    let after := match lockout with | some code => AfterSettle.lockedOut code | none => .done
    let t := s.modMachine m fun r =>
      { r with state := .recovering, session := some (rebuilt c s.clock), afterSettle := after }
    let t := { t with engine := { t.engine with idCounter := max t.engine.idCounter c.id } }
    let t := t.modScan fun y => { y with slots := y.slots ++ [(m, x)] }
    if lockout.isSome then t.restoreLockout m else t

/-- A slot's read completes; a damaged slot is written whole, locked out (R189). -/
def State.scanSlot (s : State) (m : MachineNo) (r : Result) : State :=
  match r with
  | .slot x => (s.judgeSlot m x).scanSlotFrom (m.1 + 1)
  | _ => s.scanTo (.slotRepair m) (.writeSlot m ⟨some .restoredLockout, none⟩)

/-- A damaged slot's write completes (R189). -/
def State.scanSlotRepaired (s : State) (m : MachineNo) : State :=
  let t := s.modMachine m fun r => { r with state := .lockedOut, lockout := some .restoredLockout }
  ((t.reportPart .storeDamaged (.machine m)).restoreLockout m).scanSlotFrom (m.1 + 1)

/-! ## The directory pass -/

/-- The pools after the directory pass: every page not reached is free (R71, R188). -/
def State.buildPools (s : State) : State :=
  { s with directory := { s.directory with
      freeFlats := (indexes 64).filter fun p => !s.scan.usedFlats.contains p
      freeCards := (indexes 512).filter fun p => !s.scan.usedCards.contains p } }

/-- The descriptor that names a page, written INVALID with its HOLD kept (R188). -/
def ScanPage.invalidate : ScanPage → Access
  | .flat f hold _ => .updateFloor f ⟨none, hold⟩
  | .card _ g n hold _ => .updateFlat g n ⟨none, hold⟩

/-- The read of a page. -/
def ScanPage.access : ScanPage → Access
  | .flat _ _ g => .readFlatPage g
  | .card _ _ _ _ g => .readCardPage g

/-- Whether a page has been reached before. -/
def Scan.reached (x : Scan) : ScanPage → Bool
  | .flat _ _ g => x.usedFlats.contains g
  | .card _ _ _ _ g => x.usedCards.contains g

/-- The directory pass goes on with the pages left; a page named a second time is not read again (R188). -/
def State.scanPages (s : State) (ps : List ScanPage) : State :=
  match ps with
  | [] => s.buildPools.scanSlotFrom 0
  | p :: rest =>
    if s.scan.reached p then s.scanTo (.pageRepair p rest) p.invalidate else s.scanTo (.page p rest) p.access

/-- The pages a floor table names, in floor order (R188). -/
def floorPages (t : FloorTable) : List ScanPage :=
  (indexes 64).filterMap fun f => (look t f).page.map fun g => .flat f (look t f).hold g

/-- The card-table pages a flat-table page names, in flat order (R188). -/
def flatPages (f : Fin 64) (inPage : FlatPageNo) (c : FlatPage) : List ScanPage :=
  (indexes 16).filterMap fun n => (look c n).page.map fun g => .card f inPage n (look c n).hold g

/-- The counts with every ACCOUNT descriptor of a card page added (R188). -/
def countPage (refs : Vector Nat 1024) (c : CardPage) : Vector Nat 1024 :=
  (indexes 4).foldl (fun r o => countCards r none (look c o).account?) refs

/-- A page's read completes (R188). -/
def State.scanPage (s : State) (p : ScanPage) (rest : List ScanPage) (r : Result) : State :=
  match p, r with
  | .flat f _ g, .flatPage c =>
    (s.modScan fun x => { x with usedFlats := g :: x.usedFlats }).scanPages (flatPages f g c ++ rest)
  | .card _ _ _ _ g, .cardPage c =>
    let t := { s with directory := { s.directory with refs := countPage s.directory.refs c } }
    (t.modScan fun x => { x with usedCards := g :: x.usedCards }).scanPages rest
  | _, _ => s.scanTo (.pageRepair p rest) p.invalidate

/-- The floor table's read completes; a damaged table is written whole, with 64 INVALID descriptors (R188). -/
def State.scanFloors (s : State) (r : Result) : State :=
  match r with
  | .floors t => s.scanPages (floorPages t)
  | _ => s.scanTo .floorsRepair (.writeFloors (Vector.replicate 64 ⟨none, false⟩))

/-- A repair's STORE_REPAIR record (R188, R190). -/
def State.repaired (s : State) (ref : Reference) : State := s.reportPart .storeRepair ref

/-- A transaction of the scan completes with a result (R187 to R190). DEDUCED (log entry 56). -/
def State.scanDone (s : State) (r : Result) : State :=
  match s.scan.at_ with
  | .off => s
  | .segment _ => s.scanSegment r
  | .floors => s.scanFloors r
  | .floorsRepair => (s.repaired .none).scanPages []
  | .page p rest => s.scanPage p rest r
  | .pageRepair _ rest => (s.repaired .none).scanPages rest
  | .slot m => s.scanSlot m r
  | .slotRepair m => s.scanSlotRepaired m
  | .account a => s.scanAccount a r
  | .accountWrite a => (s.repaired (.account a)).scanAfterAccount a
  | .slotWrite _ => s.scanSlotWrites

end Sys2Proof.Machine
end

