-- ==== Sys2Proof/Machine/ConfigRequests.lean ====
section
/-! DEFINITION. The configuration requests at their owners: every item of CONFIG_SET judged and applied (11.1, R205), the item
CONFIG_GET answers, CONFIG_SAVE (R206), CLOCK_SET (R207), RESET (R198) and IDENTIFY (R208). -/
namespace Sys2Proof.Machine

/-- An accepted request with no results. -/
def State.accept (s : State) : State := s.reply .ok []

/-! ## Items -/

/-- SITE (R53). -/
def State.setSite (s : State) (code : Nat) : State :=
  ({ s with directory := { s.directory with site := code } }).accept

/-- ROOM: the capacity with its shedding, pass and judgement; then the leak edge, re-judged when it changes (R139, R151,
R172, R176). That the capacity comes before the edge is the model's. DESIGN CHOICE (log entry 92). -/
def State.setRoom (s : State) (r : RoomNo) (capacity : Nat) (edge : EdgeSelect) : State :=
  if 600 < capacity then s.refuse .badArgument
  else
    let t := ({ s with feeder := s.feeder.modRoom r fun x => { x with capacity := capacity } }).rebalance.1
    let old := (t.guard r).edge
    let t := t.modGuard r fun g => { g with edge := edge }
    (if edge = old then t else t.rejudgeRoom r).accept

/-- A machine is assigned, or its room or class changed (R3). -/
def State.assignMachine (s : State) (m : MachineNo) (room : RoomNo) (cls : MachineClass) : State :=
  let r := s.machine m
  let t := s.modMachine m fun x => { x with room := room, cls := cls, assigned := true }
  if r.state = .unassigned then
    let t := t.enterOffline m
    if r.enabled && (s.link m).state == .disabled then t.startProbing m else t
  else t

/-- A machine's assigned flag is cleared: UNASSIGNED, no session, no lockout code, link DISABLED (R3). -/
def State.unassignMachine (s : State) (m : MachineNo) (room : RoomNo) (cls : MachineClass) : State :=
  let t := (s.disableLink m).modMachine m fun x =>
    { x with room := room, cls := cls, assigned := false, session := none, lockout := none }
  t.enter m .unassigned

/-- MACHINE (R205): a room above 3 is refused before the machine's state is judged. DEDUCED (log entry 77). -/
def State.setMachine (s : State) (m : MachineNo) (room : Nat) (cls : MachineClass) (assigned : Bool) : State :=
  match index? 4 room with
  | none => s.refuse .badArgument
  | some r =>
    match (s.machine m).state with
    | .unassigned | .idle | .offline =>
      if s.notConfigured && assigned then s.refuse .notReady
      else (if assigned then s.assignMachine m r cls else s.unassignMachine m r cls).accept
    | _ => s.refuse .busy

/-- Whether a programme is in use: some machine holds a session of its class and index (R122). -/
def State.programmeInUse (s : State) (cls : MachineClass) (p : ProgrammeNo) : Bool :=
  (indexes 64).any fun m => (s.machine m).cls == cls && (s.session m).any fun x => x.programme == p

/-- A PROGRAMME item of a washer (R120, R122). DEDUCED (log entry 77). -/
def State.setWasher (s : State) (p : ProgrammeNo) (price duration heat : Nat) : State :=
  if 2000 < price ∨ duration < 10 ∨ 240 < duration ∨ 60 < heat then s.refuse .badArgument
  else if heat ≠ (look s.tariff.washers p).heat ∧ s.programmeInUse .washer p = true then s.refuse .busy
  else
    ({ s with tariff := { s.tariff with
        washers := update s.tariff.washers p fun _ => ⟨price, duration, heat⟩ } }).accept

/-- A PROGRAMME item of a dryer (R121, R122). DEDUCED (log entry 77). -/
def State.setDryer (s : State) (p : ProgrammeNo) (price length maximum heat : Nat) : State :=
  let old := look s.tariff.dryers p
  if 500 < price ∨ length < 5 ∨ 30 < length ∨ maximum < 1 ∨ 12 < maximum ∨ 60 < heat then s.refuse .badArgument
  else if (heat ≠ old.heat ∨ length ≠ old.length) ∧ s.programmeInUse .dryer p = true then s.refuse .busy
  else
    ({ s with tariff := { s.tariff with
        dryers := update s.tariff.dryers p fun _ => ⟨price, length, maximum, heat⟩ } }).accept

/-- PROGRAMME (R122). -/
def State.setProgramme (s : State) (i : ProgrammeItem) : State :=
  match i with
  | .washer p price duration heat =>
    match index? 8 p with
    | some k => s.setWasher k price duration heat
    | none => s.refuse .badArgument
  | .dryer p price length maximum heat =>
    match index? 8 p with
    | some k => s.setDryer k price length maximum heat
    | none => s.refuse .badArgument

/-- The tariff with a change of an item accepted. -/
def State.setTariff (s : State) (t : Tariff) : State := ({ s with tariff := t }).accept

/-- BAND (R123). -/
def State.setBand (s : State) (b : Fin 4) (start factor : Nat) : State :=
  if 1439 < start ∨ factor < 500 ∨ 2000 < factor then s.refuse .badArgument
  else s.setTariff { s.tariff with bands := update s.tariff.bands b fun _ => ⟨start, factor⟩ }

/-- TARIFF_GROUP (R126). -/
def State.setGroup (s : State) (g : Fin 8) (discount : Nat) : State :=
  if 1000 < discount then s.refuse .badArgument
  else s.setTariff { s.tariff with discounts := update s.tariff.discounts g fun _ => discount }

/-- SURCHARGE (R125). -/
def State.setSurcharge (s : State) (n : Nat) : State :=
  if 500 < n then s.refuse .badArgument else s.setTariff { s.tariff with surcharge := n }

/-- CAP: a lower value is judged against every hold the part still knows of (R127), and a value out of range before that.
DEDUCED (log entry 77). -/
def State.setCap (s : State) (n : Nat) : State :=
  if n < 100 ∨ 5000 < n then s.refuse .badArgument
  else if n < s.tariff.cap ∧ n < s.largestHold then s.refuse .limit
  else s.setTariff { s.tariff with cap := n }

/-- GRACE (R133). -/
def State.setGrace (s : State) (n : Nat) : State :=
  if 15 < n then s.refuse .badArgument else s.setTariff { s.tariff with grace := n }

/-- PAUSE (R133). -/
def State.setPause (s : State) (a k : Nat) : State :=
  if 60 < a ∨ 500 < k then s.refuse .badArgument else s.setTariff { s.tariff with allowance := a, credit := k }

/-- The session engine with a change of an item accepted. -/
def State.setEngine (s : State) (e : SessionEngine) : State := ({ s with engine := e }).accept

/-- ARM (R9). -/
def State.setArm (s : State) (n : Nat) : State :=
  if n < 10 ∨ 300 < n then s.refuse .badArgument else s.setEngine { s.engine with armSeconds := n }

/-- OVERRUN (R16). -/
def State.setOverrun (s : State) (n : Nat) : State :=
  if 60 < n then s.refuse .badArgument else s.setEngine { s.engine with overrunMinutes := n }

/-- NODE_GRACE (R20). -/
def State.setNodeGrace (s : State) (n : Nat) : State :=
  if n < 1 ∨ 30 < n then s.refuse .badArgument else s.setEngine { s.engine with graceMinutes := n }

/-- A number that may be ANY, judged: `none` when it is out of range. -/
def judgeAny (n : Nat) (x : Option Nat) : Option (Option (Fin n)) :=
  match x with
  | none => some none
  | some k => (index? n k).map some

/-- A window action judged: an account above 1023 is out of range (R49). -/
def judgeAction : WindowItemAction → Option WindowAction
  | .free => some .free
  | .house a => (index? 1024 a).map .house
  | .refuse => some .refuse

/-- A WINDOW item judged (R49). -/
def judgeWindow (w : WindowItem) : Option Window :=
  match judgeAny 16 w.flat, judgeAny 4 w.ordinal, judgeAction w.action with
  | some flat, some ordinal, some action =>
    if w.floorHigh < 64 ∧ w.floorLow ≤ w.floorHigh then
      some ⟨w.enabled, w.site, w.floorLow, w.floorHigh, flat, ordinal, w.filter, action⟩
    else none
  | _, _, _ => none

/-- WINDOW (R49). -/
def State.setWindow (s : State) (n : Fin 4) (w : WindowItem) : State :=
  match judgeWindow w with
  | none => s.refuse .badArgument
  | some x =>
    ({ s with directory := { s.directory with windows := update s.directory.windows n fun _ => x } }).accept

/-- CACHE (R83). -/
def State.setCache (s : State) (i : CacheItem) : State :=
  if CacheItem.inRange i then ({ s with cache := s.cache.configure i }).accept else s.refuse .badArgument

/-- GRANT: a new limit sheds and runs a pass, and the marks are judged (R140, R151, R155). -/
def State.setGrant (s : State) (mode : Arbitration) (limit high low : Nat) : State :=
  if 2000 < limit ∨ high < 1 ∨ 64 < high ∨ high ≤ low then s.refuse .badArgument
  else
    let t := { s with feeder := { s.feeder with mode := mode, limit := limit, high := high, low := low } }
    (if limit = s.feeder.limit then t.judgeBacklog else t.rebalance.1).accept

/-- LAMP: every assigned machine is recomputed (R44, R45). -/
def State.setLamps (s : State) (k : LampMap) : State := ({ s with lamps := k }).relampAll.accept

/-- NOTICE_MASK (R200). -/
def State.setMask (s : State) (k : NoticeMask) : State := ({ s with host := { s.host with mask := k } }).accept

/-- An item whose index names one of `n`, handed on; R204 refuses another index before. -/
def State.withIndex (s : State) (n k : Nat) (f : Fin n → State) : State :=
  match index? n k with
  | some i => f i
  | none => s.refuse .badArgument

/-- CONFIG_SET at the owner of its item (R205). -/
def State.configSet (s : State) (i : ConfigItem) : State :=
  match i with
  | .site n => s.setSite n
  | .room r cap edge => s.withIndex 4 r fun k => s.setRoom k cap edge
  | .machine m room cls assigned => s.withIndex 64 m fun k => s.setMachine k room cls assigned
  | .programme p => s.setProgramme p
  | .band b start factor => s.withIndex 4 b fun k => s.setBand k start factor
  | .tariffGroup g d => s.withIndex 8 g fun k => s.setGroup k d
  | .surcharge n => s.setSurcharge n
  | .cap n => s.setCap n
  | .grace n => s.setGrace n
  | .pause a k => s.setPause a k
  | .arm n => s.setArm n
  | .overrun n => s.setOverrun n
  | .nodeGrace n => s.setNodeGrace n
  | .window n w => s.withIndex 4 n fun k => s.setWindow k w
  | .cache c => s.setCache c
  | .grant mode limit high low => s.setGrant mode limit high low
  | .lamp k => s.setLamps k
  | .noticeMask k => s.setMask k

/-- Whether an item's index lies in its range; judged before anything else of the item (R204). -/
def ConfigItem.indexed : ConfigItem → Bool
  | .room r _ _ => decide (r < 4)
  | .machine m _ _ _ => decide (m < 64)
  | .programme (.washer p _ _ _) | .programme (.dryer p _ _ _ _) => decide (p < 8)
  | .band b _ _ => decide (b < 4)
  | .tariffGroup g _ => decide (g < 8)
  | .window n _ => decide (n < 4)
  | .site _ | .surcharge _ | .cap _ | .grace _ | .pause _ _ | .arm _ | .overrun _ | .nodeGrace _ | .cache _
  | .grant _ _ _ _ | .lamp _ | .noticeMask _ => true

/-! ## CONFIG_GET -/

/-- A window as its item gives it. -/
def Window.item (w : Window) : WindowItem where
  enabled := w.enabled
  site := w.site
  floorLow := w.floorLow
  floorHigh := w.floorHigh
  flat := w.flat.map Fin.val
  ordinal := w.ordinal.map Fin.val
  filter := w.filter
  action := match w.action with | .free => .free | .house a => .house a.1 | .refuse => .refuse

/-- The ROOM item in force. -/
def State.roomItem (s : State) (r : RoomNo) : ConfigItem := .room r.1 (look s.feeder.rooms r).capacity (s.guard r).edge

/-- The MACHINE item in force. -/
def State.machineItem (s : State) (m : MachineNo) : ConfigItem :=
  .machine m.1 (s.machine m).room.1 (s.machine m).cls (s.machine m).assigned

/-- The PROGRAMME item in force at an index byte. -/
def State.programmeItem (s : State) (index : Nat) : Option ConfigItem :=
  if index < 128 then
    (index? 8 index).map fun p =>
      let w := look s.tariff.washers p
      .programme (.washer p.1 w.price w.duration w.heat)
  else
    (index? 8 (index - 128)).map fun p =>
      let d := look s.tariff.dryers p
      .programme (.dryer p.1 d.price d.length d.maximum d.heat)

/-- The item in force of an item code and an index byte; none for a code or an index out of range (R204, R205). -/
def State.item? (s : State) (code index : Nat) : Option ConfigItem :=
  match code with
  | 2 => (index? 4 index).map s.roomItem
  | 3 => (index? 64 index).map s.machineItem
  | 4 => s.programmeItem index
  | 5 => (index? 4 index).map fun b => .band b.1 (look s.tariff.bands b).start (look s.tariff.bands b).factor
  | 6 => (index? 8 index).map fun g => .tariffGroup g.1 (look s.tariff.discounts g)
  | 14 => (index? 4 index).map fun n => .window n.1 (look s.directory.windows n).item
  | _ =>
    if index ≠ 0 then none
    else
      match code with
      | 1 => some (.site s.directory.site)
      | 7 => some (.surcharge s.tariff.surcharge)
      | 8 => some (.cap s.tariff.cap)
      | 9 => some (.grace s.tariff.grace)
      | 10 => some (.pause s.tariff.allowance s.tariff.credit)
      | 11 => some (.arm s.engine.armSeconds)
      | 12 => some (.overrun s.engine.overrunMinutes)
      | 13 => some (.nodeGrace s.engine.graceMinutes)
      | 15 => some (.cache ⟨s.cache.mask, s.cache.replacement, s.cache.sweepBurst, s.cache.lookupBurst⟩)
      | 16 => some (.grant s.feeder.mode s.feeder.limit s.feeder.high s.feeder.low)
      | 17 => some (.lamp s.lamps)
      | 18 => some (.noticeMask s.host.mask)
      | _ => none

/-- CONFIG_GET (R205). -/
def State.configGet (s : State) (code index : Nat) : State :=
  match s.item? code index with
  | some i => s.reply .ok (itemBytes i)
  | none => s.refuse .badArgument

/-! ## CONFIG_SAVE, CLOCK_SET, RESET, IDENTIFY -/

/-- CONFIG_SAVE: the copy is taken and the first segment's write issued (R206). -/
def State.configSave (s : State) : State :=
  if s.storeUp then s.saveSegment s.configBlock 0 else s.refuse .storeUnavailable

/-- CLOCK_SET (R207). -/
def State.clockSet (s : State) (minute day : Nat) : State :=
  if 1439 < minute then s.refuse .badArgument else ({ s with clock := ⟨minute, day, true⟩ }).accept

/-- IDENTIFY's results (R208, 10.6). -/
def State.identity (s : State) : List Byte :=
  u16 Config.productCode ++ [Config.revision] ++ u8 s.startUp.code ++ u8 s.store.state.code ++
    u8 (ofBits [s.clock.clockSet, s.supervisor.ruleLock]) ++ u16 s.host.linkErrors ++ u16 s.host.dropped ++
      u16 s.host.overruns

end Sys2Proof.Machine
end

