-- ==== Sys2Proof/Machine/HostRequests.lean ====
section
/-! DEFINITION. The host requests at their owners: machine control and query (R3, R24, R25, R27, R170, R171), the directory,
probe and account requests up to the payment request queue (R62, R70, R73, R114), flushes (R91), the budget (R152, R157), and
the fault supervisor's requests (R160, R161, R167, R168, R175); then the dispatch of the current request (R196). -/
namespace Sys2Proof.Machine

/-- A machine number judged: above 63 the request is refused BAD_ARGUMENT. DEDUCED (log entry 19). -/
def State.withMachine (s : State) (m : Nat) (f : MachineNo → State) : State :=
  match index? 64 m with
  | some k => f k
  | none => s.refuse .badArgument

/-! ## Machines -/

/-- The session part of MACHINE_QUERY's results (R27, 10.6). -/
def sessionBytes (x : Session) : List Byte :=
  u16 x.id ++ u8 x.mode.code ++ u8 x.programme.1 ++ u16 x.units ++ u16 x.elapsed ++ u16 x.paused ++ u16 x.delay ++
    u8 x.heat.code ++ u8 x.increment ++ yesNo x.finishSent ++ partListBytes x.parts

/-- MACHINE_QUERY's results (R27, 10.6). -/
def machineBytes (m : MachineNo) (r : MachineRecord) : List Byte :=
  u8 m.1 ++ u8 r.state.code ++ u8 r.cls.code ++ u8 r.room.1 ++ u8 (ofBits [r.assigned, r.enabled, r.session.isSome]) ++
    u8 (faultCode r.lockout) ++ u8 (EndCause.code r.lastEnd) ++ u8 (faultCode (EndCause.fault? r.lastEnd)) ++
    u8 r.outstanding.code ++ (match r.session with | some x => sessionBytes x | none => [])

/-- MACHINE_QUERY (R27). -/
def State.machineQuery (s : State) (m : MachineNo) : State := s.reply .ok (machineBytes m (s.machine m))

/-- A SERVICE session is made and armed (R24). -/
def State.startService (s : State) (m : MachineNo) (p : ProgrammeNo) (count : Nat) : State :=
  let t := s.takeId
  let id := t.engine.idCounter
  let units := match (s.machine m).cls with
    | .washer => (look s.tariff.washers p).duration
    | .dryer => count * s.lengthOf p
  let t := t.modMachine m fun r => { r with session := some (newSession id p .service 0 units []) }
  (t.arm m 0).reply .ok (u16 id)

/-- SERVICE_START (R24), its cases in the order of the text. DESIGN CHOICE (log entry 97). -/
def State.serviceStart (s : State) (m : MachineNo) (programme count : Nat) : State :=
  let r := s.machine m
  match r.state with
  | .idle =>
    if s.washerShut m then s.refuse .refusedState
    else
      match index? 8 programme with
      | none => s.refuse .badArgument
      | some p => if s.tariff.countFits r.cls p count then s.startService m p count else s.refuse .badArgument
  | .lockedOut => s.refuse .locked
  | _ => s.refuse .busy

/-- ABORT (R25). -/
def State.abort (s : State) (m : MachineNo) : State :=
  match (s.machine m).state with
  | .armed | .delayed | .running | .stranded => ((s.endSession m .aborted .done).accept).completeIfEmpty m
  | .lockedOut => s.refuse .locked
  | _ => s.refuse .refusedState

/-- LOCK (R170). -/
def State.lock (s : State) (m : MachineNo) : State :=
  match (s.machine m).state with
  | .idle | .done | .offline | .armed =>
    let t := s.recordReport m .operatorLock .lockout
    t.reply .ok (u32 t.supervisor.counter)
  | .authorising | .delayed | .running | .stranded | .settling | .recovering => s.refuse .busy
  | .lockedOut => s.refuse .locked
  | .unassigned => s.refuse .refusedState

/-- Whether machine `m`'s locking record stands unacknowledged (R171). -/
def State.lockUnacknowledged (s : State) (m : MachineNo) : Bool :=
  ((look s.supervisor.locking m).bind s.supervisor.record?).any fun r => !r.acknowledged

/-- LOCKOUT_CLEAR (R171). -/
def State.lockoutClear (s : State) (m : MachineNo) : State :=
  if (s.machine m).state ≠ .lockedOut ∨ (s.link m).state = .disabled then s.refuse .refusedState
  else if s.lockUnacknowledged m then s.refuse .notAcknowledged
  else
    let t := (s.modMachine m fun r => { r with lockout := none }).setLocking m none
    let t := t.send m (.lock false)
    let t := match (s.link m).state with
      | .online | .silent => t.enter m .idle
      | _ => t.enter m .offline
    (t.markLockout m).accept

/-- NODE_ENABLE (R3, R37). -/
def State.nodeEnable (s : State) (m : MachineNo) : State :=
  if (s.machine m).state = .unassigned then s.refuse .refusedState
  else
    let t := s.modMachine m fun r => { r with enabled := true }
    (if (s.link m).state = .disabled then t.startProbing m else t).accept

/-- NODE_DISABLE (R3). -/
def State.nodeDisable (s : State) (m : MachineNo) : State :=
  let off := (s.modMachine m fun r => { r with enabled := false }).disableLink m
  match (s.machine m).state with
  | .idle | .done | .offline => (off.enter m .offline).accept
  | .lockedOut => off.accept
  | .unassigned => s.refuse .refusedState
  | _ => s.refuse .busy

/-! ## Directory, probes and accounts -/

/-- A path judged: none when a field is out of range (R62, R70). -/
def judgePath (p : RawPath) : Option DirPath :=
  match p.level, index? 64 p.floor, index? 16 p.flat, index? 4 p.ordinal with
  | .floor, some f, _, _ => some (.floor f)
  | .flat, some f, some n, _ => some (.flat f n)
  | .card, some f, some n, some o => some (.card ⟨f, n, o⟩)
  | _, _, _, _ => none

/-- Whether the fields below a path's level are 0 (10.5). -/
def RawPath.zeroBelow (p : RawPath) : Bool :=
  match p.level with
  | .floor => p.flat == 0 && p.ordinal == 0
  | .flat => p.ordinal == 0
  | .card => true

/-- A target path judged: in range, and not the written path (R62). -/
def judgeTarget (d : RawDescriptor) (written : CardPath) : Option CardPath :=
  match index? 64 d.targetFloor, index? 16 d.targetFlat, index? 4 d.targetOrdinal with
  | some f, some n, some o => if (⟨f, n, o⟩ : CardPath) = written then none else some ⟨f, n, o⟩
  | _, _, _ => none

/-- A descriptor judged for a path's level (R62, R67). DEDUCED (log entry 22). -/
def judgeDescriptor (d : RawDescriptor) : DirPath → Option NewDescriptor
  | .floor _ | .flat _ _ =>
    match d.kind with
    | .table => some (.table true d.hold)
    | .invalid => some (.table false d.hold)
    | .account | .indirect => none
  | .card p =>
    match d.kind with
    | .invalid => some .invalid
    | .account =>
      if d.attributes.washersOnly && d.attributes.dryersOnly then none
      else (index? 1024 d.account).map fun a => .account a d.attributes d.hold
    | .indirect => (judgeTarget d p).map fun t => .indirect t d.hold
    | .table => none

/-- A directory request joins the payment request queue, unless the store is not UP or the part NOT_CONFIGURED (R62,
R70). DEDUCED (log entry 25). -/
def State.queueDirectory (s : State) (q : PayRequest) : State :=
  if !s.storeUp then s.refuse .storeUnavailable
  else if s.notConfigured then s.refuse .notReady
  else s.enqueue q

/-- DIRECTORY_WRITE (R62). -/
def State.directoryWrite (s : State) (p : RawPath) (d : RawDescriptor) : State :=
  match judgePath p with
  | none => s.refuse .badArgument
  | some x =>
    match judgeDescriptor d x with
    | none => s.refuse .badArgument
    | some n => s.queueDirectory (.directory x (some n))

/-- DIRECTORY_READ (R70). -/
def State.directoryRead (s : State) (p : RawPath) : State :=
  match judgePath p with
  | none => s.refuse .badArgument
  | some x => s.queueDirectory (.directory x none)

/-- CARD_PROBE (R73). -/
def State.cardProbe (s : State) (card : CardId) (cls : MachineClass) : State :=
  if s.notConfigured then s.refuse .notReady else s.enqueue (.probe card cls)

/-- An account request, its index and operation judged, joins the payment request queue (R114). -/
def State.queueAccount (s : State) (account : Nat) (op : Option AccountOp) : State :=
  match index? 1024 account, op with
  | some a, some o =>
    if s.notConfigured then s.refuse .notReady
    else if !s.storeUp then s.refuse .storeUnavailable
    else s.enqueue (.account a o)
  | _, _ => s.refuse .badArgument

/-- The arguments of ACCOUNT_OPEN judged (R115). -/
def judgeOpenArgs (overdraft group : Nat) : Option AccountOp :=
  if overdraft ≤ Config.overdraftMax then (index? 8 group).map fun g => .opened overdraft g else none

/-- The arguments of ACCOUNT_SET of changed fields judged: at least one, a state OPEN or SUSPENDED (R117). -/
def judgeSetArgs (st : Option AccountState) (overdraft group : Option Nat) : Option AccountOp :=
  if st = none ∧ overdraft = none ∧ group = none then none
  else if st = some .free ∨ overdraft.any (fun o => decide (Config.overdraftMax < o)) = true then none
  else (judgeAny 8 group).map fun g => .set st overdraft g

/-- The arguments of ACCOUNT_SET of every field judged (R117). -/
def judgeSetAllArgs (f : AccountFields) : Option AccountOp :=
  if Config.balanceMin ≤ f.balance ∧ f.balance ≤ Config.balanceMax ∧ f.overdraft ≤ Config.overdraftMax ∧
      f.vends ≤ 65535 ∧ f.lastDay ≤ 65535 then
    (index? 8 f.group).map fun g => .setAll f.state f.balance f.overdraft g f.vends f.lastDay
  else none

/-- The amount of ACCOUNT_CREDIT judged (R118). -/
def judgeCreditArgs (n : Nat) : Option AccountOp := if 1 ≤ n ∧ n ≤ 100000 then some (.credit n) else none

/-- The amount of ACCOUNT_ADJUST judged (R118). -/
def judgeAdjustArgs (z : Int) : Option AccountOp :=
  if -100000 ≤ z ∧ z ≤ 100000 ∧ z ≠ 0 then some (.adjust z) else none

/-! ## Cache and budget -/

/-- A flush that completes at once: the scope carried out and the entries invalidated (R90, R91). -/
def State.flushNow (s : State) (scope : Nat) (gone : CacheEntry → Bool) (c : Cache) : State :=
  ({ s with cache := c }).reply .ok (u8 scope ++ u8 (s.cache.count gone))

/-- A flush by sweep: the scope and the sweeps waiting, or the ALL flush a full queue made of it (R85, R91).
DEDUCED (log entry 60). -/
def State.flushSweep (s : State) (scope : Nat) (w : Sweep) : State :=
  let r := s.cache.requestSweep w
  if r.2 then s.flushNow 0 (fun _ => true) r.1
  else ({ s with cache := r.1 }).reply .ok (u8 scope ++ u8 r.1.sweepQueue.length)

/-- CACHE_FLUSH (R91). -/
def State.cacheFlush (s : State) (scope : FlushScope) : State :=
  match scope with
  | .all => s.flushNow 0 (fun _ => true) s.cache.flushAll
  | .residents => s.flushNow 1 (fun e => !e.attributes.staff) s.cache.flushResidents
  | .floor f =>
    match index? 64 f with
    | some k => s.flushSweep 2 (.floor k)
    | none => s.refuse .badArgument
  | .flat f n =>
    match index? 64 f, index? 16 n with
    | some k, some j => s.flushSweep 3 (.flat k j)
    | _, _ => s.refuse .badArgument

/-- The demand state as a DEMAND_SET of an accepted duration leaves it, with its DEMAND_END notice (R152, R154). -/
def State.changeDemand (s : State) (limit duration : Nat) : State :=
  if duration = 0 then
    match s.feeder.demand with
    | none => s
    | some _ =>
      let t := { s with feeder := { s.feeder with demand := none } }
      t.notify (.demandEnd .ended t.feeder.effectiveLimit)
  else { s with feeder := { s.feeder with demand := some ⟨limit, duration⟩ } }

/-- DEMAND_SET's results (R152, 10.6). -/
def demandBytes (f : Feeder) (duration withdrawn : Nat) : List Byte :=
  yesNo f.demand.isSome ++ u16 ((f.demand.map Demand.limit).getD 0) ++ u16 f.effectiveLimit ++ u8 duration ++ u8 withdrawn

/-- DEMAND_SET (R152). -/
def State.demandSet (s : State) (limit duration : Nat) : State :=
  if 2000 < limit then s.refuse .badArgument
  else
    let d := min duration Config.demandDurationLimit
    let r := (s.changeDemand limit d).rebalance
    r.1.reply .ok (demandBytes r.1.feeder d r.2)

/-- The demand timer expires (R153, R154). -/
def State.demandExpiry (s : State) : State :=
  match s.feeder.demand with
  | none => s
  | some _ =>
    let t := { s with feeder := { s.feeder with demand := none } }
    (t.notify (.demandEnd .expired t.feeder.effectiveLimit)).runPass.1.judgeBacklog

/-- The minutes remaining of a demand limit: a free value within 1 to the most that can remain (R153, R157).
DESIGN CHOICE (log entry 6). -/
def minutesLeft (index most : Nat) : Nat := Config.demandMinutes index % most + 1

/-- The minutes remaining that a BUDGET_QUERY taken now reports, 0 with no limit active. -/
def State.minutesLeft (s : State) : Nat :=
  match s.feeder.demand with
  | some d => Machine.minutesLeft s.freeIndex d.left
  | none => 0

/-- A grant entry: machine, load with class in bit 7, position in the building grant order, 1 first (10.6). -/
def State.grantBytes (s : State) (c : Claim) : List Byte :=
  u8 c.machine.1 ++ u8 (c.load + 128 * (s.machine c.machine).cls.code) ++ u8 (s.feeder.order.idxOf c.machine + 1)

/-- A queue entry (10.6). -/
def claimBytes (c : Claim) : List Byte := u8 c.machine.1 ++ u8 c.load

/-- A room block (10.6). -/
def State.roomBytes (s : State) (r : RoomNo) : List Byte :=
  let x := look s.feeder.rooms r
  u16 x.capacity ++ u16 (s.feeder.granted r) ++ u8 x.turn.code ++ u8 x.grants.length ++ u8 x.newQueue.length ++
    u8 x.resumeQueue.length

/-- BUDGET_QUERY's results (R157, 10.6). DEDUCED (log entry 24). -/
def State.budgetBytes (s : State) : List Byte :=
  let f := s.feeder
  let rooms := (indexes 4).map fun r => look f.rooms r
  u8 f.mode.code ++ u8 f.pointer.1 ++ yesNo f.backlog ++ u8 f.waiting ++ u16 f.limit ++ yesNo f.demand.isSome ++
    u16 ((f.demand.map Demand.limit).getD 0) ++ u8 s.minutesLeft ++ u16 f.effectiveLimit ++ u16 f.total ++
    (indexes 4).flatMap s.roomBytes ++ rooms.flatMap (fun x => x.grants.flatMap s.grantBytes) ++
    rooms.flatMap (fun x => x.newQueue.flatMap claimBytes) ++ rooms.flatMap fun x => x.resumeQueue.flatMap claimBytes

/-- The minutes reported of an active demand limit are kept as the most that can remain, for a later report is none above it (R153);
the free value is used up. DESIGN CHOICE (log entry 6). -/
def State.keepMinutes (s : State) : State :=
  match s.feeder.demand with
  | some d => { s with feeder := { s.feeder with demand := some { d with left := s.minutesLeft } } }.useFree
  | none => s

/-- BUDGET_QUERY (R157). -/
def State.budgetQuery (s : State) : State := s.keepMinutes.reply .ok s.budgetBytes

/-! ## The fault supervisor's requests -/

/-- Whether a sequence number is at or after a starting number (R167). -/
def atOrAfter (start q : Nat) : Bool := decide ((q + 4294967296 - start) % 4294967296 < 2147483648)

/-- A set of machines: 8 bytes, machine 63 in the most significant bit of the first (10.5). -/
def machineSetBytes (ms : List MachineNo) : List Byte :=
  let n := (ms.map fun m => 2 ^ m.1).sum
  u32 (n / 4294967296) ++ u32 (n % 4294967296)

/-- The records FAULT_READ returns (R167). -/
def Supervisor.recordsFrom (v : Supervisor) (start count : Nat) : List FaultRecord :=
  (v.log.filter fun r => atOrAfter start r.sequence).take count

/-- FAULT_READ (R167). -/
def State.faultRead (s : State) (start count : Nat) : State :=
  if count < 1 ∨ 8 < count then s.refuse .badArgument
  else
    let rs := s.supervisor.recordsFrom start count
    s.reply .ok (u8 rs.length ++ u32 s.supervisor.counter ++
      u8 (s.supervisor.log.filter fun r => !r.acknowledged).length ++
      (indexes 4).flatMap (fun r => machineSetBytes (s.pendingSet r)) ++ rs.flatMap recordBytes)

/-- A record as an acknowledgement of sequence number `q` leaves it (R168). -/
def acknowledge (q : Nat) (r : FaultRecord) : FaultRecord :=
  if r.sequence = q then { r with acknowledged := true } else r

/-- FAULT_ACK (R168). -/
def State.faultAck (s : State) (q : Nat) : State :=
  match s.supervisor.record? q with
  | none => s.refuse .notFound
  | some _ =>
    ({ s with supervisor := { s.supervisor with log := s.supervisor.log.map (acknowledge q) } }).accept

/-- The enables with the selected ones given their values (R160). -/
def newEnables (old : Vector Bool 8) (i : RulesItem) : Vector Bool 8 :=
  (indexes 8).foldl (fun v k => if look i.enableSelector k then update v k fun _ => look i.enableValues k else v) old

/-- The severities with the selected ones replaced (R160). -/
def newSeverities (old : Vector Severity 7) (i : RulesItem) : Vector Severity 7 :=
  (indexes 7).foldl (fun v k => match look i.severities k with | some x => update v k fun _ => x | none => v) old

/-- Whether a RULES_SET gives nothing, or a node severity of ROOM (R160). -/
def RulesItem.isBad (i : RulesItem) : Bool :=
  (severities7 i.severities).any (fun x => x == some .room) ||
    (!(flags8 i.enableSelector).any id && !(severities7 i.severities).any Option.isSome)

/-- RULES_SET: the values take effect at once, and an enabling of the LEAK rule re-judges every room, room 0 first (R160, R176).
A request that is bad is refused BAD_ARGUMENT under the rule lock too. DESIGN CHOICE (log entry 82). DESIGN CHOICE (log entry 89). -/
def State.rulesSet (s : State) (i : RulesItem) : State :=
  if RulesItem.isBad i then s.refuse .badArgument
  else if s.supervisor.ruleLock then s.refuse .locked
  else
    let en := newEnables s.supervisor.enables i
    let sev := newSeverities s.supervisor.severities i
    let t := { s with supervisor := { s.supervisor with enables := en, severities := sev } }
    let t := if t.leakRule && !s.leakRule then forEach (indexes 4) (fun r u => u.rejudgeRoom r) t else t
    t.reply .ok (u8 (ofBits (flags8 en)) ++ (severities7 sev).flatMap fun x : Severity => u8 x.code)

/-- RULES_LOCK (R161). -/
def State.rulesLock (s : State) : State := ({ s with supervisor := { s.supervisor with ruleLock := true } }).accept

/-- Whether room `r` may be reopened: closed, the filtered level clear, the closing record acknowledged (R175). -/
def State.mayReopen (s : State) (r : RoomNo) : Bool :=
  let g := s.guard r
  g.closed && !EdgeSelect.onset g.edge g.filtered &&
    (g.closing.bind s.supervisor.record?).all fun x => x.acknowledged

/-- VALVE_OPEN (R175); the reopening recomputes the lamp of every machine assigned to the room (R43). -/
def State.valveOpen (s : State) (room : Nat) : State :=
  match index? 4 room with
  | none => s.refuse .badArgument
  | some r =>
    if s.mayReopen r then
      ((s.modGuard r fun g => { g with valveOpen := true, closed := false, closing := none }).relampRoom r).accept
    else s.refuse .refusedState

/-! ## Dispatch -/

/-- Whether a request passes what step 2 of R196 judges of its operands: an item's code and index (R204), and the fields
below a path's level (10.5). -/
def Request.passes : Request → Bool
  | .configSet i => ConfigItem.indexed i
  | .configGet code index => ((State.reset).item? code index).isSome
  | .directoryWrite p _ | .directoryRead p => RawPath.zeroBelow p
  | _ => true

/-- Whether a request is served in STARTING and SCANNING (R196). -/
def Request.always : Request → Bool
  | .identify | .clockSet _ _ => true
  | _ => false

/-- A request at its owner (R196 step 4). -/
def State.own (s : State) : Request → State
  | .identify => s.reply .ok s.identity
  | .configSet i => s.configSet i
  | .configGet code index => s.configGet code index
  | .configSave => s.configSave
  | .clockSet m d => s.clockSet m d
  | .reset => s.accept
  | .machineQuery m => s.withMachine m s.machineQuery
  | .serviceStart m p n => s.withMachine m fun k => s.serviceStart k p n
  | .abort m => s.withMachine m s.abort
  | .lock m => s.withMachine m s.lock
  | .lockoutClear m => s.withMachine m s.lockoutClear
  | .nodeEnable m => s.withMachine m s.nodeEnable
  | .nodeDisable m => s.withMachine m s.nodeDisable
  | .directoryWrite p d => s.directoryWrite p d
  | .directoryRead p => s.directoryRead p
  | .cardProbe c cls => s.cardProbe c cls
  | .accountOpen a o g => s.queueAccount a (judgeOpenArgs o g)
  | .accountRead a => s.queueAccount a (some .read)
  | .accountSet a st o g => s.queueAccount a (judgeSetArgs st o g)
  | .accountSetAll a f => s.queueAccount a (judgeSetAllArgs f)
  | .accountCredit a n => s.queueAccount a (judgeCreditArgs n)
  | .accountAdjust a z => s.queueAccount a (judgeAdjustArgs z)
  | .accountClose a => s.queueAccount a (some .close)
  | .cacheFlush sc => s.cacheFlush sc
  | .demandSet l d => s.demandSet l d
  | .budgetQuery => s.budgetQuery
  | .faultRead q n => s.faultRead q n
  | .faultAck q => s.faultAck q
  | .rulesSet i => s.rulesSet i
  | .rulesLock => s.rulesLock
  | .valveOpen r => s.valveOpen r

/-- The current request, read, goes through steps 2 to 4 of R196. -/
def State.serve (s : State) (q : Request) : State :=
  if !Request.passes q then s.refuse .badArgument
  else if s.startingUp && !Request.always q then s.refuse .notReady
  else s.own q

/-- The current request is dispatched (R196). -/
def State.dispatch (s : State) : State :=
  match s.host.buffer with
  | [] => s
  | f :: _ =>
    match f.parse with
    | .unknown => s.refuse .unknownRequest
    | .bad => s.refuse .badArgument
    | .request q => s.serve q

/-- A good frame is offered to the receive buffer: it joins at the tail, and is dispatched when it becomes the current
request; a third is discarded and counted (R195). -/
def State.offerFrame (s : State) (f : Frame) (serve : State → State) : State :=
  match s.host.buffer with
  | [] => serve { s with host := { s.host with buffer := [f] } }
  | [g] => { s with host := { s.host with buffer := [g, f] } }
  | _ => { s with host := { s.host with dropped := countUp s.host.dropped } }

/-- A host request arrives as a good frame: the command of the request's row. DESIGN CHOICE (log entry 11). -/
def State.request (s : State) (tag : Byte) (q : Request) : State := s.offerFrame (requestFrame tag q) fun t => t.serve q

end Sys2Proof.Machine
end

