-- ==== Sys2Proof/Machine/LinkOps.lean ====
section
/-! DEFINITION. The host link's events: a byte at the receiver (R194), the gap timer, and the end of a frame the transmitter
was sending (R195, R198, R199). -/
namespace Sys2Proof.Machine

/-- The state with the receiver in a state. -/
def State.receive (s : State) (r : Receiver) : State := { s with host := { s.host with receiver := r } }

/-- The receiver discards what it has, counts a link error and returns to HUNT (R194). -/
def State.linkError (s : State) : State :=
  { s with host := { s.host with receiver := .hunt, linkErrors := countUp s.host.linkErrors } }

/-- Whether the bytes of a BODY, the two check bytes among them, match the check computed over the length and the rest
(R193, R194). -/
def checkMatches (length : Byte) (taken : List Byte) : Bool :=
  crc16Bytes (length :: taken.take length.toNat) == taken.drop length.toNat

/-- The frame the bytes of a BODY hold: type, tag and payload, without the check (R193). -/
def bodyFrame (length : Byte) (taken : List Byte) : Option Frame :=
  match taken.take length.toNat with
  | type :: tag :: payload => some ⟨type, tag, payload⟩
  | _ => none

/-- The last check byte has arrived: a good frame is offered to the receive buffer, another is discarded and counted
(R194, R195). -/
def State.frameEnds (s : State) (length : Byte) (taken : List Byte) : State :=
  if checkMatches length taken then
    match bodyFrame length taken with
    | some f => (s.receive .hunt).offerFrame f State.dispatch
    | none => s.linkError
  else s.linkError

/-- A byte arrives at the receiver (R194). -/
def State.hostByte (s : State) (b : Byte) : State :=
  match s.host.receiver with
  | .hunt => if b = Config.startByte then s.receive .length else s
  | .length => if 2 ≤ b.toNat ∧ b.toNat ≤ 250 then s.receive (.body b []) else s.linkError
  | .body length taken =>
    if taken.length + 1 < length.toNat + 2 then s.receive (.body length (taken ++ [b]))
    else s.frameEnds length (taken ++ [b])

/-- tGAP expires: it runs only in LENGTH and BODY (R194). -/
def State.gapExpiry (s : State) : State :=
  match s.host.receiver with
  | .hunt => s
  | .length | .body _ _ => s.linkError

/-- Whether a frame is a reply: its type carries the reply mark (R197). -/
def Frame.isReply (f : Frame) : Bool := f.type.msb

/-- Whether a frame is the reply of an accepted RESET: type 0x86, status OK (R198). -/
def Frame.isResetReply (f : Frame) : Bool := f.type == 0x86#8 && f.payload.head? == some 0#8

/-- The current request leaves the buffer, and the waiting one, if any, is dispatched (R195). -/
def State.nextRequest (s : State) : State :=
  let t := { s with host := { s.host with buffer := s.host.buffer.tail } }
  t.dispatch

/-- The transmitter has sent a frame's last byte: after a RESET's OK the soft reset begins, and after another reply the
current request leaves the buffer (R195, R198, R199). DESIGN CHOICE (log entry 14). -/
def State.frameSent (s : State) : State :=
  match s.host.sending with
  | none => s
  | some f =>
    if f.isResetReply then s.softReset
    else
      let t := { s with host := { s.host with sending := none } }
      if f.isReply then t.nextRequest else t

/-- The soft reset begins when the last byte of a RESET's OK reply has been sent (R198). -/
def State.beginSoftReset (s : State) : State := if s.host.sending.any Frame.isResetReply then s.softReset else s

end Sys2Proof.Machine
end

