-- ==== Sys2Proof/Machine/NodeOps.lean ====
section
/-! DEFINITION. The end of an exchange: what a good reply does, in the order of R29, and what a miss does (R38); the slow and
SILENT timers (R40, R41). -/
namespace Sys2Proof.Machine

/-! ## A good reply -/

/-- A link back from PROBING or LOST: ONLINE with miss count 0, the last taken report emptied; the lamp resynchronised, LOCK
on queued for a LOCKED_OUT machine, and the session engine told (R39). This is the return that stops the grace timer of a STRANDED
machine and the first good reply that stops the recovery window of a RECOVERING one, whether or not its summary is judged
(R21, R22). -/
def State.linkReturns (s : State) (m : MachineNo) : State :=
  let t := s.modLink m fun l => { l with state := .online, misses := 0, lastReport := none }
  let t := t.resyncLamp m
  match (t.machine m).state with
  | .lockedOut => t.send m (.lock true)
  | .offline => if (t.machine m).assigned && (t.machine m).enabled then t.enter m .idle else t
  | .stranded => t.modMachine m fun r => { r with graceTimer := none }
  | .recovering => t.modMachine m fun r => { r with recoveryWindow := false }
  | _ => t

/-- A good reply changes the link record before anything else of it is taken; the acknowledgement owed is cleared (R33,
R39). -/
def State.linkGood (s : State) (m : MachineNo) : State :=
  let t := s.modLink m fun l => { l with ackOwed := none }
  match (s.link m).state with
  | .probing | .lost => t.linkReturns m
  | .online => t.modLink m fun l => { l with misses := 0 }
  | .silent => t.modLink m fun l => { l with state := .online, misses := 0, silentTimer := false }
  | .disabled => t

/-- Whether a command turns the heater off: STOP, LOCK on, DISABLE, FINISH or HEAT_HOLD (R156). -/
def NodeCommand.turnsHeaterOff : NodeCommand → Bool
  | .stop _ | .lock true | .disable _ | .finish _ | .heatHold _ => true
  | .lock false | .enable _ _ _ _ | .go _ | .heatGrant _ | .refuse _ | .lamp _ => false

/-- Whether an echo confirms a command that turns the heater off: it equals the command now in the entry of the one the
frame carried (R36, R156). -/
def CommandTable.confirmsOff (t : CommandTable) (sent echo : Option NodeCommand) : Bool :=
  match sent, echo with
  | some c, some e => decide (t.entryOf c = some e) && NodeCommand.turnsHeaterOff e
  | _, _ => false

/-- The machine's heater fault flag set or cleared. -/
def State.setHeaterFault (s : State) (m : MachineNo) (b : Bool) : State :=
  { s with feeder := { s.feeder with heaterFault := update s.feeder.heaterFault m fun _ => b } }

/-- HEAT_WITHOUT_GRANT supervision of a good reply's heater field; `confirmed` says that the echo of this reply confirmed a
command that turns the heater off (R156). -/
def State.superviseHeater (s : State) (m : MachineNo) (heater confirmed : Bool) : State :=
  if !heater then s.setHeaterFault m false
  else if s.feeder.holdsGrant m || (s.link m).table.turnsHeaterOff || confirmed || look s.feeder.heaterFault m then s
  else (s.setHeaterFault m true).reportFault m .heatWithoutGrant

/-! ## Reports -/

/-- The kind of a report (R32). -/
def reportKind : Report → ReportKind
  | .card _ _ _ => .card
  | .startPressed => .startPressed
  | .phase _ => .phase
  | .door _ => .door
  | .fault _ => .fault
  | .nodeReset _ => .nodeReset

/-- A report taken as new is handed on (R31). NODE_RESET is the controller's own. -/
def State.handReport (s : State) (m : MachineNo) : Report → State
  | .card c p n => s.takeCard m c p n
  | .startPressed => s.takeStartPressed m
  | .phase p => s.takePhase m p
  | .door o => s.takeDoor m o
  | .fault f => s.reportFault m (.node f)
  | .nodeReset _ => s

/-- Whether a report is a NODE_RESET. -/
def Report.isReset : Report → Bool
  | .nodeReset _ => true
  | _ => false

/-- What a NODE_RESET does whether it is new or a repeat: the lamp is resynchronised, LOCK on queued at a LOCKED_OUT machine,
and any REFUSE cleared (R33). -/
def State.nodeRestarted (s : State) (m : MachineNo) : State :=
  let t := s.resyncLamp m
  let t := if (t.machine m).state = .lockedOut then t.send m (.lock true) else t
  t.modLink m fun l => { l with table := { l.table with refuse := none } }

/-- A good reply's report: a repeat is acknowledged again, a new CARD is withheld while a payment request is outstanding,
and any other is taken (R32). -/
def State.takeReport (s : State) (m : MachineNo) (r : Report) (toggle : Bool) : State :=
  let k := reportKind r
  let s := if Report.isReset r then s.nodeRestarted m else s
  if (s.link m).lastReport = some (k, toggle) then s.modLink m fun l => { l with ackOwed := some toggle }
  else if k = .card ∧ (s.machine m).outstanding ≠ .none then s
  else (s.handReport m r).modLink m fun l => { l with lastReport := some (k, toggle), ackOwed := some toggle }

/-! ## The end of an exchange -/

/-- The summary of a good reply at the session engine, which judges none while a command of R19 stands unconfirmed. -/
def State.summaryOf (s : State) (m : MachineNo) (n : Summary) (first : Bool) : State :=
  if (s.link m).table.holdsJudgement then s else s.judgeSummary m n first

/-- A good reply is taken in the order of R29: link, echo, summary, report; the heater field is judged after the
summary (R30). -/
def State.goodReply (s : State) (x : Exchange) (r : NodeReply) : State :=
  let m := x.node
  let first := decide ((s.link m).state = .probing)
  let s := s.linkGood m
  let confirmed := (s.link m).table.confirmsOff x.command r.echo
  let s := s.modLink m fun l => { l with table := l.table.echo x.command r.echo }
  let s := s.summaryOf m r.summary first
  let s := s.superviseHeater m r.summary.heater confirmed
  match r.report with
  | some (p, toggle) => s.takeReport m p toggle
  | none => s

/-- A miss for the node addressed (R38). -/
def State.missed (s : State) (x : Exchange) : State := s.modLink x.node Link.miss

/-- Whether a reply in time is good: its check is correct and its address that of the node addressed (R29). -/
def NodeReply.isGood (r : NodeReply) (x : Exchange) : Bool := crc8 r.body == r.check && r.address == x.node

/-- A reply reaches the controller (R29). With no exchange, or after tREPLY, it is discarded; one whose link became DISABLED
ends its exchange without effect (R37). -/
def State.nodeReply (s : State) (r : NodeReply) : State :=
  match s.line.exchange with
  | none => s
  | some x =>
    if r.late then s
    else if x.discard then s.endExchange x
    else if NodeReply.isGood r x then (s.goodReply x r).endExchange x
    else (s.missed x).endExchange x

/-- tREPLY runs out: the exchange ends as a miss (R38). One whose link became DISABLED ends without effect, whatever the link is by
then. DEDUCED (log entry 80). -/
def State.replyTimeout (s : State) : State :=
  match s.line.exchange with
  | none => s
  | some x => if x.discard then s.endExchange x else (s.missed x).endExchange x

/-! ## The link timers -/

/-- A slow timer that runs expires (R41). DESIGN CHOICE (log entry 62). -/
def Link.slowExpires (l : Link) : Link := if l.slow = .running then { l with slow := .expired } else l

/-- tLOST expires: a SILENT link enters LOST, and the session engine is told (R40). -/
def State.lostExpiry (s : State) (m : MachineNo) : State :=
  if (s.link m).state = .silent ∧ (s.link m).silentTimer = true then
    (s.modLink m fun l => { l with state := .lost, silentTimer := false }).linkLost m
  else s

end Sys2Proof.Machine
end

