-- ==== Sys2Proof/Machine/BlockEvents.lean ====
section
/-! DEFINITION. The events of the other blocks: the leak inputs (R172), the cache array's accesses (R78, R86), payment results
at the session engine, the store port's own transactions (R61, R181, R184, R206), the scan, the timebase (R207) and
power (R177, R209). -/
namespace Sys2Proof.Machine

/-! ## Leak inputs -/

/-- The level at a room's leak input pin changes. -/
def State.setInput (s : State) (r : RoomNo) (high : Bool) : State := s.modGuard r fun g => { g with input := high }

/-- A leak input's level changes: tDEBOUNCE starts when it comes to differ from the filtered level and stops when it returns
to it (R172). Until the sampling that ends the scan the input is not filtered (R176). -/
def State.leakInput (s : State) (r : RoomNo) (high : Bool) : State :=
  let g := s.guard r
  if g.input = high then s
  else if s.startingUp then s.setInput r high
  else (s.setInput r high).modGuard r fun x => { x with debounce := decide (high ≠ x.filtered) }

/-- tDEBOUNCE expires: the filtered level takes the input's, and the transition is taken unless the edge select is OFF or
the LEAK rule disabled (R172). -/
def State.debounceExpiry (s : State) (r : RoomNo) : State :=
  let g := s.guard r
  if g.debounce then
    let t := s.modGuard r fun x => { x with filtered := x.input, debounce := false }
    if g.edge = .off ∨ t.leakRule = false then t
    else if EdgeSelect.onset g.edge g.input then t.takeOnset r
    else t.takeClear r
  else s

/-! ## The cache array -/

/-- The card path a context's lookup is for. -/
def lookupPath : PayRequest → Option CardPath
  | .probe card _ => some card.path
  | q => (PayRequest.vend? q).map fun v => v.card.path

/-- The oldest waiting lookup is carried out (R78). -/
def State.carryLookup (s : State) : State :=
  match s.cache.lookups with
  | [] => s
  | c :: rest =>
    match (s.context c).request.bind lookupPath with
    | none => s
    | some p =>
      let r := s.cache.lookup p
      let t := { s with cache := { r.2 with lookups := rest, access := none } }
      (t.lookupDone c r.1).run

/-- The array has carried out the lookup the arbiter chose (R78, R87). -/
def State.cacheLookup (s : State) : State := if s.cache.access = some .lookup then s.carryLookup else s

/-- The array has taken the sweep step the arbiter chose (R86, R87). -/
def State.sweepStep (s : State) : State :=
  if s.cache.access = some .sweep then { s with cache := { s.cache.sweepStep with access := none } } else s

/-! ## Payment results -/

/-- The session engine's request of machine `m` whose completion context `c` holds in REPLY, and what it hands over. -/
def State.handedTo (s : State) (c : ContextNo) : Option (PayRequest × Handed) :=
  match (s.context c).request, (s.context c).stage with
  | some q, .reply h none => some (q, h)
  | _, _ => none

/-- The lowest-numbered context in REPLY that a choice `p` of its request and what it hands over accepts. -/
def State.findHanded {α : Type} (s : State) (p : PayRequest → Handed → Option α) : Option (ContextNo × α) :=
  (indexes 8).findSome? fun c => (s.handedTo c).bind fun x => (p x.1 x.2).map fun a => (c, a)

/-- A vend's result: the part and whether its slot write was made, or the refused card with its reason. -/
inductive VendResult where
  | part (p : Part) (inSlot : Bool)
  | refused (card : CardId) (reason : Reason)
  deriving DecidableEq, Repr

/-- A vend's result as a context hands it over. -/
def vendResult (card : CardId) : Handed → Option VendResult
  | .success p w => some (.part p w)
  | .refused r => some (.refused card r)
  | .settled _ _ | .released => none

/-- The result of machine `m`'s AUTHORISE request. -/
def authoriseHanded (m : MachineNo) : PayRequest → Handed → Option VendResult
  | .authorise k _ card _ _ _, h => if k = m then vendResult card h else none
  | _, _ => none

/-- The result of machine `m`'s EXTEND request. -/
def extendHanded (m : MachineNo) : PayRequest → Handed → Option VendResult
  | .extend k card _ _ _, h => if k = m then vendResult card h else none
  | _, _ => none

/-- The completion of machine `m`'s SETTLE request. -/
def settleHanded (m : MachineNo) : PayRequest → Handed → Option (List Part × Option (Option FaultCode))
  | .settle k _ _ _ _, .settled parts code => if k = m then some (parts, code) else none
  | _, _ => none

/-- The completion of machine `m`'s PART_RELEASE request. -/
def releaseHanded (m : MachineNo) : PayRequest → Handed → Option Unit
  | .partRelease k _ _ _ _, .released => if k = m then some () else none
  | _, _ => none

/-- The session engine takes the result of machine `m`'s AUTHORISE request, and its context becomes FREE (R9, R97). -/
def State.takeAuthorise (s : State) (m : MachineNo) : State :=
  match s.findHanded (authoriseHanded m) with
  | some (c, .part p _) => (s.freeContext c).authorised m p
  | some (c, .refused card r) => (s.freeContext c).authoriseRefused m card r
  | none => s

/-- The session engine takes the result of machine `m`'s EXTEND request (R18). -/
def State.takeExtend (s : State) (m : MachineNo) : State :=
  match s.findHanded (extendHanded m) with
  | some (c, .part p w) => (s.freeContext c).extended m p w
  | some (c, .refused card r) => (s.freeContext c).extendRefused m card r
  | none => s

/-- Machine `m`'s settlement completes at the session engine (R7). -/
def State.takeSettled (s : State) (m : MachineNo) : State :=
  match s.findHanded (settleHanded m) with
  | some (c, parts, code) => (s.freeContext c).completeSettlement m parts code
  | none => s

/-- Machine `m`'s PART_RELEASE completes at the session engine (R18). -/
def State.takeReleased (s : State) (m : MachineNo) : State :=
  match s.findHanded (releaseHanded m) with
  | some (c, _) => (s.freeContext c).partReleased m
  | none => s

/-! ## The store port's own transactions -/

/-- The head of the queue completes when its issuer is one the event is of: the transaction is carried out, and `f` takes its
result. DESIGN CHOICE (log entry 2). -/
def State.ownEvent (s : State) (due : Issuer → Bool) (f : Issuer → Result → State → State) : State :=
  match s.store.queue with
  | ⟨i, a⟩ :: rest =>
    if s.storeUp && due i then
      let p := s.carry ⟨i, a⟩ rest
      f i p.1 p.2
    else s
  | [] => s

/-- A day update completes; a damaged one is dropped (R61, R180). -/
def State.dayDone (s : State) : State := s.ownEvent (· == .dayList) fun _ _ t => t

/-- A slot refresh or a lockout slot update completes; a lockout update that completes DAMAGED is reported (R181). -/
def State.refreshDone (s : State) : State :=
  s.ownEvent Issuer.isRefresher fun i r t =>
    match i, r with
    | .refresher m true, .damaged => t.reportPart .storeDamaged (.machine m)
    | _, _ => t

/-- A configuration segment's write completes (R206). -/
def State.segmentWritten (s : State) : State := s.ownEvent (· == .configWriter) fun _ _ t => t.segmentDone

/-- A transaction of the scan completes (R187 to R190). -/
def State.scanTransaction (s : State) : State := s.ownEvent (· == .scanner) fun _ r t => t.scanDone r

/-- tPROBE expires while the store is DOWN: a status read is issued (R184). -/
def State.probeExpiry (s : State) : State :=
  if s.store.state = .down ∧ s.store.probeTimer = true then
    ({ s with store := { s.store with probeTimer := false } }).issue .probe .status
  else s

/-- The probe's status read completes: the store returns, or tPROBE starts again (R184). -/
def State.probeDone (s : State) (valid : Bool) : State :=
  match s.store.queue with
  | ⟨.probe, _⟩ :: rest =>
    if s.store.state = .down then
      let t := s.withQueue rest
      if valid then t.storeReturns else { t with store := { t.store with probeTimer := true } }
    else s
  | _ => s

/-- The head transaction's status read gives no valid status: the scan ends NO_STORE, or the store goes DOWN (R182, R187).
Without a transaction no status is read. -/
def State.storeFails (s : State) : State :=
  match s.store.queue with
  | [] => s
  | t :: _ =>
    if s.storeUp then
      if t.issuer = .scanner then s.scanNoStore else s.storeDown
    else s

/-! ## Timebase and power -/

/-- The timebase advances one minute (R207). -/
def Timebase.advance (t : Timebase) : Timebase :=
  if t.minute < 1439 then { t with minute := t.minute + 1 } else { t with minute := 0, day := (t.day + 1) % 65536 }

/-- The state with the timebase a minute on. -/
def State.minutePasses (s : State) : State := { s with clock := s.clock.advance }

/-- Power is removed: the store keeps what the write being carried out leaves of it, and nothing on chip is kept (R177). -/
def State.losePower (s : State) (cut : PowerCut) : State := { s.restart (s.cutFram cut) with powered := false }

/-- Power is applied (R209). -/
def State.powerUp (s : State) : State := s.restart s.fram

end Sys2Proof.Machine
end

