-- ==== Sys2Proof/Machine/AccountRequests.lean ====
section
/-! DEFINITION. The meanings of the account requests. -/
namespace Sys2Proof.Machine

/-- ACCOUNT_OPEN (R115). -/
def execAccountOpen (tag : Byte) (account overdraft group : Nat) (s : State) : Host.Outcome State Fault Refusal :=
  act (fun t => t.request tag (.accountOpen account overdraft group)) s

/-- ACCOUNT_READ (R116). -/
def execAccountRead (tag : Byte) (account : Nat) (s : State) : Host.Outcome State Fault Refusal :=
  act (fun t => t.request tag (.accountRead account)) s

/-- ACCOUNT_SET of changed fields (R117). -/
def execAccountSet (tag : Byte) (account : Nat) (state : Option AccountState) (overdraft group : Option Nat)
    (s : State) : Host.Outcome State Fault Refusal :=
  act (fun t => t.request tag (.accountSet account state overdraft group)) s

/-- ACCOUNT_SET giving every field (R117). -/
def execAccountSetEveryField (tag : Byte) (account : Nat) (fields : AccountFields)
    (s : State) : Host.Outcome State Fault Refusal :=
  act (fun t => t.request tag (.accountSetAll account fields)) s

/-- ACCOUNT_CREDIT (R118). -/
def execAccountCredit (tag : Byte) (account amount : Nat) (s : State) : Host.Outcome State Fault Refusal :=
  act (fun t => t.request tag (.accountCredit account amount)) s

/-- ACCOUNT_ADJUST (R118). -/
def execAccountAdjust (tag : Byte) (account : Nat) (amount : Int) (s : State) : Host.Outcome State Fault Refusal :=
  act (fun t => t.request tag (.accountAdjust account amount)) s

/-- ACCOUNT_CLOSE (R115). -/
def execAccountClose (tag : Byte) (account : Nat) (s : State) : Host.Outcome State Fault Refusal :=
  act (fun t => t.request tag (.accountClose account)) s

end Sys2Proof.Machine
end

