-- ==== Sys2Proof/Machine/Budget.lean ====
section
/-! DEFINITION. The meanings of the feeder budget unit's requests and its demand timer. -/
namespace Sys2Proof.Machine

/-- DEMAND_SET (R152). -/
def execDemandSet (tag : Byte) (limit duration : Nat) (s : State) : Host.Outcome State Fault Refusal :=
  act (fun t => t.request tag (.demandSet limit duration)) s

/-- BUDGET_QUERY (R157). -/
def execBudgetQuery (tag : Byte) (s : State) : Host.Outcome State Fault Refusal :=
  act (fun t => t.request tag .budgetQuery) s

/-- The demand timer expires (R153). -/
def execDemandTimerExpiry (s : State) : Host.Outcome State Fault Refusal :=
  act (fun t => t.demandExpiry) s

end Sys2Proof.Machine
end

