-- ==== Sys2Proof/Machine/CacheCommands.lean ====
section
/-! DEFINITION. The meanings of the flush requests and the accesses of the cache array. -/
namespace Sys2Proof.Machine

/-- CACHE_FLUSH of scope ALL (R90). -/
def execCacheFlushAll (tag : Byte) (s : State) : Host.Outcome State Fault Refusal :=
  act (fun t => t.request tag (.cacheFlush .all)) s

/-- CACHE_FLUSH of scope RESIDENTS (R90). -/
def execCacheFlushResidents (tag : Byte) (s : State) : Host.Outcome State Fault Refusal :=
  act (fun t => t.request tag (.cacheFlush .residents)) s

/-- CACHE_FLUSH of scope FLOOR (R91). -/
def execCacheFlushFloor (tag : Byte) (floor : Nat) (s : State) : Host.Outcome State Fault Refusal :=
  act (fun t => t.request tag (.cacheFlush (.floor floor))) s

/-- CACHE_FLUSH of scope FLAT (R91). -/
def execCacheFlushFlat (tag : Byte) (floor flat : Nat) (s : State) : Host.Outcome State Fault Refusal :=
  act (fun t => t.request tag (.cacheFlush (.flat floor flat))) s

/-- The cache array carries out the lookup its arbiter chose (R78). -/
def execCacheLookup (s : State) : Host.Outcome State Fault Refusal :=
  act (fun t => t.cacheLookup) s

/-- The cache array takes the sweep step its arbiter chose (R86). -/
def execSweepStep (s : State) : Host.Outcome State Fault Refusal :=
  act (fun t => t.sweepStep) s

end Sys2Proof.Machine
end

