-- ==== Sys2Proof/Machine/Configuration.lean ====
section
/-! DEFINITION. The meanings of the requests of the start-up and configuration logic and of the timebase. -/
namespace Sys2Proof.Machine

/-- IDENTIFY (R208). -/
def execIdentify (tag : Byte) (s : State) : Host.Outcome State Fault Refusal :=
  act (fun t => t.request tag .identify) s

/-- CONFIG_SET of SITE (R53). -/
def execConfigSetSite (tag : Byte) (code : Nat) (s : State) : Host.Outcome State Fault Refusal :=
  act (fun t => t.request tag (.configSet (.site code))) s

/-- CONFIG_SET of ROOM (R151). -/
def execConfigSetRoom (tag : Byte) (room capacity : Nat) (edge : EdgeSelect)
    (s : State) : Host.Outcome State Fault Refusal :=
  act (fun t => t.request tag (.configSet (.room room capacity edge))) s

/-- CONFIG_SET of MACHINE (R205). -/
def execConfigSetMachine (tag : Byte) (machine room : Nat) (cls : MachineClass) (assigned : Bool)
    (s : State) : Host.Outcome State Fault Refusal :=
  act (fun t => t.request tag (.configSet (.machine machine room cls assigned))) s

/-- CONFIG_SET of PROGRAMME (R122). -/
def execConfigSetProgramme (tag : Byte) (p : ProgrammeItem) (s : State) : Host.Outcome State Fault Refusal :=
  act (fun t => t.request tag (.configSet (.programme p))) s

/-- CONFIG_SET of BAND (R123). -/
def execConfigSetBand (tag : Byte) (band start factor : Nat) (s : State) : Host.Outcome State Fault Refusal :=
  act (fun t => t.request tag (.configSet (.band band start factor))) s

/-- CONFIG_SET of TARIFF_GROUP (R126). -/
def execConfigSetTariffGroup (tag : Byte) (group discount : Nat) (s : State) : Host.Outcome State Fault Refusal :=
  act (fun t => t.request tag (.configSet (.tariffGroup group discount))) s

/-- CONFIG_SET of SURCHARGE (R125). -/
def execConfigSetSurcharge (tag : Byte) (permille : Nat) (s : State) : Host.Outcome State Fault Refusal :=
  act (fun t => t.request tag (.configSet (.surcharge permille))) s

/-- CONFIG_SET of CAP (R127). -/
def execConfigSetCap (tag : Byte) (cents : Nat) (s : State) : Host.Outcome State Fault Refusal :=
  act (fun t => t.request tag (.configSet (.cap cents))) s

/-- CONFIG_SET of GRACE (R133). -/
def execConfigSetGrace (tag : Byte) (minutes : Nat) (s : State) : Host.Outcome State Fault Refusal :=
  act (fun t => t.request tag (.configSet (.grace minutes))) s

/-- CONFIG_SET of PAUSE (R133). -/
def execConfigSetPause (tag : Byte) (allowance credit : Nat) (s : State) : Host.Outcome State Fault Refusal :=
  act (fun t => t.request tag (.configSet (.pause allowance credit))) s

/-- CONFIG_SET of ARM (R9). -/
def execConfigSetArm (tag : Byte) (seconds : Nat) (s : State) : Host.Outcome State Fault Refusal :=
  act (fun t => t.request tag (.configSet (.arm seconds))) s

/-- CONFIG_SET of OVERRUN (R16). -/
def execConfigSetOverrun (tag : Byte) (minutes : Nat) (s : State) : Host.Outcome State Fault Refusal :=
  act (fun t => t.request tag (.configSet (.overrun minutes))) s

/-- CONFIG_SET of NODE_GRACE (R20). -/
def execConfigSetNodeGrace (tag : Byte) (minutes : Nat) (s : State) : Host.Outcome State Fault Refusal :=
  act (fun t => t.request tag (.configSet (.nodeGrace minutes))) s

/-- CONFIG_SET of WINDOW (R49). -/
def execConfigSetWindow (tag : Byte) (index : Nat) (w : WindowItem) (s : State) : Host.Outcome State Fault Refusal :=
  act (fun t => t.request tag (.configSet (.window index w))) s

/-- CONFIG_SET of CACHE (R83). -/
def execConfigSetCache (tag : Byte) (c : CacheItem) (s : State) : Host.Outcome State Fault Refusal :=
  act (fun t => t.request tag (.configSet (.cache c))) s

/-- CONFIG_SET of GRANT (R140). -/
def execConfigSetGrant (tag : Byte) (mode : Arbitration) (limit high low : Nat)
    (s : State) : Host.Outcome State Fault Refusal :=
  act (fun t => t.request tag (.configSet (.grant mode limit high low))) s

/-- CONFIG_SET of LAMP (R44). -/
def execConfigSetLamp (tag : Byte) (m : LampMap) (s : State) : Host.Outcome State Fault Refusal :=
  act (fun t => t.request tag (.configSet (.lamp m))) s

/-- CONFIG_SET of NOTICE_MASK (R200). -/
def execConfigSetNoticeMask (tag : Byte) (m : NoticeMask) (s : State) : Host.Outcome State Fault Refusal :=
  act (fun t => t.request tag (.configSet (.noticeMask m))) s

/-- CONFIG_GET (R205). -/
def execConfigGet (tag : Byte) (item index : Nat) (s : State) : Host.Outcome State Fault Refusal :=
  act (fun t => t.request tag (.configGet item index)) s

/-- CONFIG_SAVE (R206). -/
def execConfigSave (tag : Byte) (s : State) : Host.Outcome State Fault Refusal :=
  act (fun t => t.request tag .configSave) s

/-- A segment's write of CONFIG_SAVE completes (its failing back is part of STORE_FAILURE) (R206). -/
def execConfigSegmentWriteDone (s : State) : Host.Outcome State Fault Refusal :=
  act (fun t => t.segmentWritten) s

/-- CLOCK_SET (R207). -/
def execClockSet (tag : Byte) (minute day : Nat) (s : State) : Host.Outcome State Fault Refusal :=
  act (fun t => t.request tag (.clockSet minute day)) s

/-- RESET (R198). -/
def execReset (tag : Byte) (s : State) : Host.Outcome State Fault Refusal :=
  act (fun t => t.request tag .reset) s

end Sys2Proof.Machine
end

