-- ==== Sys2Proof/Machine/DirectoryRequests.lean ====
section
/-! DEFINITION. The meanings of the directory and probe requests. -/
namespace Sys2Proof.Machine

/-- DIRECTORY_WRITE (R62). -/
def execDirectoryWrite (tag : Byte) (path : RawPath) (descriptor : RawDescriptor)
    (s : State) : Host.Outcome State Fault Refusal :=
  act (fun t => t.request tag (.directoryWrite path descriptor)) s

/-- DIRECTORY_READ (R70). -/
def execDirectoryRead (tag : Byte) (path : RawPath) (s : State) : Host.Outcome State Fault Refusal :=
  act (fun t => t.request tag (.directoryRead path)) s

/-- CARD_PROBE (R73). -/
def execCardProbe (tag : Byte) (card : CardId) (cls : MachineClass) (s : State) : Host.Outcome State Fault Refusal :=
  act (fun t => t.request tag (.cardProbe card cls)) s

end Sys2Proof.Machine
end

