-- ==== Sys2Proof/Machine/Faults.lean ====
section
/-! DEFINITION. The meanings of the fault supervisor's requests and the leak inputs. -/
namespace Sys2Proof.Machine

/-- FAULT_READ (R167). -/
def execFaultRead (tag : Byte) (start count : Nat) (s : State) : Host.Outcome State Fault Refusal :=
  act (fun t => t.request tag (.faultRead start count)) s

/-- FAULT_ACK (R168). -/
def execFaultAck (tag : Byte) (sequence : Nat) (s : State) : Host.Outcome State Fault Refusal :=
  act (fun t => t.request tag (.faultAck sequence)) s

/-- RULES_SET (R160). -/
def execRulesSet (tag : Byte) (item : RulesItem) (s : State) : Host.Outcome State Fault Refusal :=
  act (fun t => t.request tag (.rulesSet item)) s

/-- RULES_LOCK (R161). -/
def execRulesLock (tag : Byte) (s : State) : Host.Outcome State Fault Refusal :=
  act (fun t => t.request tag .rulesLock) s

/-- VALVE_OPEN (R175). -/
def execValveOpen (tag : Byte) (room : Nat) (s : State) : Host.Outcome State Fault Refusal :=
  act (fun t => t.request tag (.valveOpen room)) s

/-- The level at a room's leak input pin changes (R172). -/
def execLeakInputChange (room : RoomNo) (high : Bool) (s : State) : Host.Outcome State Fault Refusal :=
  if s.powered then act (fun t => t.leakInput room high) s else .next (s.setInput room high)

/-- tDEBOUNCE expires (R172). -/
def execDebounceExpiry (room : RoomNo) (s : State) : Host.Outcome State Fault Refusal :=
  act (fun t => t.debounceExpiry room) s

end Sys2Proof.Machine
end

