-- ==== Sys2Proof/Machine/HostLine.lean ====
section
/-! DEFINITION. The meanings of the events of the host line. -/
namespace Sys2Proof.Machine

/-- A byte arrives on the host link (R194). -/
def execHostByteReceived (b : Byte) (s : State) : Host.Outcome State Fault Refusal :=
  act (fun t => t.hostByte b) s

/-- tGAP expires in LENGTH or BODY (R194). -/
def execGapTimerExpiry (s : State) : Host.Outcome State Fault Refusal :=
  act (fun t => t.gapExpiry) s

/-- The transmitter has sent the last byte of a frame (R199). -/
def execHostFrameSent (s : State) : Host.Outcome State Fault Refusal :=
  act (fun t => t.frameSent) s

end Sys2Proof.Machine
end

