-- ==== Sys2Proof/Machine/Line.lean ====
section
/-! DEFINITION. The meanings of the machine line. -/
namespace Sys2Proof.Machine

/-- A reply reaches the machine line controller (R29). -/
def execNodeReply (r : NodeReply) (s : State) : Host.Outcome State Fault Refusal :=
  act (fun t => t.nodeReply r) s

/-- tREPLY runs out with no complete reply (R38). -/
def execReplyTimeout (s : State) : Host.Outcome State Fault Refusal :=
  act (fun t => t.replyTimeout) s

/-- A node's slow timer expires (R41). -/
def execSlowTimerExpiry (node : MachineNo) (s : State) : Host.Outcome State Fault Refusal :=
  act (fun t => t.modLink node Link.slowExpires) s

/-- tLOST expires on a SILENT link (R40). -/
def execLostTimerExpiry (node : MachineNo) (s : State) : Host.Outcome State Fault Refusal :=
  act (fun t => t.lostExpiry node) s

end Sys2Proof.Machine
end

