-- ==== Sys2Proof/Machine/MachineControl.lean ====
section
/-! DEFINITION. The meanings of MACHINE_QUERY and the actions of MACHINE_CONTROL. -/
namespace Sys2Proof.Machine

/-- MACHINE_QUERY (R27). -/
def execMachineQuery (tag : Byte) (machine : Nat) (s : State) : Host.Outcome State Fault Refusal :=
  act (fun t => t.request tag (.machineQuery machine)) s

/-- SERVICE_START (R24). -/
def execServiceStart (tag : Byte) (machine programme increments : Nat)
    (s : State) : Host.Outcome State Fault Refusal :=
  act (fun t => t.request tag (.serviceStart machine programme increments)) s

/-- ABORT (R25). -/
def execAbort (tag : Byte) (machine : Nat) (s : State) : Host.Outcome State Fault Refusal :=
  act (fun t => t.request tag (.abort machine)) s

/-- LOCK (R170). -/
def execLock (tag : Byte) (machine : Nat) (s : State) : Host.Outcome State Fault Refusal :=
  act (fun t => t.request tag (.lock machine)) s

/-- LOCKOUT_CLEAR (R171). -/
def execLockoutClear (tag : Byte) (machine : Nat) (s : State) : Host.Outcome State Fault Refusal :=
  act (fun t => t.request tag (.lockoutClear machine)) s

/-- NODE_ENABLE (R3). -/
def execNodeEnable (tag : Byte) (machine : Nat) (s : State) : Host.Outcome State Fault Refusal :=
  act (fun t => t.request tag (.nodeEnable machine)) s

/-- NODE_DISABLE (R3). -/
def execNodeDisable (tag : Byte) (machine : Nat) (s : State) : Host.Outcome State Fault Refusal :=
  act (fun t => t.request tag (.nodeDisable machine)) s

end Sys2Proof.Machine
end

