-- ==== Sys2Proof/Machine/Payment.lean ====
section
/-! DEFINITION. The meanings of the payment contexts. -/
namespace Sys2Proof.Machine

/-- A FREE payment context takes the request at the head of the payment request queue (R96). -/
def execContextTakeRequest (s : State) : Host.Outcome State Fault Refusal :=
  act (fun t => t.takeRequest) s

/-- A directory read of a walk or of a directory request completes (R57). -/
def execWalkReadDone (s : State) : Host.Outcome State Fault Refusal :=
  act (fun t => t.contextEvent Stage.readsDirectory) s

/-- An account record's read completes (R100). -/
def execAccountReadDone (s : State) : Host.Outcome State Fault Refusal :=
  act (fun t => t.contextEvent Stage.readsAccount) s

/-- An account record's write completes (R108). -/
def execAccountWriteDone (s : State) : Host.Outcome State Fault Refusal :=
  act (fun t => t.contextEvent Stage.writesAccount) s

/-- A settlement's read of the machine slot completes (R107). -/
def execSlotReadDone (s : State) : Host.Outcome State Fault Refusal :=
  act (fun t => t.contextEvent Stage.readsSlot) s

/-- A slot write by a context completes (R102). -/
def execSlotWriteDone (s : State) : Host.Outcome State Fault Refusal :=
  act (fun t => t.contextEvent Stage.writesSlot) s

/-- A store write of a directory write completes (R68). -/
def execDirectoryStoreWriteDone (s : State) : Host.Outcome State Fault Refusal :=
  act (fun t => t.contextEvent Stage.writesDirectory) s

end Sys2Proof.Machine
end

