-- ==== Sys2Proof/Machine/Power.lean ====
section
/-! DEFINITION. The meanings of the reset and power commands and the timebase. -/
namespace Sys2Proof.Machine

/-- Power is applied to the part, whether or not it had power: every block takes its reset values, the START_UP notices are
queued and the scan begins (R209). -/
def execPowerOnReset (s : State) : Host.Outcome State Fault Refusal :=
  .next s.powerUp.conclude

/-- The soft reset begins when the last byte of an accepted RESET's reply has been sent (R198). -/
def execSoftReset (s : State) : Host.Outcome State Fault Refusal :=
  act (fun t => t.beginSoftReset) s

/-- The timebase advances one minute (R207). -/
def execTimebaseMinute (s : State) : Host.Outcome State Fault Refusal :=
  act (fun t => t.minutePasses) s

/-- Power is removed from the part (R177). -/
def execPowerLoss (cut : PowerCut) (s : State) : Host.Outcome State Fault Refusal :=
  .next (if s.powered then s.losePower cut else s)

end Sys2Proof.Machine
end

