-- ==== Sys2Proof/Machine/Sessions.lean ====
section
/-! DEFINITION. The meanings of the session timers and the payment results at the session engine. -/
namespace Sys2Proof.Machine

/-- tARM expires (R10). -/
def execArmTimerExpiry (machine : MachineNo) (s : State) : Host.Outcome State Fault Refusal :=
  act (fun t => t.armExpiry machine) s

/-- A session's minute timer expires (R12). -/
def execMinuteTimerExpiry (machine : MachineNo) (s : State) : Host.Outcome State Fault Refusal :=
  act (fun t => t.minuteExpiry machine) s

/-- tGRACE expires (R21). -/
def execGraceTimerExpiry (machine : MachineNo) (s : State) : Host.Outcome State Fault Refusal :=
  act (fun t => t.graceExpiry machine) s

/-- tRECOVER expires (R22). -/
def execRecoveryWindowExpiry (machine : MachineNo) (s : State) : Host.Outcome State Fault Refusal :=
  act (fun t => t.recoveryExpiry machine) s

/-- The session engine takes the result of an AUTHORISE request (R9). -/
def execAuthoriseResult (machine : MachineNo) (s : State) : Host.Outcome State Fault Refusal :=
  act (fun t => t.takeAuthorise machine) s

/-- The session engine takes the result of an EXTEND request (R18). -/
def execExtendResult (machine : MachineNo) (s : State) : Host.Outcome State Fault Refusal :=
  act (fun t => t.takeExtend machine) s

/-- A settlement completes (R7). -/
def execSettleComplete (machine : MachineNo) (s : State) : Host.Outcome State Fault Refusal :=
  act (fun t => t.takeSettled machine) s

/-- A PART_RELEASE completes (R18). -/
def execPartReleaseComplete (machine : MachineNo) (s : State) : Host.Outcome State Fault Refusal :=
  act (fun t => t.takeReleased machine) s

end Sys2Proof.Machine
end

