-- ==== Sys2Proof/Machine/Store.lean ====
section
/-! DEFINITION. The meanings of the store port, the start-up scan and the probe. -/
namespace Sys2Proof.Machine

/-- The status read of the transaction being carried out gives no valid status (R182). -/
def execStoreFailure (s : State) : Host.Outcome State Fault Refusal :=
  act (fun t => t.storeFails) s

/-- tPROBE expires (R184). -/
def execProbeTimerExpiry (s : State) : Host.Outcome State Fault Refusal :=
  act (fun t => t.probeExpiry) s

/-- The probe's status read completes (R184). -/
def execProbeComplete (valid : Bool) (s : State) : Host.Outcome State Fault Refusal :=
  act (fun t => t.probeDone valid) s

/-- A day update completes (R61). -/
def execDayUpdateDone (s : State) : Host.Outcome State Fault Refusal :=
  act (fun t => t.dayDone) s

/-- A slot refresh or a lockout slot update completes (R181). -/
def execSlotRefreshDone (s : State) : Host.Outcome State Fault Refusal :=
  act (fun t => t.refreshDone) s

/-- A transaction of the start-up scan completes (R188). -/
def execScanTransactionDone (s : State) : Host.Outcome State Fault Refusal :=
  act (fun t => t.scanTransaction) s

end Sys2Proof.Machine
end

