-- ==== Sys2Proof/Machine/Dispatch.lean ====
section
/-! DEFINITION. `exec`: the meaning of each command, one arm per constructor, in the order of spec/opcode_table.json. -/
namespace Sys2Proof.Machine

/-- The effect of a command on everything but the queue of commands. -/
def exec (i : Instr) (s : State) : Host.Outcome State Fault Refusal :=
  match i with
  | .powerOnReset => Sys2Proof.Machine.execPowerOnReset s
  | .softReset => Sys2Proof.Machine.execSoftReset s
  | .hostByteReceived b => Sys2Proof.Machine.execHostByteReceived b s
  | .gapTimerExpiry => Sys2Proof.Machine.execGapTimerExpiry s
  | .hostFrameSent => Sys2Proof.Machine.execHostFrameSent s
  | .identify tag => Sys2Proof.Machine.execIdentify tag s
  | .configSetSite tag code => Sys2Proof.Machine.execConfigSetSite tag code s
  | .configSetRoom tag room capacity edge => Sys2Proof.Machine.execConfigSetRoom tag room capacity edge s
  | .configSetMachine tag machine room cls assigned => Sys2Proof.Machine.execConfigSetMachine tag machine room cls assigned s
  | .configSetProgramme tag p => Sys2Proof.Machine.execConfigSetProgramme tag p s
  | .configSetBand tag band start factor => Sys2Proof.Machine.execConfigSetBand tag band start factor s
  | .configSetTariffGroup tag group discount => Sys2Proof.Machine.execConfigSetTariffGroup tag group discount s
  | .configSetSurcharge tag permille => Sys2Proof.Machine.execConfigSetSurcharge tag permille s
  | .configSetCap tag cents => Sys2Proof.Machine.execConfigSetCap tag cents s
  | .configSetGrace tag minutes => Sys2Proof.Machine.execConfigSetGrace tag minutes s
  | .configSetPause tag allowance credit => Sys2Proof.Machine.execConfigSetPause tag allowance credit s
  | .configSetArm tag seconds => Sys2Proof.Machine.execConfigSetArm tag seconds s
  | .configSetOverrun tag minutes => Sys2Proof.Machine.execConfigSetOverrun tag minutes s
  | .configSetNodeGrace tag minutes => Sys2Proof.Machine.execConfigSetNodeGrace tag minutes s
  | .configSetWindow tag index w => Sys2Proof.Machine.execConfigSetWindow tag index w s
  | .configSetCache tag c => Sys2Proof.Machine.execConfigSetCache tag c s
  | .configSetGrant tag mode limit high low => Sys2Proof.Machine.execConfigSetGrant tag mode limit high low s
  | .configSetLamp tag m => Sys2Proof.Machine.execConfigSetLamp tag m s
  | .configSetNoticeMask tag m => Sys2Proof.Machine.execConfigSetNoticeMask tag m s
  | .configGet tag item index => Sys2Proof.Machine.execConfigGet tag item index s
  | .configSave tag => Sys2Proof.Machine.execConfigSave tag s
  | .configSegmentWriteDone => Sys2Proof.Machine.execConfigSegmentWriteDone s
  | .clockSet tag minute day => Sys2Proof.Machine.execClockSet tag minute day s
  | .reset tag => Sys2Proof.Machine.execReset tag s
  | .machineQuery tag machine => Sys2Proof.Machine.execMachineQuery tag machine s
  | .serviceStart tag machine programme increments => Sys2Proof.Machine.execServiceStart tag machine programme increments s
  | .abort tag machine => Sys2Proof.Machine.execAbort tag machine s
  | .lock tag machine => Sys2Proof.Machine.execLock tag machine s
  | .lockoutClear tag machine => Sys2Proof.Machine.execLockoutClear tag machine s
  | .nodeEnable tag machine => Sys2Proof.Machine.execNodeEnable tag machine s
  | .nodeDisable tag machine => Sys2Proof.Machine.execNodeDisable tag machine s
  | .directoryWrite tag path descriptor => Sys2Proof.Machine.execDirectoryWrite tag path descriptor s
  | .directoryRead tag path => Sys2Proof.Machine.execDirectoryRead tag path s
  | .cardProbe tag card cls => Sys2Proof.Machine.execCardProbe tag card cls s
  | .accountOpen tag account overdraft group => Sys2Proof.Machine.execAccountOpen tag account overdraft group s
  | .accountRead tag account => Sys2Proof.Machine.execAccountRead tag account s
  | .accountSet tag account state overdraft group => Sys2Proof.Machine.execAccountSet tag account state overdraft group s
  | .accountSetEveryField tag account fields => Sys2Proof.Machine.execAccountSetEveryField tag account fields s
  | .accountCredit tag account amount => Sys2Proof.Machine.execAccountCredit tag account amount s
  | .accountAdjust tag account amount => Sys2Proof.Machine.execAccountAdjust tag account amount s
  | .accountClose tag account => Sys2Proof.Machine.execAccountClose tag account s
  | .cacheFlushAll tag => Sys2Proof.Machine.execCacheFlushAll tag s
  | .cacheFlushResidents tag => Sys2Proof.Machine.execCacheFlushResidents tag s
  | .cacheFlushFloor tag floor => Sys2Proof.Machine.execCacheFlushFloor tag floor s
  | .cacheFlushFlat tag floor flat => Sys2Proof.Machine.execCacheFlushFlat tag floor flat s
  | .demandSet tag limit duration => Sys2Proof.Machine.execDemandSet tag limit duration s
  | .budgetQuery tag => Sys2Proof.Machine.execBudgetQuery tag s
  | .faultRead tag start count => Sys2Proof.Machine.execFaultRead tag start count s
  | .faultAck tag sequence => Sys2Proof.Machine.execFaultAck tag sequence s
  | .rulesSet tag item => Sys2Proof.Machine.execRulesSet tag item s
  | .rulesLock tag => Sys2Proof.Machine.execRulesLock tag s
  | .valveOpen tag room => Sys2Proof.Machine.execValveOpen tag room s
  | .nodeReply r => Sys2Proof.Machine.execNodeReply r s
  | .replyTimeout => Sys2Proof.Machine.execReplyTimeout s
  | .slowTimerExpiry node => Sys2Proof.Machine.execSlowTimerExpiry node s
  | .lostTimerExpiry node => Sys2Proof.Machine.execLostTimerExpiry node s
  | .armTimerExpiry machine => Sys2Proof.Machine.execArmTimerExpiry machine s
  | .minuteTimerExpiry machine => Sys2Proof.Machine.execMinuteTimerExpiry machine s
  | .graceTimerExpiry machine => Sys2Proof.Machine.execGraceTimerExpiry machine s
  | .recoveryWindowExpiry machine => Sys2Proof.Machine.execRecoveryWindowExpiry machine s
  | .authoriseResult machine => Sys2Proof.Machine.execAuthoriseResult machine s
  | .extendResult machine => Sys2Proof.Machine.execExtendResult machine s
  | .settleComplete machine => Sys2Proof.Machine.execSettleComplete machine s
  | .partReleaseComplete machine => Sys2Proof.Machine.execPartReleaseComplete machine s
  | .contextTakeRequest => Sys2Proof.Machine.execContextTakeRequest s
  | .cacheLookup => Sys2Proof.Machine.execCacheLookup s
  | .sweepStep => Sys2Proof.Machine.execSweepStep s
  | .walkReadDone => Sys2Proof.Machine.execWalkReadDone s
  | .accountReadDone => Sys2Proof.Machine.execAccountReadDone s
  | .accountWriteDone => Sys2Proof.Machine.execAccountWriteDone s
  | .slotReadDone => Sys2Proof.Machine.execSlotReadDone s
  | .slotWriteDone => Sys2Proof.Machine.execSlotWriteDone s
  | .directoryStoreWriteDone => Sys2Proof.Machine.execDirectoryStoreWriteDone s
  | .demandTimerExpiry => Sys2Proof.Machine.execDemandTimerExpiry s
  | .leakInputChange room high => Sys2Proof.Machine.execLeakInputChange room high s
  | .debounceExpiry room => Sys2Proof.Machine.execDebounceExpiry room s
  | .storeFailure => Sys2Proof.Machine.execStoreFailure s
  | .probeTimerExpiry => Sys2Proof.Machine.execProbeTimerExpiry s
  | .probeComplete valid => Sys2Proof.Machine.execProbeComplete valid s
  | .dayUpdateDone => Sys2Proof.Machine.execDayUpdateDone s
  | .slotRefreshDone => Sys2Proof.Machine.execSlotRefreshDone s
  | .scanTransactionDone => Sys2Proof.Machine.execScanTransactionDone s
  | .timebaseMinute => Sys2Proof.Machine.execTimebaseMinute s
  | .powerLoss cut => Sys2Proof.Machine.execPowerLoss cut s

end Sys2Proof.Machine
end

