-- ==== Sys2Proof/WellFormed.lean ====
section
/-! DEFINITION. Well-formed commands: every number fits the width 10.5 and 10.6 give its field, and a request whose payload is
refused whatever its numbers say (an empty selector) is none. Ranges are not checked here: their owners judge them. -/
namespace Sys2Proof

/-- A number of one byte. -/
def isByte (n : Nat) : Bool := decide (n < 256)

/-- A number of two bytes. -/
def isShort (n : Nat) : Bool := decide (n < 65536)

/-- A number of four bytes. -/
def isLong (n : Nat) : Bool := decide (n < 4294967296)

/-- A signed number of four bytes. -/
def isSigned (z : Int) : Bool := decide (-2147483648 ≤ z) && decide (z < 2147483648)

/-- A path whose fields are bytes (10.5). -/
def RawPath.wellFormed (p : RawPath) : Bool := isByte p.floor && isByte p.flat && isByte p.ordinal

/-- A descriptor whose fields fit (10.5). -/
def RawDescriptor.wellFormed (d : RawDescriptor) : Bool :=
  isShort d.account && isByte d.targetFloor && isByte d.targetFlat && isByte d.targetOrdinal

/-- A card identifier whose site code fits (10.5). -/
def CardId.wellFormed (c : CardId) : Bool := isShort c.site

/-- A number of one byte, or ANY, which takes the code 0xFF (R204). -/
def isByteOrAny : Option Nat → Bool
  | some n => decide (n < 255)
  | none => true

/-- A window action whose account index fits (R204). -/
def WindowItemAction.wellFormed : WindowItemAction → Bool
  | .house a => isShort a
  | .free | .refuse => true

/-- A window item whose fields fit (R204). -/
def WindowItem.wellFormed (w : WindowItem) : Bool :=
  isShort w.site && isByte w.floorLow && isByte w.floorHigh && isByteOrAny w.flat && isByteOrAny w.ordinal &&
    w.action.wellFormed

/-- A programme item: its index is three bits of the index byte (R204). -/
def ProgrammeItem.wellFormed : ProgrammeItem → Bool
  | .washer i b d h => decide (i < 8) && isShort b && isByte d && isByte h
  | .dryer i p l m h => decide (i < 8) && isShort p && isByte l && isByte m && isByte h

/-- A configuration item whose index and fields fit (R204). -/
def ConfigItem.wellFormed : ConfigItem → Bool
  | .site n | .surcharge n | .cap n | .arm n => isShort n
  | .room r capacity _ => isByte r && isShort capacity
  | .machine m r _ _ => isByte m && isByte r
  | .programme p => p.wellFormed
  | .band b start f => isByte b && isShort start && isShort f
  | .tariffGroup g d => isByte g && isShort d
  | .grace n | .overrun n | .nodeGrace n => isByte n
  | .pause a k => isByte a && isShort k
  | .window i w => isByte i && w.wellFormed
  | .cache c => isByte c.sweepBurst && isByte c.lookupBurst
  | .grant _ limit high low => isShort limit && isByte high && isByte low
  | .lamp _ | .noticeMask _ => true

/-- The fields of an ACCOUNT_SET giving every field fit (10.6). -/
def AccountFields.wellFormed (f : AccountFields) : Bool :=
  isSigned f.balance && isShort f.overdraft && isByte f.group && isShort f.vends && isShort f.lastDay

/-- A flush scope whose fields fit (10.6). -/
def FlushScope.wellFormed : FlushScope → Bool
  | .all | .residents => true
  | .floor f => isByte f
  | .flat f n => isByte f && isByte n

/-- A request that a payload of 10.6 can carry. -/
def Request.wellFormed : Request → Bool
  | .identify | .configSave | .reset | .budgetQuery | .rulesSet _ | .rulesLock => true
  | .configSet i => i.wellFormed
  | .configGet i n => isByte i && isByte n
  | .clockSet m d => isShort m && isShort d
  | .machineQuery m | .abort m | .lock m | .lockoutClear m | .nodeEnable m | .nodeDisable m => isByte m
  | .serviceStart m p n => isByte m && isByte p && isByte n
  | .directoryWrite p d => p.wellFormed && d.wellFormed
  | .directoryRead p => p.wellFormed
  | .cardProbe c _ => c.wellFormed
  | .accountOpen a o g => isShort a && isShort o && isByte g
  | .accountRead a | .accountClose a => isShort a
  | .accountSet a _ o g =>
    isShort a && o.all isShort && g.all isByte
  | .accountSetAll a f => isShort a && f.wellFormed
  | .accountCredit a n => isShort a && isLong n
  | .accountAdjust a z => isShort a && isSigned z
  | .cacheFlush sc => sc.wellFormed
  | .demandSet l d => isShort l && isShort d
  | .faultRead q n => isLong q && isByte n
  | .faultAck q => isLong q
  | .valveOpen r => isByte r

/-- A report whose numbers fit: a card's site code and its count are two bytes, a programme index one. R31 names the arguments and
gives no widths, for the machine line's byte coding is another document's. DESIGN CHOICE (log entry 85). -/
def Report.wellFormed : Report → Bool
  | .card c programme count => c.wellFormed && isByte programme && isShort count
  | .startPressed | .phase _ | .door _ | .fault _ | .nodeReset _ => true

/-- A node reply whose session id is one of R30 and whose report fits. -/
def NodeReply.wellFormed (r : NodeReply) : Bool :=
  isShort r.summary.sessionId && r.report.all fun x => x.1.wellFormed

/-- The tag and the host request of a command, if it is one (R197). -/
def Instr.request? : Instr → Option (Byte × Request)
  | .identify tag => some (tag, .identify)
  | .configSetSite tag code => some (tag, (.configSet (.site code)))
  | .configSetRoom tag room capacity edge => some (tag, (.configSet (.room room capacity edge)))
  | .configSetMachine tag machine room cls assigned => some (tag, (.configSet (.machine machine room cls assigned)))
  | .configSetProgramme tag p => some (tag, (.configSet (.programme p)))
  | .configSetBand tag band start factor => some (tag, (.configSet (.band band start factor)))
  | .configSetTariffGroup tag group discount => some (tag, (.configSet (.tariffGroup group discount)))
  | .configSetSurcharge tag permille => some (tag, (.configSet (.surcharge permille)))
  | .configSetCap tag cents => some (tag, (.configSet (.cap cents)))
  | .configSetGrace tag minutes => some (tag, (.configSet (.grace minutes)))
  | .configSetPause tag allowance credit => some (tag, (.configSet (.pause allowance credit)))
  | .configSetArm tag seconds => some (tag, (.configSet (.arm seconds)))
  | .configSetOverrun tag minutes => some (tag, (.configSet (.overrun minutes)))
  | .configSetNodeGrace tag minutes => some (tag, (.configSet (.nodeGrace minutes)))
  | .configSetWindow tag index w => some (tag, (.configSet (.window index w)))
  | .configSetCache tag c => some (tag, (.configSet (.cache c)))
  | .configSetGrant tag mode limit high low => some (tag, (.configSet (.grant mode limit high low)))
  | .configSetLamp tag m => some (tag, (.configSet (.lamp m)))
  | .configSetNoticeMask tag m => some (tag, (.configSet (.noticeMask m)))
  | .configGet tag item index => some (tag, (.configGet item index))
  | .configSave tag => some (tag, .configSave)
  | .clockSet tag minute day => some (tag, (.clockSet minute day))
  | .reset tag => some (tag, .reset)
  | .machineQuery tag machine => some (tag, (.machineQuery machine))
  | .serviceStart tag machine programme increments => some (tag, (.serviceStart machine programme increments))
  | .abort tag machine => some (tag, (.abort machine))
  | .lock tag machine => some (tag, (.lock machine))
  | .lockoutClear tag machine => some (tag, (.lockoutClear machine))
  | .nodeEnable tag machine => some (tag, (.nodeEnable machine))
  | .nodeDisable tag machine => some (tag, (.nodeDisable machine))
  | .directoryWrite tag path descriptor => some (tag, (.directoryWrite path descriptor))
  | .directoryRead tag path => some (tag, (.directoryRead path))
  | .cardProbe tag card cls => some (tag, (.cardProbe card cls))
  | .accountOpen tag account overdraft group => some (tag, (.accountOpen account overdraft group))
  | .accountRead tag account => some (tag, (.accountRead account))
  | .accountSet tag account state overdraft group => some (tag, (.accountSet account state overdraft group))
  | .accountSetEveryField tag account fields => some (tag, (.accountSetAll account fields))
  | .accountCredit tag account amount => some (tag, (.accountCredit account amount))
  | .accountAdjust tag account amount => some (tag, (.accountAdjust account amount))
  | .accountClose tag account => some (tag, (.accountClose account))
  | .cacheFlushAll tag => some (tag, (.cacheFlush .all))
  | .cacheFlushResidents tag => some (tag, (.cacheFlush .residents))
  | .cacheFlushFloor tag floor => some (tag, (.cacheFlush (.floor floor)))
  | .cacheFlushFlat tag floor flat => some (tag, (.cacheFlush (.flat floor flat)))
  | .demandSet tag limit duration => some (tag, (.demandSet limit duration))
  | .budgetQuery tag => some (tag, .budgetQuery)
  | .faultRead tag start count => some (tag, (.faultRead start count))
  | .faultAck tag sequence => some (tag, (.faultAck sequence))
  | .rulesSet tag item => some (tag, (.rulesSet item))
  | .rulesLock tag => some (tag, .rulesLock)
  | .valveOpen tag room => some (tag, (.valveOpen room))
  | .powerOnReset | .softReset | .hostByteReceived _ | .gapTimerExpiry | .hostFrameSent | .configSegmentWriteDone
  | .nodeReply _ | .replyTimeout | .slowTimerExpiry _ | .lostTimerExpiry _ | .armTimerExpiry _ | .minuteTimerExpiry _
  | .graceTimerExpiry _ | .recoveryWindowExpiry _ | .authoriseResult _ | .extendResult _ | .settleComplete _
  | .partReleaseComplete _ | .contextTakeRequest | .cacheLookup | .sweepStep | .walkReadDone | .accountReadDone
  | .accountWriteDone | .slotReadDone | .slotWriteDone | .directoryStoreWriteDone | .demandTimerExpiry
  | .leakInputChange _ _ | .debounceExpiry _ | .storeFailure | .probeTimerExpiry | .probeComplete _ | .dayUpdateDone
  | .slotRefreshDone | .scanTransactionDone | .timebaseMinute | .powerLoss _ => none

/-- A command whose operands the host line or the machine line can carry. -/
def Instr.wellFormed (i : Instr) : Bool :=
  match i with
  | .nodeReply r => r.wellFormed
  | _ => (i.request?).all fun x => x.2.wellFormed

end Sys2Proof
end

