-- ==== Sys2Proof/Safety.lean ====
section
/-! DEFINITION. The terms in which the model's claims are stated: when the part can take a command, what a command leaves
unchanged, what a reply leaves, and the invariants. -/
namespace Sys2Proof.Machine

/-! ## Taking a command -/

/-- The store is UP, or nothing but the probe is in its queue: what R183 makes of a store that is not UP. -/
def State.Settled (s : State) : Prop := s.storeUp = true ∨ ∀ t ∈ s.store.queue, t.isProbe = true

/-- Power is applied and the store settled, so that an event has its effect. -/
def State.Runs (s : State) : Prop := s.powered = true ∧ s.Settled

/-- A host request that arrives is served at once: the part runs, start-up is over and the receive buffer is empty (R195,
R196). -/
def State.Takes (s : State) : Prop := s.Runs ∧ s.startingUp = false ∧ s.host.buffer = []

/-! ## What a command leaves unchanged

An event ends with the choices of the part's own arbiters: the transmitter's next frame (R199), the line's next exchange
(R41), the cache array's next access (R87), and the store port's own transactions (R180, R181). So a block that an event leaves
unchanged is afterwards what its arbiter makes of what it was. -/

/-- The blocks of the state, for saying which of them a command leaves unchanged. -/
inductive Block where
  | power | startUp | clock | host | line | engine | directory | cache | payment | tariff | feeder | supervisor | lamps
  | store | scan | fram | free
  deriving DecidableEq, Repr

/-- The store port of `t` is what its own issuers, looking at `t`, make of the store port `p` (R180, R181). -/
def State.StoreFrom (t : State) (p : StorePort) : Prop := t.store = ({ t with store := p }).issueOwn.store

/-- A block of `s` is unchanged in `t`, but for the choices that end an event. -/
def Block.same (s t : State) : Block → Prop
  | .power => t.powered = s.powered
  | .startUp => t.startUp = s.startUp
  | .clock => t.clock = s.clock
  | .host => t.host = s.host.transmit
  | .line => t.line = s.line.begin
  | .engine => t.engine = s.engine
  | .directory => t.directory = s.directory
  | .cache => t.cache = s.cache.arbitrate
  | .payment => t.payment = s.payment
  | .tariff => t.tariff = s.tariff
  | .feeder => t.feeder = s.feeder
  | .supervisor => t.supervisor = s.supervisor
  | .lamps => t.lamps = s.lamps
  | .store => t.StoreFrom s.store
  | .scan => t.scan = s.scan
  | .fram => t.fram = s.fram
  | .free => t.freeIndex = s.freeIndex

/-- Every block but those listed is unchanged from `s` to `t`, and so are the commands that wait. -/
def Unchanged (changed : List Block) (s t : State) : Prop :=
  t.pending = s.pending ∧ ∀ b, b ∉ changed → b.same s t

/-- A command leads from `s` to a next state in which every block but those listed is unchanged, and `holds` is true. -/
def Leads (o : Host.Outcome State Fault Refusal) (s : State) (changed : List Block) (holds : State → Prop) : Prop :=
  ∃ t, o = .next t ∧ Unchanged changed s t ∧ holds t

/-! ## Replies -/

/-- The state with a request, just arrived at an empty buffer, as the current request (R195). -/
def State.withRequest (s : State) (tag : Byte) (q : Request) : State :=
  { s with host := { s.host with buffer := [requestFrame tag q] } }

/-- The host link with a frame as the current request and its reply ready (R195, R197). -/
def HostLink.answering (h : HostLink) (f : Frame) (status : Status) (results : List Byte) : HostLink :=
  { h with buffer := [f], ready := some (replyFrame f status results) }

/-- A command answers a request with a status and results: a next state in which the host link, which was `h` but for the
request and its reply, has handed that reply to its transmitter (R197, R199), every block but the host link and those listed is
unchanged, and `holds` is true. -/
def RepliesFrom (h : HostLink) (o : Host.Outcome State Fault Refusal) (s : State) (tag : Byte) (q : Request)
    (status : Status) (results : List Byte) (changed : List Block) (holds : State → Prop) : Prop :=
  Leads o s (.host :: changed) fun t =>
    t.host = (h.answering (requestFrame tag q) status results).transmit ∧ holds t

/-- A command answers a request, and changes nothing else of the host link: no notice, no counter, not the mask. -/
def Replies (o : Host.Outcome State Fault Refusal) (s : State) (tag : Byte) (q : Request) (status : Status)
    (results : List Byte) (changed : List Block) (holds : State → Prop) : Prop :=
  RepliesFrom s.host o s tag q status results changed holds

/-- A command refuses a request with a status: the reply, and no other change. -/
def Refuses (o : Host.Outcome State Fault Refusal) (s : State) (tag : Byte) (q : Request) (status : Status) : Prop :=
  Replies o s tag q status [] [] fun _ => True

/-- A request waits for its reply as the current request, with `q` at the tail of the payment request queue, and nothing else
changed. -/
def Queues (o : Host.Outcome State Fault Refusal) (s : State) (tag : Byte) (q : Request) (p : PayRequest) : Prop :=
  Leads o s [.host, .payment] fun t =>
    t.host = ({ s.host with buffer := [requestFrame tag q] }).transmit ∧
      t.payment = { s.payment with queue := s.payment.queue ++ [p] }

/-- A CONFIG_SET of an item: refused BAD_ARGUMENT where `bad` is true, and otherwise accepted, with every block but those listed
unchanged and `holds` true. -/
def Sets (c : Instr) (s : State) (tag : Byte) (i : ConfigItem) (bad : Prop) (changed : List Block) (holds : State → Prop) :
    Prop :=
  (bad → Refuses (exec c s) s tag (.configSet i) .badArgument) ∧
    (¬ bad → Replies (exec c s) s tag (.configSet i) .ok [] changed holds)

/-! ## Notices -/

/-- The host link with notices offered to it, first to last (R200, R201). -/
def HostLink.offered (h : HostLink) (ns : List Notice) : HostLink := ns.foldl HostLink.offer h

/-- A command answers a request, and of the host link changes nothing else but that some notices are offered to it. -/
def RepliesNoticing (o : Host.Outcome State Fault Refusal) (s : State) (tag : Byte) (q : Request) (status : Status)
    (results : List Byte) (changed : List Block) (holds : State → Prop) : Prop :=
  ∃ ns, RepliesFrom (s.host.offered ns) o s tag q status results changed holds

/-- A command leads to a next state, and of the host link changes nothing but that some notices are offered to it. -/
def LeadsNoticing (o : Host.Outcome State Fault Refusal) (s : State) (changed : List Block) (holds : State → Prop) : Prop :=
  Leads o s (.host :: changed) fun t => (∃ ns, t.host = (s.host.offered ns).transmit) ∧ holds t

/-! ## The feeder's grants

What a grant pass, shedding and the backlog's judgement do is said by what fits, by the grant a visit makes, by the grant shedding
withdraws next, and by the table of R155. -/

/-- The head of a queue of room `r` is `c`, and its load fits (R146). -/
def Feeder.HeadFits (f : Feeder) (r : RoomNo) (q : Turn) (c : Claim) : Prop :=
  ((look f.rooms r).queue q).head? = some c ∧ f.granted r + c.load ≤ (look f.rooms r).capacity ∧
    f.total + c.load ≤ f.effectiveLimit

/-- No queue head in any room fits, as R142 says after every event the unit takes. -/
def Feeder.Drained (f : Feeder) : Prop := ∀ r q c, ¬ f.HeadFits r q c

/-- A visit to room `r` grants `c`, the head of queue `q`: the queue chosen first is by the mode, RESUME if it is not empty or the one
the turn names if that is not empty, and the other's head is granted only where the first's does not fit (R148). -/
def Feeder.VisitGrants (f : Feeder) (r : RoomNo) (q : Turn) (c : Claim) : Prop :=
  let x := look f.rooms r
  let first : Turn := match f.mode with
    | .resumeFirst => if x.resumeQueue = [] then .new else .resume
    | .alternate => if x.queue x.turn = [] then x.turn.other else x.turn
  f.HeadFits r q c ∧ (q = first ∨ ∀ d, ¬ f.HeadFits r first d)

/-- The unit once a visit to room `r` has granted `c`, the head of queue `q`: it has left the queue and joined the room's grant list and
the building order, the pointer names the room, and in ALTERNATE the turn is the other queue's (R147, R148). -/
def Feeder.afterGrant (f : Feeder) (r : RoomNo) (q : Turn) (c : Claim) : Feeder :=
  let x := look f.rooms r
  { f with
    rooms := f.rooms.set r.1 { x with
      grants := x.grants ++ [c]
      newQueue := if q = .new then x.newQueue.tail else x.newQueue
      resumeQueue := if q = .resume then x.resumeQueue.tail else x.resumeQueue
      turn := if f.mode = .alternate then q.other else x.turn }
    order := f.order ++ [c.machine], pointer := r }

/-- Shedding among the grants of the rooms listed withdraws next the grant `c` of room `r`: of those with a load above 0, the dryer grant
latest in the building order, or where no dryer grant is among them the washer grant latest in it (R150). -/
def Feeder.Withdraws (f : Feeder) (isDryer : MachineNo → Bool) (rooms : List RoomNo) (r : RoomNo) (c : Claim) : Prop :=
  let eligible (k : RoomNo) (d : Claim) := k ∈ rooms ∧ d ∈ (look f.rooms k).grants ∧ 0 < d.load
  eligible r c ∧ ∃ before after, f.order = before ++ c.machine :: after ∧
    (isDryer c.machine = true ∧ (∀ k d, eligible k d → isDryer d.machine = true → d.machine ∉ after) ∨
      isDryer c.machine = false ∧ ∀ k d, eligible k d → isDryer d.machine = false ∧ d.machine ∉ after)

/-- The unit once the grant `c` of room `r` is withdrawn: it has left the room's grant list and the building order, and joined the tail
of the room's RESUME queue (R150). -/
def Feeder.afterWithdrawal (f : Feeder) (r : RoomNo) (c : Claim) : Feeder :=
  let x := look f.rooms r
  { f with
    rooms := f.rooms.set r.1 { x with
      grants := x.grants.filter (fun d => d.machine != c.machine), resumeQueue := x.resumeQueue ++ [c] }
    order := f.order.filter fun m => m != c.machine }

/-- The unit and its notice once the backlog is judged at an event's end: OFF with the waiting count at or above the high mark becomes
ON, ON with it at or below the low mark becomes OFF, and a change queues BACKLOG with the count (R155). -/
def Feeder.judged (f : Feeder) : Feeder × List Notice :=
  if f.backlog = false ∧ f.high ≤ f.waiting then ({ f with backlog := true }, [.backlog true f.waiting])
  else if f.backlog = true ∧ f.waiting ≤ f.low then ({ f with backlog := false }, [.backlog false f.waiting])
  else (f, [])

/-- The backlog state is as a judgement leaves it: OFF below the high mark, ON above the low mark (R155). -/
def Feeder.BacklogSettled (f : Feeder) : Prop :=
  (f.backlog = false → f.waiting < f.high) ∧ (f.backlog = true → f.low < f.waiting)

/-- The unit without machine `m`'s grant and queue entries, as a release leaves it before its pass (R144). -/
def Feeder.without (f : Feeder) (m : MachineNo) : Feeder :=
  let others (cs : List Claim) := cs.filter fun c => c.machine != m
  { f with
    rooms := f.rooms.map fun x =>
      { x with grants := others x.grants, newQueue := others x.newQueue, resumeQueue := others x.resumeQueue }
    order := f.order.filter fun k => k != m }

/-- The unit once a release of machine `m` has been taken, but for the backlog, and the machines granted: its claim is removed and a pass
run, or with no claim nothing changes (R144). -/
def Feeder.released (f : Feeder) (m : MachineNo) : Feeder × List MachineNo :=
  if f.holdsGrant m = true ∨ f.queued m = true then (f.without m).pass else (f, [])

/-- The sessions and nodes of the machines not listed have been told of an event's withdrawals and then of its grants: heat state
WITHDRAWN with HEAT_HOLD, then GRANTED with HEAT_GRANT, and of every other machine both stay. No command is queued for a DISABLED link
(R13, R34, R149). -/
def State.HeatTold (s t : State) (but withdrawn granted : List MachineNo) : Prop :=
  ∀ k, k ∉ but →
    (t.machine k).session.map Session.heat = (s.machine k).session.map (fun y =>
      if k ∈ granted then .granted else if k ∈ withdrawn then .withdrawn else y.heat) ∧
    (t.link k).table.heat = match (s.machine k).session with
      | none => (s.link k).table.heat
      | some y => if (s.link k).state = .disabled then (s.link k).table.heat
        else if k ∈ granted then some (.grant y.id)
        else if k ∈ withdrawn then some (.hold y.id) else (s.link k).table.heat

/-- Shedding of the unit `f`, dryers and washers told apart by `s` (R150). -/
def State.shedding (s : State) (f : Feeder) : Feeder × List MachineNo := Feeder.shed (fun m => (s.machine m).cls == .dryer) f

/-- The unit `f` after shedding, a grant pass and the backlog's judgement, with its BACKLOG notice (R151, R152). -/
def State.rebalanced (s : State) (f : Feeder) : Feeder × List Notice := (s.shedding f).1.pass.1.judged

/-- A change that made the unit `f` has been taken as R151 and R152 say: shedding, a grant pass, the backlog judged, and the sessions and
nodes told. -/
def State.Rebalances (s t : State) (f : Feeder) : Prop :=
  t.feeder = (s.rebalanced f).1 ∧ s.HeatTold t [] (s.shedding f).2 (s.shedding f).1.pass.2

/-! ## Machines -/

/-- A machine record but for its session's heat state and the lamp last sent: what a grant pass or shedding can change. -/
def MachineRecord.butHeat (r : MachineRecord) : MachineRecord :=
  { r with lampSent := ⟨.off, false⟩, session := r.session.map fun x => { x with heat := .none } }

/-- A node link but for the heat and lamp commands in its table. -/
def Link.butHeat (l : Link) : Link := { l with table := { l.table with heat := none, lamp := none } }

/-- Machines not listed keep their records and their nodes' links, but for heat and lamps. The line, before it begins its next
exchange, has the exchange `x` and the pointer `p`. -/
def OthersKeptWith (but : List MachineNo) (x : Option Exchange) (p : MachineNo) (s t : State) : Prop :=
  (∀ k, k ∉ but → (t.machine k).butHeat = (s.machine k).butHeat) ∧
    ∃ c : LineController, t.line = c.begin ∧ c.exchange = x ∧ c.pointer = p ∧
      ∀ k, k ∉ but → (look c.links k).butHeat = (s.link k).butHeat

/-- Machines not listed keep their records and links, but for heat and lamps; the session engine keeps its items and its session
id counter, and the line its exchange and its pointer. -/
def OthersKept (but : List MachineNo) (s t : State) : Prop :=
  t.engine = { s.engine with machines := t.engine.machines } ∧ OthersKeptWith but s.line.exchange s.line.pointer s t

/-- The exchange on the line, its reply to be discarded if it is machine `m`'s (R37). -/
def discarding (m : MachineNo) (x : Option Exchange) : Option Exchange :=
  x.map fun y => if y.node = m then { y with discard := true } else y

/-- A machine record as R6 leaves it when its session `y` ends: SETTLING, the end cause in the session and as the last end cause, the
timers stopped, the id kept as the stopped id from ARMED and DELAYED, and SETTLE outstanding unless another request is. -/
def MachineRecord.settling (r : MachineRecord) (y : Session) (cause : EndCause) (after : AfterSettle) : MachineRecord :=
  { r with
    state := .settling
    session := some { y with endCause := some cause, heat := .none }
    afterSettle := after
    lastEnd := some cause
    outstanding := if r.outstanding = .none then .settle else r.outstanding
    stoppedId := if r.state = .armed ∨ r.state = .delayed then y.id else r.stoppedId
    armTimer := none
    minuteTimer := false
    graceTimer := none
    recoveryWindow := false }

/-- A session ends in `t` as R6 says: the machine's record, its heat released, and its SETTLE placed unless a request is
outstanding. -/
def State.Ends (s t : State) (m : MachineNo) (y : Session) (cause : EndCause) (after : AfterSettle) : Prop :=
  t.machine m = { (s.machine m).settling y cause after with lampSent := (t.machine m).lampSent } ∧
    t.feeder.holdsGrant m = false ∧ t.feeder.queued m = false ∧
      t.payment = if (s.machine m).outstanding = .none then
        { s.payment with queue := s.payment.queue ++ [.settle m y.id cause y.elapsed y.paused] } else s.payment

/-- Machine `m`'s heat is released: its claim is removed, a pass run and the backlog judged, with the notices `ns`, and the other machines
granted are told (R144, R149, R155). -/
def State.HeatReleased (s t : State) (m : MachineNo) (ns : List Notice) : Prop :=
  let g := s.feeder.released m
  t.feeder = { g.1.judged.1 with heaterFault := t.feeder.heaterFault } ∧ ns = g.1.judged.2 ∧ s.HeatTold t [m] [] g.2

/-- The answer to a heat request of load `load` for the session `id` of machine `m` of a room, the heat state being `h` then: GRANTED
with a grant and HEAT_GRANT, or WAITING at the NEW queue with HEAT_HOLD (R13). No command is queued for a DISABLED link. A request from a
machine with a grant or a queue entry is first its release (R143, R144). A load of 0 is granted at once, without a pass (R143). Any other
joins the NEW queue, a pass is run, and what the pass grants is what is granted; where no queue head fitted before, that is this load
where the room's NEW queue was empty and it fits, and nothing otherwise (R142). The backlog is judged last, with the notices `ns`, and
the other machines granted are told (R149, R155). -/
def State.HeatAnswered (s t : State) (m : MachineNo) (room : RoomNo) (load id : Nat) (h : HeatState) (ns : List Notice) : Prop :=
  let sent (c : HeatCommand) := (t.link m).state ≠ .disabled → (t.link m).table.heat = some c
  let f := (s.feeder.released m).1
  let x := look f.rooms room
  let leaves (g : Feeder) (granted : List MachineNo) :=
    t.feeder = { g.judged.1 with heaterFault := t.feeder.heaterFault } ∧ ns = g.judged.2 ∧
      s.HeatTold t [m] [] ((s.feeder.released m).2 ++ granted)
  (h = .granted ∧ ⟨m, load⟩ ∈ (look t.feeder.rooms room).grants ∧ sent (.grant id) ∨
    h = .waiting ∧ ⟨m, load⟩ ∈ (look t.feeder.rooms room).newQueue ∧ sent (.hold id)) ∧
  (load = 0 → h = .granted ∧
    leaves { f with rooms := f.rooms.set room.1 { x with grants := x.grants ++ [⟨m, 0⟩] }, order := f.order ++ [m] } []) ∧
  (0 < load →
    let g := Feeder.pass { f with rooms := f.rooms.set room.1 { x with newQueue := x.newQueue ++ [⟨m, load⟩] } }
    leaves g.1 g.2 ∧ (h = .granted ↔ m ∈ g.2) ∧
      (f.Drained → (h = .granted ↔
        x.newQueue = [] ∧ f.granted room + load ≤ x.capacity ∧ f.total + load ≤ f.effectiveLimit)))

/-- While the part is RECOVERING, some machine other than `m` still is, so that what `m` does leaves the start-up state alone
(R209). -/
def State.OtherRecovering (s : State) (m : MachineNo) : Prop :=
  s.startUp = .recovering → ∃ k, k ≠ m ∧ (s.machine k).state = .recovering

/-- The part is RECOVERING and machine `m` alone still is, so that the part is READY when `m` leaves RECOVERING (R209). -/
def State.LastRecovering (s : State) (m : MachineNo) : Prop :=
  s.startUp = .recovering ∧ (s.machine m).state = .recovering ∧ ∀ k, k ≠ m → (s.machine k).state ≠ .recovering

/-- The part is READY in `t` with no machine RECOVERING, and a START_UP notice of READY and the store state is among those offered
(R209). -/
def State.Readies (s t : State) : Prop :=
  t.startUp = .ready ∧ (∀ k, (t.machine k).state ≠ .recovering) ∧
    ∃ ns, .startUp .ready s.store.state ∈ ns ∧ t.host = (s.host.offered ns).transmit

/-! ## Leaks -/

/-- A level at a room's leak input is its onset level; with the edge select OFF none is (R172). -/
def RoomGuard.wet (g : RoomGuard) (high : Bool) : Bool := g.edge == .rising && high || g.edge == .falling && !high

/-- Machine `m` is a washer of one of the rooms listed. -/
def State.washerIn (s : State) (rooms : List RoomNo) (m : MachineNo) : Bool :=
  (s.machine m).assigned && (s.machine m).cls == .washer && rooms.contains (s.machine m).room

/-- The washers of the rooms listed. -/
def State.washersIn (s : State) (rooms : List RoomNo) : List MachineNo := (indexes 64).filter (s.washerIn rooms)

/-- Machine `m` is a washer of one of the rooms listed whose session a leak there ends (R173 step 3). -/
def State.leakEnds (s : State) (rooms : List RoomNo) (m : MachineNo) : Bool :=
  s.washerIn rooms m && [.armed, .delayed, .running, .stranded].contains (s.machine m).state

/-- The log has room for a record of each room listed, and the washers there settle plainly: none has an ending record without its
order, and a SETTLING one has parts. -/
def State.LeaksPlainly (s : State) (rooms : List RoomNo) : Prop :=
  s.supervisor.log.length + rooms.length ≤ 80 ∧ (s.startUp = .recovering → ∃ k, (s.machine k).state = .recovering) ∧
    ∀ m, s.washerIn rooms m = true → look s.supervisor.ending m = none ∧
      ((s.machine m).state = .settling → ∀ y, (s.machine m).session = some y → y.parts ≠ [])

/-- The supervisor `v` with the rooms listed closed: each has a LEAK record of severity ROOM as its closing record, and its valve CLOSED
(R173). -/
def State.shutting (s : State) (rooms : List RoomNo) (v : Supervisor) : Supervisor :=
  let number (r : RoomNo) := (v.counter + 1 + rooms.idxOf r) % 4294967296
  { v with
    rooms := Vector.ofFn fun r => if rooms.contains r then
      { look v.rooms r with closed := true, valveOpen := false, closing := some (number r) } else look v.rooms r
    log := v.log ++ rooms.map fun r =>
      ⟨number r, s.clock.day, s.clock.minute, .room r, .leak, .room, .none, none, false⟩
    counter := (v.counter + rooms.length) % 4294967296 }

/-- The LAMP that recomputing machine `m`'s source queues, its room being closed or not: its computed pattern where that differs from the
one last sent, and none without a source or under a DISABLED link (R34, R43, R45). -/
def State.newLamp (s : State) (m : MachineNo) (closed : Bool) : Option Lamp :=
  match lampSource (s.machine m) closed with
  | some x => if (s.link m).state = .disabled ∨ lampFor s.lamps x = (s.machine m).lampSent then none else some (lampFor s.lamps x)
  | none => none

/-- The source of every machine assigned to room `r`, closed or not, has been recomputed, and of machine records and links nothing else
has changed (R43, R45). -/
def State.Relamps (s t : State) (r : RoomNo) (closed : Bool) : Prop :=
  OthersKept [] s t ∧ ∀ m,
    let new := if (s.machine m).assigned = true ∧ (s.machine m).room = r then s.newLamp m closed else none
    t.machine m = { s.machine m with lampSent := new.getD (s.machine m).lampSent } ∧
      (t.link m).table = { (s.link m).table with lamp := new <|> (s.link m).table.lamp }

/-- Every machine assigned to one of the rooms listed, which are closed, has been sent the lamp its record in `t` calls for, by a LAMP that
stands in its table where the pattern last sent has changed (R43, R45). No LAMP is queued for a DISABLED link (R34). -/
def State.LampsFollow (s t : State) (rooms : List RoomNo) : Prop :=
  ∀ m, (s.machine m).assigned = true → (s.machine m).room ∈ rooms → (s.machine m).state ≠ .unassigned →
    (s.link m).state ≠ .disabled → let lamp := (t.machine m).lampSent
      some lamp = (lampSource (t.machine m) true).map (lampFor s.lamps) ∧
        ((s.machine m).lampSent ≠ lamp → (t.link m).table.lamp = some lamp)

/-- Open rooms close as R173 says, in the order listed, the supervisor being `v` but for that: each has a LEAK record of severity ROOM as
its closing record, and its valve CLOSED; every machine there has its lamp recomputed (R43); each washer there is shown OUT_OF_ORDER, an
authorisation is abandoned, and a session ends from ARMED, DELAYED, RUNNING and STRANDED with cause FAULT LEAK. -/
def State.RoomsClose (s t : State) (rooms : List RoomNo) (v : Supervisor) : Prop :=
  t.supervisor = s.shutting rooms v ∧ s.LampsFollow t rooms ∧
  t.payment = { s.payment with
    queue := s.payment.queue ++ rooms.flatMap fun r => (indexes 64).filterMap fun m =>
      ((s.machine m).session.filter fun y => s.leakEnds [r] m && y.parts != [] && (s.machine m).outstanding == .none).map
        fun y => .settle m y.id (.fault .leak) y.elapsed y.paused } ∧
  ∀ m, s.washerIn rooms m = true →
    let r := s.machine m
    let linked := (s.link m).state ≠ .disabled
    let lamp := (t.machine m).lampSent
    (linked → r.state ≠ .unassigned → lamp = s.lamps.outOfOrder ∧
      (r.lampSent ≠ lamp → (t.link m).table.lamp = some s.lamps.outOfOrder)) ∧
    (s.leakEnds rooms m = false → (t.machine m).butHeat = ({ r with
      abandoned := if r.state = .authorising then some (r.abandoned.getD .leak) else r.abandoned } : MachineRecord).butHeat) ∧
    (s.leakEnds rooms m = true → ∀ y, r.session = some y →
      t.machine m = (if y.parts ≠ [] then { r.settling y (.fault .leak) .done with lampSent := lamp }
        else { r.settling y (.fault .leak) .done with
          state := if r.doorOpened then .idle else .done
          session := none, outstanding := .none, doorOpened := false, lampSent := lamp }) ∧
      t.feeder.holdsGrant m = false ∧ t.feeder.queued m = false ∧
      (linked → r.state = .armed ∨ r.state = .delayed → (t.link m).table.arm = some (.disable y.id)) ∧
      (linked → r.state = .running ∨ r.state = .stranded → (t.link m).table.stop = some y.id))

/-! ## Vends

A vend's card, once resolved, is judged and then takes its account steps. Both follow a lookup's hit and a walk's end, so what they lead
to is said once, of a conclusion `leads` about the payment unit and the store port that result. -/

/-- What the account steps of context `c`'s vend `v` with payer `y` lead to, from the payment unit `base` and the store port `port`: with
a zero-priced programme PRICE and the slot write, left out while the store is not UP; otherwise the payer's lock and record, or the
refusal that keeps it from them (R100, R103, R105). -/
def State.Charges (s : State) (leads : PaymentUnit → StorePort → Prop) (base : PaymentUnit) (port : StorePort) (c : ContextNo)
    (q : PayRequest) (v : Vend) (stale : Bool) (y : Payer) : Prop :=
  let sets (g : Stage) : PaymentUnit := { base with contexts := base.contexts.set c.1 ⟨some q, g, stale⟩ }
  let refused (why : Reason) := leads (sets (.reply (.refused why) none)) port
  let goes (p : PaymentUnit) (a : Access) := leads p { port with queue := port.queue ++ [⟨.context c, a⟩] }
  let unlocked := ∀ e ∈ base.locks, e.account ≠ y.account
  let free := match v.cls with
    | .washer => (look s.tariff.washers v.programme).price = 0
    | .dryer => (look s.tariff.dryers v.programme).price = 0
  let price := s.tariff.priceOf s.clock s.feeder.demand.isSome
    ⟨v.cls, v.programme, v.count, y.attributes.peakExempt, 0, false⟩
  (free → (price = none → refused .programmeInvalid) ∧ ∀ z, price = some z → z.price = 0 ∧
    let part : Part := ⟨some y.account, y.source, 0, z.units, 0, 0, none, z.factor, z.band, z.surcharged⟩
    (s.storeUp = true → goes (sets (.holdSlot part)) (if v.extends_ then .slotAppend v.machine part
      else .writeSlot v.machine ⟨none, some ⟨v.id, v.programme,
        ((s.session v.machine).map Session.mode).getD .immediate, z.units, 0, 0, [⟨part, false⟩]⟩⟩)) ∧
    (s.storeUp = false → leads (sets (.reply (.success part false) none)) port)) ∧
  (¬ free →
    (unlocked → y.account ∈ base.damaged → refused .accountDamaged) ∧
    (unlocked → y.account ∉ base.damaged → s.storeUp = true →
      goes { sets (.holdRead y) with locks := base.locks ++ [⟨y.account, c, []⟩] } (.readAccount y.account)) ∧
    (unlocked → y.account ∉ base.damaged → s.storeUp = false → refused .storeUnavailable) ∧
    (¬ unlocked → leads { sets (.holdLock y) with locks := base.locks.map fun e =>
      if e.account = y.account then { e with waiters := e.waiters ++ [c] } else e } port))

/-- What context `c`'s vend leads to once its card has resolved: refused SUSPENDED with a hold, CLASS_NOT_ALLOWED at a class the
attributes bar, and otherwise its account steps from the store port `judged`; a refusal leaves the store port `port` (R59, R61). -/
def State.Judges (s : State) (leads : PaymentUnit → StorePort → Prop) (port judged : StorePort) (c : ContextNo) (q : PayRequest)
    (v : Vend) (stale hold : Bool) (a : AccountNo) (attrs : Attributes) : Prop :=
  let refused (why : Reason) := leads { s.payment with
    contexts := s.payment.contexts.set c.1 ⟨some q, .reply (.refused why) none, stale⟩ } port
  let barred := v.cls = .washer ∧ attrs.dryersOnly = true ∨ v.cls = .dryer ∧ attrs.washersOnly = true
  (hold = true → refused .suspended) ∧ (hold = false → barred → refused .classNotAllowed) ∧
    (hold = false → ¬ barred → s.Charges leads s.payment judged c q v stale ⟨a, attrs, .directory⟩)

/-- The cache `d` is `c` with a resolved card's entry installed in its set: over the entry of its path, else in the lowest enabled way
that is invalid, else over the way its replacement names; the way is then the set's most recent, and ROUND_ROBIN moves the pointer past
it. With no way enabled nothing is installed (R75, R80 to R82). -/
def Cache.Installs (c d : Cache) (e : CacheEntry) : Prop :=
  let k := CardPath.set e.path
  let t := look c.sets k
  let on (w : Fin 4) := look c.mask w = true
  let place (w pointer : Fin 4) := d = { c with
    sets := c.sets.set k.1 ⟨t.ways.set w.1 (some e), t.order.filter (· != w) ++ [w], pointer⟩ }
  let bare (w : Fin 4) := on w ∧ look t.ways w = none
  ((∀ w, ¬ on w) → d = c) ∧
    ((∃ w, on w) →
      (∀ w, t.find e.path = some w → place w t.pointer) ∧
      (t.find e.path = none →
        (∀ w, bare w → (∀ j, j < w → ¬ bare j) → place w t.pointer) ∧
        ((∀ w, ¬ bare w) →
          (c.replacement = .lru → ∀ w, t.order.find? (fun j => look c.mask j) = some w → place w t.pointer) ∧
          (c.replacement = .roundRobin → ∀ w, on w →
            (∀ j, on j → (j - t.pointer).1 < (w - t.pointer).1 → False) → place w (w + 1)))))

/-! ## Settlements and deferred entries

What a settlement or a deferred entry leads to as it goes on is said once, of a conclusion `leads` about the payment unit, the store port
and the fault supervisor that result; the supervisor changes by the notes of the parts that cannot be written. -/

/-- The supervisor `v` with a STORE_DAMAGED note naming a record, or as it was with that rule disabled (R94, R111). -/
def State.noted (s : State) (v : Supervisor) (x : Reference) : Supervisor :=
  let n := (v.counter + 1) % 4294967296
  if look v.enables 6 = false then v else { v with
    log := v.log ++ [⟨n, s.clock.day, s.clock.minute, .part, .storeDamaged, .note, x, none, false⟩], counter := n }

/-- The locks with context `c` a waiter for that of account `b` (R98). -/
def waitingFor (locks : List LockEntry) (b : AccountNo) (c : ContextNo) : List LockEntry :=
  locks.map fun e => if e.account = b then { e with waiters := e.waiters ++ [c] } else e

/-- The damaged list with an account joined at its tail; a full list loses its oldest (R94). -/
def PaymentUnit.joined (p : PaymentUnit) (b : AccountNo) : PaymentUnit := { p with
  damaged := if b ∈ p.damaged then p.damaged else (if p.damaged.length < 16 then p.damaged else p.damaged.tail) ++ [b] }

/-- What the settlement `j` of context `c` leads to as it goes on with the parts `todo`, those before them settled in `done`: a part
without a payer or a hold captures 0; another's account is read once its lock is held, or the lock awaited; a damaged one's charge is
computed, noted, and the next part taken; after the last the slot is written with the code of an after-settle state LOCKED_OUT, or the
completion handed on where the slot holds no copy of the session (R108, R109, R111). -/
def State.SettlesOn (s : State) (leads : PaymentUnit → StorePort → Supervisor → Prop) (base : PaymentUnit) (port : StorePort)
    (c : ContextNo) (q : PayRequest) (stale : Bool) (j : SettleJob) : Supervisor → List Part → List Part → Prop
  | v, done, [] =>
    let sets (g : Stage) : PaymentUnit := { base with contexts := base.contexts.set c.1 ⟨some q, g, stale⟩ }
    let code := match (s.machine j.machine).afterSettle with | .lockedOut k => some k | _ => none
    (j.writesSlot = true → leads (sets (.settleSlot { j with todo := [], settled := done } code))
      { port with queue := port.queue ++ [⟨.context c, .writeSlot j.machine ⟨code, none⟩⟩] } v) ∧
    (j.writesSlot = false → leads (sets (.reply (.settled done none) none)) port v)
  | v, done, p :: rest =>
    let sets (g : Stage) (locks : List LockEntry) : PaymentUnit :=
      { base with contexts := base.contexts.set c.1 ⟨some q, g, stale⟩, locks := locks }
    let here : SettleJob := { j with todo := p :: rest, settled := done }
    let charged (n : Nat) : List Part := done ++ [{ p with charge := some n }]
    (p.payer = none ∨ p.hold = 0 → s.SettlesOn leads base port c q stale j v (charged 0) rest) ∧
    ∀ b, p.payer = some b → 0 < p.hold →
      let unlocked := ∀ e ∈ base.locks, e.account ≠ b
      (unlocked → b ∉ base.damaged → leads (sets (.settleRead here) (base.locks ++ [⟨b, c, []⟩]))
        { port with queue := port.queue ++ [⟨.context c, .readAccount b⟩] } v) ∧
      (unlocked → b ∈ base.damaged → s.SettlesOn leads base port c q stale j (s.noted v (.account b))
        (charged (s.tariff.charge ⟨j.cls, j.programme, j.cause, j.elapsed, j.paused, j.rules⟩ p)) rest) ∧
      (¬ unlocked → leads (sets (.settleLock here) (waitingFor base.locks b c)) port v)

/-- What the store port's supply of the payment request queue leads to: the oldest entries not offered are, until 7 DEFERRED requests
wait, ahead of every other kind (R96, R186). -/
def Supplies (leads : PaymentUnit → StorePort → Prop) (p : PaymentUnit) (x : StorePort) : Prop :=
  let new := (x.deferred.filter fun d => !d.offered).take (7 - (p.queue.filter PayRequest.isDeferred).length)
  (x.deferred.map Deferred.key).Nodup → leads
    { p with queue := p.queue.takeWhile PayRequest.isDeferred ++ (new.map fun d => PayRequest.deferred d.key) ++
      p.queue.dropWhile PayRequest.isDeferred }
    { x with deferred := x.deferred.map fun d => { d with offered := d.offered || new.contains d } }

/-- What the end of entry `key` leads to, of a conclusion that takes the free index as well: it leaves the list, some context that keeps
an entry in REPLY places it, and the next are offered (R113, R185). -/
def State.EntryLeaves (s : State) (leads : PaymentUnit → StorePort → Nat → Prop) (p : PaymentUnit) (x : StorePort) (key : Nat) :
    Prop :=
  let left := x.deferred.filter fun d => d.key != key
  let keeps (k : ContextNo) (h : Handed) (e : Deferred) : Prop := (look p.contexts k).stage = .reply h (some e)
  ((∀ k h e, ¬ keeps k h e) → Supplies (leads · · s.freeIndex) p { x with deferred := left }) ∧
  ((∃ k h e, keeps k h e) → left.length < 64 → ∃ k h e, keeps k h e ∧
    Supplies (leads · · (s.freeIndex + 1))
      { p with contexts := p.contexts.set k.1 { look p.contexts k with stage := .reply h none } }
      { x with deferred := left ++ [{ e with key := x.nextKey }], nextKey := x.nextKey + 1 })

/-- The entry with a part left behind, written or passed over (R113). -/
def Deferred.past (d : Deferred) (p : DeferredPart) : Deferred :=
  { d with parts := d.parts.map fun x => if x.number = p.number then { x with written := true } else x }

/-- The store port with a part of entry `key` left behind in the list. -/
def StorePort.past (x : StorePort) (key : Nat) (p : DeferredPart) : StorePort :=
  { x with deferred := x.deferred.map fun e => if e.key = key then e.past p else e }

/-- What a DEFERRED request of context `c` leads to as its entry `d` goes on, `n` bounding the parts it passes over: its first part not
written has its account read once the lock is held, or the lock is awaited; one with a damaged payer is noted and passed over, marked in
the list too; after the last the slot removal owed is made, or the entry is done (R113). -/
def State.EntryGoesOn (s : State) (leads : PaymentUnit → StorePort → Supervisor → Nat → Prop) (base : PaymentUnit) (c : ContextNo)
    (q : PayRequest) (stale : Bool) : Nat → StorePort → Supervisor → Deferred → Prop
  | n, port, v, d =>
    let sets (g : Stage) (locks : List LockEntry) : PaymentUnit :=
      { base with contexts := base.contexts.set c.1 ⟨some q, g, stale⟩, locks := locks }
    let issuing (a : Access) : StorePort := { port with queue := port.queue ++ [⟨.context c, a⟩] }
    (∀ p, d.parts.find? (fun p => !p.written && p.payer.isSome) = some p → ∀ b, p.payer = some b →
      let unlocked := ∀ e ∈ base.locks, e.account ≠ b
      (unlocked → b ∉ base.damaged →
        leads (sets (.deferredRead d) (base.locks ++ [⟨b, c, []⟩])) (issuing (.readAccount b)) v s.freeIndex) ∧
      (unlocked → b ∈ base.damaged → match n with
        | 0 => True
        | k + 1 => s.EntryGoesOn leads base c q stale k
            (port.past d.key p) (s.noted v (.account b)) (d.past p)) ∧
      (¬ unlocked → leads (sets (.deferredLock d) (waitingFor base.locks b c)) port v s.freeIndex)) ∧
    ((∀ p ∈ d.parts, p.written = true ∨ p.payer = none) →
      (d.slotOwed = true → (∀ p, d.parts.find? DeferredPart.release = some p →
          leads (sets (.deferredSlot d) base.locks) (issuing (.slotRemovePart d.machine d.id p)) v s.freeIndex) ∧
        ((∀ p ∈ d.parts, p.release = false) →
          leads (sets (.deferredSlot d) base.locks) (issuing (.slotRemove d.machine d.id)) v s.freeIndex)) ∧
      (d.slotOwed = false → s.EntryLeaves (fun p x k => leads p x v k)
        { base with contexts := base.contexts.set c.1 Context.initial } port d.key))

/-! ## Failing back

What stands in the store port's queue when the store goes DOWN fails back, first to last (R182). What each transaction's failing leads to
is said once, of a conclusion `leads` about the state that results and the transactions that a lock given up lets other contexts issue:
those fail back in their turn, ahead of the rest (R98, R183). -/

/-- The lock of account `b` is given up: without waiters its entry goes, and otherwise the first waiter holds it and goes on to its read,
the account being on no damaged list (R98). -/
def State.LockPasses (s : State) (leads : State → List Transaction → Prop) (b : AccountNo) : Prop :=
  ∀ before e after, s.payment.locks = before ++ e :: after → e.account = b → (∀ x ∈ before ++ after, x.account ≠ b) →
    (e.waiters = [] → leads { s with payment := { s.payment with locks := before ++ after } } []) ∧
    ∀ w rest, e.waiters = w :: rest → b ∉ s.payment.damaged →
      let reads (a : AccountNo) (g : Stage) := leads
        { s with payment := { s.payment with
          contexts := s.payment.contexts.set w.1 { s.context w with stage := g }
          locks := before ++ { e with holder := w, waiters := rest } :: after } }
        [⟨.context w, .readAccount a⟩]
      let waits (g : Stage) := (s.context w).stage = g
      let asked (q : PayRequest) := (s.context w).request = some q
      (∀ y, waits (.holdLock y) → y.account = b → reads b (.holdRead y)) ∧
      (∀ j z later, waits (.settleLock j) → j.todo = z :: later → z.payer = some b → reads b (.settleRead j)) ∧
      (∀ m id n p x, waits .releaseLock → asked (.partRelease m id n p x) → p.payer = some b → reads b .releaseRead) ∧
      (∀ d p, waits (.deferredLock d) → d.parts.find? (fun p => !p.written && p.payer.isSome) = some p → p.payer = some b →
        reads b (.deferredRead d)) ∧
      (∀ j a attrs h, waits (.dirLock j [b]) → j.write = some (.account a attrs h) → a ∉ s.payment.damaged →
        reads a (.dirAccount { j with locks := j.locks ++ [b] })) ∧
      ∀ op, waits .accountLock → asked (.account b op) → (∀ st z o g v d, op ≠ .setAll st z o g v d) → reads b .accountRead

/-- The locks of some accounts are given up, first to last, what the contexts let go on issue in that order too. -/
def State.LocksPass (leads : State → List Transaction → Prop) : List AccountNo → List Transaction → State → Prop
  | [], issued, s => leads s issued
  | b :: rest, issued, s => s.LockPasses (fun t more => State.LocksPass leads rest (issued ++ more) t) b

/-- What the failing back of a transaction of context `c` leads to, by the request and the step of the context. A walk's vend, and one at
an account step, is refused STORE_UNAVAILABLE; a slot write's leaves a release entry, or a success without it for a part with no account
step (R60, R103, R105); a probe reports outcome 4 (R74); a settlement computes the charges left and completes, with an entry for what is
owed (R110); a PART_RELEASE completes with a release entry (R112), and each waits in REPLY with its entry where the list is full (R185); a
DEFERRED entry is no longer offered (R113); a directory or an account request is replied STORE_UNAVAILABLE, the pages of writes not begun
returned where the target marker update failed (R68, R114). Every lock held is given up (R98). -/
def State.ContextFails (s : State) (leads : State → List Transaction → Prop) (c : ContextNo) : Prop :=
  ∀ q, (s.context c).request = some q →
    let g := (s.context c).stage
    let alone (t : State) := leads t []
    let sets (y : Context) : State := { s with payment := { s.payment with contexts := s.payment.contexts.set c.1 y } }
    let hands (h : Handed) (e : Option Deferred) : State := sets ⟨some q, .reply h e, (s.context c).stale⟩
    let answers (t : State) (st : Status) (bytes : List Byte) (next : State → Prop) := ∀ f more, s.host.buffer = f :: more →
      next { t with host := { s.host with ready := some (replyFrame f st bytes) } }
    let unavailable (locks : List AccountNo) (d : DirectoryUnit) :=
      answers { sets Context.initial with directory := d } .storeUnavailable [] (State.LocksPass leads locks [])
    let defers (h : Handed) (e : Deferred) (next : State → Prop) : Prop :=
      (s.store.deferred.length < 64 → next { hands h none with store := { s.store with
        deferred := s.store.deferred ++ [{ e with key := s.store.nextKey }], nextKey := s.store.nextKey + 1 } }) ∧
      (64 ≤ s.store.deferred.length → next (hands h (some e)))
    let owing (z : Part) : Prop := z.payer ≠ none ∧ 0 < z.hold
    let charged (j : SettleJob) := j.todo.map fun z => { z with charge := some (if z.payer ≠ none ∧ 0 < z.hold then
      s.tariff.charge ⟨j.cls, j.programme, j.cause, j.elapsed, j.paused, j.rules⟩ z else 0) }
    let settles (j : SettleJob) (slotLost : Prop) (next : State → Prop) : Prop :=
      let h : Handed := .settled (j.settled ++ charged j) none
      (¬ slotLost → (∀ z ∈ j.todo, ¬ owing z) → next (hands h none)) ∧
      (slotLost ∨ (∃ z ∈ j.todo, owing z) →
        defers h ⟨0, j.machine, j.id, deferParts (j.settled.length + 1) (charged j), true, false⟩ next)
    let returned (key : Nat) : State := { sets Context.initial with store := { s.store with
      deferred := s.store.deferred.map fun x => if x.key = key then { x with offered := false } else x } }
    let vend : Prop := match q with
      | .authorise _ _ _ _ _ _ | .extend _ _ _ _ _ => True
      | _ => False
    (vend → ∀ w, g = .walk w → alone (hands (.refused .storeUnavailable) none)) ∧
    (∀ card cls, q = .probe card cls → ∀ w, g = .walk w → answers (sets Context.initial) .ok
      ([u8 4, u8 0, u8 0, u8 0, u16 0xFFFF, u8 0, u8 0, u8 0, [0#8, 0#8, 0#8], u8 0].flatten) alone) ∧
    (vend → ∀ y, g = .holdRead y ∨ (∃ p, g = .holdWrite y p) →
      State.LocksPass leads [y.account] [] (hands (.refused .storeUnavailable) none)) ∧
    (∀ m id y, ((∃ cls card p n, q = .authorise m cls card p n id) ∨ ∃ card p n, q = .extend m card p n id) →
      g = .holdSlot y →
        (owing y → defers (.refused .storeUnavailable) ⟨0, m, id,
          [⟨(match s.session m with | some x => x.parts.length | none => 0) + 1, y.payer, y.hold, 0, y.units, true, false, false⟩],
          false, false⟩ alone) ∧
        (¬ owing y → alone (hands (.success y false) none))) ∧
    (∀ m id cause e p rules, q = .settle m id cause e p → g = .settleSlotRead rules → ∀ x, s.session m = some x →
      settles ⟨m, id, cause, e, p, (s.machine m).cls, x.programme, rules, true, x.parts, []⟩ False alone) ∧
    (∀ j, g = .settleMark j → settles j False alone) ∧
    (∀ j z later b, j.todo = z :: later → z.payer = some b → g = .settleRead j ∨ (∃ n, g = .settleWrite j n) →
      settles j False (State.LocksPass leads [b] [])) ∧
    (∀ j code, g = .settleSlot j code → settles j True alone) ∧
    (∀ m id n p w, q = .partRelease m id n p w →
      let entry (written : Bool) : Deferred := ⟨0, m, id, [⟨n, p.payer, p.hold, 0, p.units, true, written, w⟩], true, false⟩
      let passed := p.payer = none ∨ p.hold = 0
      (g = .releaseMark → defers .released (entry passed) alone) ∧
      (∀ b, p.payer = some b → g = .releaseRead ∨ g = .releaseWrite →
        defers .released (entry passed) (State.LocksPass leads [b] [])) ∧
      (g = .releaseSlot → defers .released (entry true) alone)) ∧
    (∀ key d, q = .deferred key →
      (∀ p b, d.parts.find? (fun p => !p.written && p.payer.isSome) = some p → p.payer = some b →
        g = .deferredRead d ∨ g = .deferredWrite d → State.LocksPass leads [b] [] (returned d.key)) ∧
      (g = .deferredSlot d → alone (returned d.key))) ∧
    (∀ path new, q = .directory path new →
      (∀ j, g = .dirRead j → unavailable [] s.directory) ∧
      (∀ j, g = .dirAccount j → unavailable j.locks s.directory) ∧
      (∀ x w later, g = .dirWrite x → x.writes = w :: later →
        let marker := w.effect = .plain ∧ match w.access with | .updateCard _ _ _ => True | _ => False
        (marker → unavailable x.locks (s.directory.returnPages later)) ∧ (¬ marker → unavailable x.locks s.directory))) ∧
    ∀ b op, q = .account b op → g = .accountRead ∨ (∃ y n, g = .accountWrite y n) → unavailable [b] s.directory

/-- What the failing back of a transaction leads to, by its issuer: a day update is dropped, a refresh or a lockout slot update marked
again, a CONFIG_SAVE replied STORE_UNAVAILABLE, and a context's fails by its step (R180 to R182, R206). -/
def State.IssuerFails (s : State) (leads : State → List Transaction → Prop) : Issuer → Prop
  | .dayList => leads s []
  | .refresher m false => leads { s with store := { s.store with refreshMarks := s.store.refreshMarks.set m.1 true } } []
  | .refresher m true => leads { s with store := { s.store with lockoutMarks := s.store.lockoutMarks.set m.1 true } } []
  | .configWriter => ∀ f more, s.host.buffer = f :: more → leads { s with
      store := { s.store with saving := none }
      host := { s.host with ready := some (replyFrame f .storeUnavailable []) } } []
  | .context c => s.ContextFails leads c
  | .probe | .scanner => True

/-- What the failing back of the transactions listed leads to, first to last, those that a failing lets other contexts issue ahead of the
rest; said where fewer than `n` transactions fail in all. -/
def State.AllFail (leads : State → Prop) : Nat → List Transaction → State → Prop
  | 0, _, _ => True
  | _ + 1, [], s => leads s
  | n + 1, t :: rest, s => s.IssuerFails (fun u issued => State.AllFail leads n (issued ++ rest) u) t.issuer

/-! ## The store port's own issuers -/

/-- A day update of the write-back list is queued or in progress (R180). -/
def StorePort.DayQueued (p : StorePort) : Prop := ∃ t ∈ p.queue, t.issuer = .dayList

/-- The slot refresher has a transaction queued or in progress (R180). -/
def StorePort.RefresherQueued (p : StorePort) : Prop := ∃ t ∈ p.queue, ∃ m lockout, t.issuer = .refresher m lockout

/-- Machine `m` is the first at or after the refresher's pointer, counting upward with 63 followed by 0, that holds a mark (R181). -/
def StorePort.NextMarked (p : StorePort) (marks : Vector Bool 64) (m : MachineNo) : Prop :=
  look marks m = true ∧ ∀ k, (k - p.pointer).1 < (m - p.pointer).1 → look marks k = false

/-- The store port `p` once the write-back list has issued: with no day update of the list in the queue, its oldest has left the list and
joined the queue (R180). -/
def StorePort.DayIssued (p q : StorePort) : Prop :=
  (p.dayList = [] ∨ p.DayQueued → q = p) ∧
    ∀ u later, p.dayList = u :: later → ¬ p.DayQueued →
      q = { p with dayList := later, queue := p.queue ++ [⟨.dayList, .dayUpdate u⟩] }

/-- The store port `p` once the refresher has issued: with none of its transactions in the queue, the next machine with a lockout mark, or
where no machine has one the next with a refresh mark, has lost that mark, its slot's update has joined the queue with what the machine
record holds, and the pointer is the machine after it (R181). A refresh mark without a session issues an update that matches no copy. -/
def State.RefreshIssued (s : State) (p q : StorePort) : Prop :=
  let marked (lockout refresh : Vector Bool 64) (m : MachineNo) (byLockout : Bool) (a : Access) : Prop :=
    q = { p with
      lockoutMarks := lockout, refreshMarks := refresh, pointer := m + 1, queue := p.queue ++ [⟨.refresher m byLockout, a⟩] }
  (p.RefresherQueued → q = p) ∧
    (¬ p.RefresherQueued →
      (∀ m, p.NextMarked p.lockoutMarks m →
        marked (p.lockoutMarks.set m.1 false) p.refreshMarks m true (.slotLockout m (s.machine m).lockout)) ∧
      ((∀ k, look p.lockoutMarks k = false) →
        (∀ m, p.NextMarked p.refreshMarks m →
          marked p.lockoutMarks (p.refreshMarks.set m.1 false) m false (match (s.machine m).session with
            | some x => .slotRefresh m x.id x.elapsed x.paused
            | none => .slotRefresh m 0 0 0)) ∧
        ((∀ k, look p.refreshMarks k = false) → q = p)))

/-! ## The store's records -/

/-- The record of that name reads in `g` as it does in `f`. -/
def Fram.SameAt (f g : Fram) : RecordName → Prop
  | .segment 0 => g.segmentOne = f.segmentOne
  | .segment 1 => g.segmentTwo = f.segmentTwo
  | .segment 2 => g.segmentThree = f.segmentThree
  | .segment 3 => g.segmentFour = f.segmentFour
  | .segment _ => True
  | .floors => g.floorTable = f.floorTable
  | .flatPage k => ∀ p : FlatPageNo, p.1 = k → g.flatPage p = f.flatPage p
  | .cardPage k => ∀ p : CardPageNo, p.1 = k → g.cardPage p = f.cardPage p
  | .account k => ∀ a : AccountNo, a.1 = k → g.account a = f.account a
  | .slot k => ∀ m : MachineNo, m.1 = k → g.slot m = f.slot m

/-- The record of that name fails its check. -/
def Fram.FailsAt (g : Fram) : RecordName → Prop
  | .segment 0 => g.segmentOne = none
  | .segment 1 => g.segmentTwo = none
  | .segment 2 => g.segmentThree = none
  | .segment 3 => g.segmentFour = none
  | .segment _ => True
  | .floors => g.floorTable = none
  | .flatPage k => ∀ p : FlatPageNo, p.1 = k → g.flatPage p = none
  | .cardPage k => ∀ p : CardPageNo, p.1 = k → g.cardPage p = none
  | .account k => ∀ a : AccountNo, a.1 = k → g.account a = none
  | .slot k => ∀ m : MachineNo, m.1 = k → g.slot m = none

/-- The session copy with id `id` that slot `m` holds, if it does: what a conditional update of the slot looks for (R179). -/
def Fram.copyWith (f : Fram) (m : MachineNo) (id : Nat) : Option SlotCopy :=
  ((f.slot m).bind Slot.copy).filter fun c => c.id == id

/-- The card page with the ACCOUNT descriptor a day update looks for, its path followed through the stored tables (R61). -/
def Fram.dayTarget (f : Fram) (u : DayUpdate) : Option CardPageNo :=
  (f.cardPageOf u.path).join.filter fun p => (f.cardPage p).any fun c =>
    match look c u.path.ordinal with | .account a _ _ _ _ => a == u.account | _ => false

/-- The record that an access writes in the store `f`, if it writes one: a whole-record write and a field update the record they name, a
conditional update only where its condition holds (R179). The removal of a part that the slot was never given writes nothing (R113). -/
def Fram.target (f : Fram) : Access → Option RecordName
  | .writeOne _ => some (.segment 0)
  | .writeTwo _ => some (.segment 1)
  | .writeThree _ => some (.segment 2)
  | .writeFour _ => some (.segment 3)
  | .writeFloors _ | .updateFloor _ _ => some .floors
  | .writeFlatPage p _ | .updateFlat p _ _ => some (.flatPage p.1)
  | .writeCardPage p _ | .updateCard p _ _ => some (.cardPage p.1)
  | .dayUpdate u => (f.dayTarget u).map fun p => .cardPage p.1
  | .writeAccount a _ => some (.account a.1)
  | .writeSlot m _ | .slotLockout m _ | .slotAppend m _ | .slotMarkAll m | .slotMarkPart m _ | .slotParts m _ _ => some (.slot m.1)
  | .slotRemove m id | .slotRefresh m id _ _ => (f.copyWith m id).map fun _ => .slot m.1
  | .slotRemovePart m id p => if p.inSlot = true then (f.copyWith m id).map fun _ => .slot m.1 else none
  | .readSegment _ | .readFloors | .readFlatPage _ | .readCardPage _ | .readAccount _ | .readSlot _ | .status => none

/-- A record read completes with the record, or DAMAGED where its check fails, and changes nothing (R178). -/
def Fram.Reads {α : Type} (f : Fram) (a : Access) (r : Option α) (c : α → Result) : Prop :=
  (∀ x, r = some x → f.perform a = (c x, f)) ∧ (r = none → f.perform a = (.damaged, f))

/-- A whole-record write completes OK whatever stood there, and the record reads back as written (R178, R179). -/
def Fram.Writes {α : Type} (f : Fram) (a : Access) (r : Fram → Option α) (x : α) : Prop :=
  (f.perform a).1 = .ok ∧ r (f.perform a).2 = some x

/-- A field update of the record that `r` reads: DAMAGED, and nothing written, where its check fails; otherwise it completes OK and the
record reads back as one that `g` relates to what it was (R178, R179). -/
def Fram.Updates {α : Type} (f : Fram) (a : Access) (r : Fram → Option α) (g : α → α → Prop) : Prop :=
  (r f = none → f.perform a = (.damaged, f)) ∧
    ∀ x, r f = some x → (f.perform a).1 = .ok ∧ ∃ y, r (f.perform a).2 = some y ∧ g x y

/-- A slot with its session copy changed as `g` relates the two, and a slot with none as it was. -/
def Slot.CopyTo (g : SlotCopy → SlotCopy → Prop) (x y : Slot) : Prop :=
  (x.copy = none → y = x) ∧ ∀ c, x.copy = some c → ∃ d, g c d ∧ y = { x with copy := some d }

/-- A conditional update of slot `m`, made where its session copy has id `id`: DAMAGED, and nothing written, where the slot's check fails;
otherwise it completes OK, with nothing written where the condition does not hold (R178, R179). -/
def Fram.UpdatesIf (f : Fram) (a : Access) (m : MachineNo) (id : Nat) (g : SlotCopy → Option SlotCopy → Prop) : Prop :=
  (f.slot m = none → f.perform a = (.damaged, f)) ∧
    ∀ x, f.slot m = some x →
      (∀ c, x.copy = some c → c.id = id → (f.perform a).1 = .ok ∧
        ∃ d, g c d ∧ (f.perform a).2.slot m = some { x with copy := d }) ∧
      ((∀ c, x.copy = some c → c.id ≠ id) → f.perform a = (.ok, f))

/-- The released part with that payer, H and units is the part `y` of the list `before ++ y :: after`: the last such part. The model's
choice (log entry 49). -/
def LastReleased (payer : Option AccountNo) (hold units : Nat) (xs before : List SlotPart) (y : SlotPart) (after : List SlotPart) :
    Prop :=
  let is (z : SlotPart) : Prop := z.part.payer = payer ∧ z.part.hold = hold ∧ z.part.units = units
  xs = before ++ y :: after ∧ is y ∧ ∀ z ∈ after, ¬ is z

/-! ## Detached parts -/

/-- The parts of the slots listed, slot by slot and in part order. -/
def partsOf (xs : List (MachineNo × Slot)) : List SlotPart :=
  xs.flatMap fun y => match y.2.copy with | some c => c.parts | none => []

/-- The sum of H over the parts of the slots listed that name account `a` (R189). -/
def heldIn (a : AccountNo) (xs : List (MachineNo × Slot)) : Nat :=
  ((partsOf xs).filterMap fun p => if p.part.payer = some a then some p.part.hold else none).sum

/-- The slots `ys` are `xs` after R190 has detached parts from an account `a` that holds `held`. Part by part in the order listed, one
naming the account and bearing the capture mark loses its payer while the sum of `xs`, less the H of those detached before it, still
exceeds `held`; every other part, and all else of the slots, stays. -/
def Detached (a : AccountNo) (held : Nat) (xs ys : List (MachineNo × Slot)) : Prop :=
  let due (p : SlotPart) : Bool := p.part.payer == some a && p.mark
  let bare (z : MachineNo × Slot) := (z.1, z.2.lockout, z.2.copy.map fun c => (c.parts.length, { c with parts := [] }))
  ys.map bare = xs.map bare ∧
    ∀ before p after, partsOf xs = before ++ p :: after →
      (partsOf ys)[before.length]? = some (if due p = true ∧ held + ((before.filter due).map fun z => z.part.hold).sum < heldIn a xs
        then { p with part := { p.part with payer := none } } else p)

/-! ## Card-level directory writes -/

/-- What phases 2 and 3 lead to for a card-level write of `new` at `p`, its reads and locks in `j` and its account judged: a reply, or
the directory unit with the pages taken and the writes to make, in their order, with the counts that change (R63 to R66, R68, R71). -/
def DirectoryUnit.Plans (d : DirectoryUnit) (replies : Status → Prop) (writes : DirectoryUnit → DirWrites → Prop) (p : CardPath)
    (new : NewDescriptor) (j : DirJob) : Prop :=
  let old : CardDescriptor := match j.card with | some (_, y) => look y p.ordinal | none => .invalid
  let loses := match old with | .account b _ _ _ _ => some b | _ => none
  let gains := match new with | .account a _ _ => some a | _ => none
  let marked := match old with | .account _ _ _ m _ => m | _ => false
  let plan (ws : List DirWrite) (flats : List FlatPageNo) (cards : List CardPageNo) : Prop :=
    writes { d with freeFlats := flats, freeCards := cards }
      ⟨.card p, ws, if gains = loses then none else loses, if gains = loses then none else gains, marked, j.locks⟩
  let hold := match j.floor with | some f => f.hold | none => false
  let stores (desc : CardDescriptor) (marker : List DirWrite) : Prop :=
    let page (k : CardPageNo) : DirWrite :=
      ⟨.writeCardPage k ((Vector.replicate 4 CardDescriptor.invalid).set p.ordinal.1 desc), .card p, .plain⟩
    (∀ x, j.card = some x →
      plan (marker ++ [⟨.updateCard x.1 p.ordinal desc, .card p, .card⟩]) d.freeFlats d.freeCards) ∧
    (j.card = none → ∀ x, j.flat = some x →
      (d.freeCards = [] → replies .full) ∧
      ∀ k, d.freeCards.head? = some k → plan (marker ++ [page k,
        ⟨.updateFlat x.1 p.flat ⟨some k, (look x.2 p.flat).hold⟩, .flat p.floor p.flat, .card⟩]) d.freeFlats d.freeCards.tail) ∧
    (j.card = none → j.flat = none →
      (d.freeCards = [] ∨ d.freeFlats = [] → replies .full) ∧
      ∀ k, d.freeCards.head? = some k → ∀ f, d.freeFlats.head? = some f → plan (marker ++ [page k,
        ⟨.writeFlatPage f ((Vector.replicate 16 ⟨none, false⟩).set p.flat.1 ⟨some k, false⟩), .flat p.floor p.flat, .plain⟩,
        ⟨.updateFloor p.floor ⟨some f, hold⟩, .floor p.floor, .card⟩]) d.freeFlats.tail d.freeCards.tail)
  (∀ a attrs h, new = .account a attrs h → stores (match old with
    | .account b _ _ m day => .account a attrs h m (if a = b then day else 0)
    | _ => .account a attrs h false 0) []) ∧
  (∀ t h, new = .indirect t h → stores (.indirect t h) (match j.targetCard with
    | some (g, y) => match look y t.ordinal with
      | .account a attrs z false day => [⟨.updateCard g t.ordinal (.account a attrs z true day), .card t, .plain⟩]
      | _ => []
    | none => [])) ∧
  (new = .invalid →
    (old = .invalid → replies .ok) ∧
    (old ≠ .invalid → ∀ x, j.card = some x → ∀ y, j.flat = some y →
      let card : DirWrite := ⟨.updateCard x.1 p.ordinal .invalid, .card p, .card⟩
      let flat : DirWrite :=
        ⟨.updateFlat y.1 p.flat ⟨none, (look y.2 p.flat).hold⟩, .flat p.floor p.flat, .freeCardPage x.1⟩
      let floor : DirWrite := ⟨.updateFloor p.floor ⟨none, hold⟩, .floor p.floor, .freeFlatPage y.1⟩
      let lone := ∀ k, k ≠ p.ordinal → look x.2 k = .invalid
      let last := ∀ k, k ≠ p.flat → (look y.2 k).page = none
      (¬ lone → plan [card] d.freeFlats d.freeCards) ∧ (lone → ¬ last → plan [card, flat] d.freeFlats d.freeCards) ∧
        (lone → last → plan [card, flat, floor] d.freeFlats d.freeCards)))

/-! ## Invariants -/

/-- Nothing that could go on waits: the transmitter is free only with no reply ready and no notice waiting (R199), the line
only when no node is due (R41), the cache array only with no lookup and no sweep outstanding (R87); and while the store is
not UP nothing but the probe is in its queue (R183). -/
def State.Quiet (s : State) : Prop :=
  (s.host.sending = none → s.host.ready = none ∧ s.host.notices = []) ∧
    (s.line.exchange = none → s.line.choose = none) ∧ (s.cache.access = none → s.cache.choose = none) ∧ s.Settled ∧
    (s.storeUp = true → s.scan.at_ = .off →
      (s.store.dayList = [] ∨ s.store.DayQueued) ∧
        ((∀ m, look s.store.lockoutMarks m = false ∧ look s.store.refreshMarks m = false) ∨ s.store.RefresherQueued))

/-- The feeder bounds of R146: no room above its capacity, the building not above the effective limit. -/
def Feeder.Bounded (f : Feeder) : Prop :=
  (∀ r, f.granted r ≤ (look f.rooms r).capacity) ∧ f.total ≤ f.effectiveLimit

/-- While the start-up scan runs nothing else does: no exchange, every link DISABLED, machines only as the scan finds them and without
their recovery window, no payment request, context or deferred entry at work, no claim at the feeder, every room open with its valve
CLOSED and its leak input not filtered (R2, R176, R209, R210). -/
def State.ScanAlone (s : State) : Prop :=
  s.scan.at_ ≠ .off →
    s.startingUp = true ∧ s.line.exchange = none ∧
    (∀ m, (s.link m).state = .disabled ∧ [.unassigned, .offline, .lockedOut, .recovering].contains (s.machine m).state = true ∧
      (s.machine m).recoveryWindow = false) ∧
    s.payment.queue = [] ∧ (∀ c, (s.context c).request = none ∧ (s.context c).stage = .free) ∧ s.store.deferred = [] ∧
    s.feeder.order = [] ∧
    (∀ r, let x := look s.feeder.rooms r
      x.grants = [] ∧ x.newQueue = [] ∧ x.resumeQueue = []) ∧
    ∀ r, let g := s.guard r
      g.closed = false ∧ g.debounce = false ∧ g.valveOpen = false

/-- The building grant order names every machine that holds a grant, and no machine has two places in the grant lists and the queues
(R138, R143). -/
def Feeder.Consistent (f : Feeder) : Prop :=
  (∀ r, ∀ c ∈ (look f.rooms r).grants, c.machine ∈ f.order) ∧
    ((indexes 4).flatMap fun r =>
      ((look f.rooms r).grants ++ (look f.rooms r).newQueue ++ (look f.rooms r).resumeQueue).map Claim.machine).Nodup

end Sys2Proof.Machine
end

