-- ==== Sys2Proof/Certificates/Slice0/Obligations.lean ====
section
/-! DEFINITION. The statements for the provers. Their premises and conclusions are in the terms of Safety.lean. -/

open Sys2Proof Sys2Proof.Machine

/-! ## The queue of commands, and what every command keeps -/

/-- The command at the front of the queue is run with the queue's rest, and on an empty queue the block idles: the model's
own choice (log entry 1). -/
def Obligations.StepRunsFrontCommand : Prop :=
  ∀ s : State, (∀ c rest, s.pending = c :: rest → step s = exec c { s with pending := rest }) ∧
    (s.pending = [] → step s = .next s)

/-- Every command, with whatever operands and in whatever state, leads to a next state and leaves the commands that wait as they are. The
manual does not say it: that an event which is not due leads to a next state, without effect, is the model's choice (log entry 2), and so
is the queue of commands that wait (log entry 1). -/
def Obligations.EveryCommandKeepsQueue : Prop :=
  ∀ (c : Instr) (s : State), ∃ t, exec c s = .next t ∧ t.pending = s.pending

/-- Nothing that could go on waits (R41, R87, R180, R181, R183, R199): every step keeps it so. What the store port's own issuers issue at
the end of an event: while the store is UP and the scan has ended, the oldest day update, where none of the list is in the queue, and then
the slot refresher's next update, a lockout mark's before any refresh mark's, from the pointer on, with the mark cleared and the pointer
past the machine (R180, R181); otherwise nothing. That the list issues before the refresher (log entry 43) and that a refresh mark outlives
its session (44) are the model's choices. -/
def Obligations.QuietIsKept : Prop :=
  (∀ s t : State, s.Quiet → step s = .next t → t.Quiet) ∧
    ∀ s : State, s.issueOwn = { s with store := s.issueOwn.store } ∧
      (s.storeUp = true → s.scan.at_ = .off → ∃ p, s.store.DayIssued p ∧ s.RefreshIssued p s.issueOwn.store) ∧
      (s.storeUp = false ∨ s.scan.at_ ≠ .off → s.issueOwn.store = s.store)

/-- The external store keeps its canonical form at every step, with every way a power loss can cut a write short: the places of each
kind strictly rising, and every record listed passing its check, a CRC-8 over its record number and its contents (R177). What an access
does with any store (R178, R179): a read completes with the record or DAMAGED and changes nothing; a whole-record write reads back as
written; a field update rewrites the fields it names and leaves the others, and finds a damaged record DAMAGED, writing nothing; a
conditional update writes only where its condition holds; and every record but the one written (`Fram.target`) reads as before. The field
updates are those of a descriptor, of the lockout code, the append, marks and parts of a slot's copy (R102, R107, R112), and the
conditional ones the day update (R61), the refresh (R181) and the removals of R113. The model's choices are: that a place not listed
stands for a record whose check fails (log entry 15), a slot with no session copy (46, 73), the copy's id (46), a released part in the copy
(49), and the day update's path followed at that moment (63). -/
def Obligations.StoreFormIsKept : Prop :=
  (∀ s t : State, s.fram.wf = true → step s = .next t → t.fram.wf = true) ∧
  ∀ f : Fram,
    (∀ a n, f.target a ≠ some n → f.SameAt (f.perform a).2 n) ∧
    -- reads
    f.Reads (.readSegment 0) f.segmentOne .one ∧ f.Reads (.readSegment 1) f.segmentTwo .two ∧
    f.Reads (.readSegment 2) f.segmentThree .three ∧ f.Reads (.readSegment 3) f.segmentFour .four ∧
    f.Reads .readFloors f.floorTable .floors ∧ (∀ p, f.Reads (.readFlatPage p) (f.flatPage p) .flatPage) ∧
    (∀ p, f.Reads (.readCardPage p) (f.cardPage p) .cardPage) ∧ (∀ a, f.Reads (.readAccount a) (f.account a) .account) ∧
    (∀ m, f.Reads (.readSlot m) (f.slot m) .slot) ∧ f.perform .status = (.ok, f) ∧
    -- whole-record writes
    (∀ x, f.Writes (.writeOne x) Fram.segmentOne x) ∧ (∀ x, f.Writes (.writeTwo x) Fram.segmentTwo x) ∧
    (∀ x, f.Writes (.writeThree x) Fram.segmentThree x) ∧ (∀ x, f.Writes (.writeFour x) Fram.segmentFour x) ∧
    (∀ x, f.Writes (.writeFloors x) Fram.floorTable x) ∧ (∀ p x, f.Writes (.writeFlatPage p x) (fun g => g.flatPage p) x) ∧
    (∀ p x, f.Writes (.writeCardPage p x) (fun g => g.cardPage p) x) ∧
    (∀ a x, f.Writes (.writeAccount a x) (fun g => g.account a) x) ∧ (∀ m x, f.Writes (.writeSlot m x) (fun g => g.slot m) x) ∧
    -- field updates
    (∀ i d, f.Updates (.updateFloor i d) Fram.floorTable fun x y => y = x.set i.1 d) ∧
    (∀ p i d, f.Updates (.updateFlat p i d) (fun g => g.flatPage p) fun x y => y = x.set i.1 d) ∧
    (∀ p i d, f.Updates (.updateCard p i d) (fun g => g.cardPage p) fun x y => y = x.set i.1 d) ∧
    (∀ m code, f.Updates (.slotLockout m code) (fun g => g.slot m) fun x y => y = { x with lockout := code }) ∧
    (∀ m p, f.Updates (.slotAppend m p) (fun g => g.slot m) (Slot.CopyTo fun c d => d = { c with
      parts := c.parts ++ [⟨{ p with start := c.units }, false⟩], units := c.units + p.units })) ∧
    (∀ m, f.Updates (.slotMarkAll m) (fun g => g.slot m) (Slot.CopyTo fun c d => d = { c with
      parts := c.parts.map fun z => { z with mark := z.mark || decide (z.part.payer ≠ none ∧ 0 < z.part.hold) } })) ∧
    (∀ m p, f.Updates (.slotMarkPart m p) (fun g => g.slot m) (Slot.CopyTo fun c d =>
      (∀ before y after, LastReleased p.payer p.hold p.units c.parts before y after →
        d = { c with parts := before ++ { y with mark := true } :: after }) ∧
      ((∀ before y after, ¬ LastReleased p.payer p.hold p.units c.parts before y after) → d = c))) ∧
    (∀ m parts units, f.Updates (.slotParts m parts units) (fun g => g.slot m) (Slot.CopyTo fun c d => d = { c with
      parts := parts.map fun p => ⟨p, false⟩, units := units })) ∧
    -- conditional updates
    (∀ m id e p, f.UpdatesIf (.slotRefresh m id e p) m id fun c d => d = some { c with elapsed := e, paused := p }) ∧
    (∀ m id, f.UpdatesIf (.slotRemove m id) m id fun _ d => d = none) ∧
    (∀ m id p, f.UpdatesIf (.slotRemovePart m id p) m id fun c d =>
      (p.inSlot = true → ∀ before y after, LastReleased p.payer p.hold p.units c.parts before y after →
        d = some { c with parts := before ++ after, units := c.units - p.units }) ∧
      (p.inSlot = false ∨ (∀ before y after, ¬ LastReleased p.payer p.hold p.units c.parts before y after) → d = some c)) ∧
    ∀ u : DayUpdate, let o := f.perform (.dayUpdate u)
      (f.floorTable = none → o = (.damaged, f)) ∧
      ∀ tab, f.floorTable = some tab →
        ((look tab u.path.floor).page = none → o = (.ok, f)) ∧
        ∀ g, (look tab u.path.floor).page = some g →
          (f.flatPage g = none → o = (.damaged, f)) ∧
          ∀ flats, f.flatPage g = some flats →
            ((look flats u.path.flat).page = none → o = (.ok, f)) ∧
            ∀ p, (look flats u.path.flat).page = some p →
              (f.cardPage p = none → o = (.damaged, f)) ∧
              ∀ cards, f.cardPage p = some cards →
                (∀ attrs hold targeted day, look cards u.path.ordinal = .account u.account attrs hold targeted day →
                  o.1 = .ok ∧ o.2.cardPage p =
                    some (cards.set u.path.ordinal.1 (.account u.account attrs hold targeted u.day))) ∧
                ((∀ attrs hold targeted day, look cards u.path.ordinal ≠ .account u.account attrs hold targeted day) →
                  o = (.ok, f))

/-- The minute of day stays within 0 to 1439 at every step (R207). -/
def Obligations.MinuteStaysInRange : Prop :=
  ∀ s t : State, s.clock.minute ≤ 1439 → step s = .next t → t.clock.minute ≤ 1439

/-- The invariants hold at reset. -/
def Obligations.InvariantsAtReset : Prop :=
  State.reset.Quiet ∧ State.reset.fram.wf = true ∧ State.reset.clock.minute ≤ 1439 ∧
    State.reset.feeder.Bounded ∧ State.reset.feeder.Consistent ∧ State.reset.feeder.Drained ∧ State.reset.ScanAlone

/-- No command but the application and the removal of power clears the rule lock, whatever else it does. -/
def Obligations.RuleLockOutlastsAllButPower : Prop :=
  ∀ (c : Instr) (s t : State), c ≠ .powerOnReset → (∀ cut, c ≠ .powerLoss cut) → s.supervisor.ruleLock = true →
    exec c s = .next t → t.supervisor.ruleLock = true

/-! ## The host link -/

/-- Encoding: the frame that carries a host request, its payload laid out as 10.5 and 10.6 lay it out, is read as that request
again, for every request row with every operand the payload can carry. No bit of an operand is dropped. The account byte pair of a
WINDOW item whose action names no account, and what unselected fields carry, are the model's choice (log entries 21, 23; R203). -/
def Obligations.RequestFrameReadsBack : Prop :=
  ∀ (c : Instr) (tag : Byte) (q : Request), c.request? = some (tag, q) → c.wellFormed = true →
    (requestFrame tag q).parse = .request q

/-- The bytes of a frame on the wire (R193), taken one after the other from HUNT, offer that frame to the receive buffer and
leave the receiver in HUNT (R194, R195). -/
def Obligations.WireBytesOfferFrame : Prop :=
  ∀ (s : State) (f : Frame), s.host.receiver = .hunt → f.payload.length ≤ 248 →
    f.wire.foldl State.hostByte s = s.offerFrame f State.dispatch

/-- The receiver (R194). What HUNT, LENGTH and an unfinished BODY make of a byte, and a check that does not match; and tGAP, which in
LENGTH or BODY discards what was received and counts a link error; in HUNT it does not run, and that its expiry changes nothing there is
the model's choice (log entry 2). -/
def Obligations.ReceiverTakesByteAndGap : Prop :=
  (∀ (s : State) (b : Byte), s.Runs →
    let becomes (h : HostLink) := Leads (exec (.hostByteReceived b) s) s [.host] fun t => t.host = h.transmit
    let error : HostLink :=
      { s.host with
        receiver := .hunt
        linkErrors := if s.host.linkErrors < 65535 then s.host.linkErrors + 1 else s.host.linkErrors }
    match s.host.receiver with
    | .hunt => becomes { s.host with receiver := if b = 0x7E#8 then .length else .hunt }
    | .length => becomes (if 2 ≤ b.toNat ∧ b.toNat ≤ 250 then { s.host with receiver := .body b [] } else error)
    | .body length taken =>
      (taken.length + 1 < length.toNat + 2 → becomes { s.host with receiver := .body length (taken ++ [b]) }) ∧
        (length.toNat + 2 ≤ taken.length + 1 →
          crc16Bytes (length :: (taken ++ [b]).take length.toNat) ≠ (taken ++ [b]).drop length.toNat → becomes error)) ∧
  ∀ s : State, s.Runs →
    Leads (exec .gapTimerExpiry s) s [.host] fun t =>
      t.host = (if s.host.receiver = .hunt then s.host
        else { s.host with
          receiver := .hunt
          linkErrors := if s.host.linkErrors < 65535 then s.host.linkErrors + 1 else s.host.linkErrors }).transmit

/-- A request that arrives while one is being served waits; one that arrives while another waits is dropped and counted (R195). Steps 2
and 3 of R196: an item or a path that step 2 refuses is refused BAD_ARGUMENT in every start-up state, and what passes is refused
NOT_READY in STARTING and SCANNING, unless it is IDENTIFY or CLOCK_SET. -/
def Obligations.RequestsWaitOrAreRefused : Prop :=
  (∀ (c : Instr) (tag : Byte) (q : Request) (s : State), c.request? = some (tag, q) → s.Runs →
    (∀ g, s.host.buffer = [g] → Leads (exec c s) s [.host] fun t =>
      t.host = ({ s.host with buffer := [g, requestFrame tag q] }).transmit) ∧
    (2 ≤ s.host.buffer.length → Leads (exec c s) s [.host] fun t =>
      t.host = ({ s.host with
        dropped := if s.host.dropped < 65535 then s.host.dropped + 1 else s.host.dropped }).transmit)) ∧
  ∀ (c : Instr) (tag : Byte) (q : Request) (s : State), c.request? = some (tag, q) → s.Runs → s.host.buffer = [] →
    (Request.passes q = false → Refuses (exec c s) s tag q .badArgument) ∧
    (Request.passes q = true → s.startUp = .starting ∨ s.startUp = .scanning → q ≠ .identify →
      (∀ m d, q ≠ .clockSet m d) → Refuses (exec c s) s tag q .notReady)

/-- The end of a frame (R195, R198, R199). After a notice the transmitter chooses again. After a reply the current request
leaves the buffer as well, and a request that waited is run as its own row's command at that moment. After the OK of a RESET the
soft reset begins: that the end of that frame has the very effect of the row SOFT_RESET, so that either row begins it, is the model's
choice (log entry 14). -/
def Obligations.FrameEndServesNext : Prop :=
  ∀ (s : State) (f : Frame), s.Runs → s.host.sending = some f →
    let after : HostLink := { s.host with sending := none }
    (f.type.msb = false → Leads (exec .hostFrameSent s) s [.host] fun t => t.host = after.transmit) ∧
    (f.type.msb = true → ¬ (f.type = 0x86#8 ∧ f.payload.head? = some 0#8) →
      (s.host.buffer.length ≤ 1 → Leads (exec .hostFrameSent s) s [.host] fun t =>
        t.host = ({ after with buffer := [] }).transmit) ∧
      (∀ g c tag q, s.host.buffer = [g, requestFrame tag q] → c.request? = some (tag, q) → c.wellFormed = true →
        exec .hostFrameSent s = exec c { s with host := { after with buffer := [] } })) ∧
    (f.type = 0x86#8 → f.payload.head? = some 0#8 → exec .hostFrameSent s = exec .softReset s)

/-- The transmitter's choice: it finishes what it sends; when free it sends the ready reply, else the oldest notice, else
nothing; and a notice that leaves the queue while notices were lost makes room for an OVERRUN notice with their number (R199,
R201). A notice offered is dropped uncounted when its selection is clear, joins the tail while the queue holds fewer than 32, and is
discarded and counted, up to 65535, when it is full (R200, R201). -/
def Obligations.TransmitterAndNoticeQueue : Prop :=
  (∀ h : HostLink,
    (∀ f, h.sending = some f → h.transmit = h) ∧
    (h.sending = none → ∀ f, h.ready = some f → h.transmit = { h with sending := some f, ready := none }) ∧
    (h.sending = none → h.ready = none → h.notices = [] → h.transmit = h) ∧
    (h.sending = none → h.ready = none → ∀ n rest, h.notices = n :: rest →
      h.transmit = { h with
        sending := some ⟨Byte.ofNat n.code, 0#8, n.payload⟩
        notices := if h.overruns = 0 then rest else rest ++ [.overrun h.overruns]
        overruns := 0 })) ∧
  ∀ (h : HostLink) (n : Notice),
    h.offer n =
      if selects h.mask n = false then h
      else if h.notices.length < 32 then { h with notices := h.notices ++ [n] }
      else { h with overruns := if h.overruns < 65535 then h.overruns + 1 else h.overruns }

/-! ## Identity, clock, reset and power -/

/-- IDENTIFY is answered in every start-up state with the nine values of R208 in the eight fields of 10.6: the product code, the
revision, the two states, the two flags in one field, and the three counters; it changes nothing. That the revision is a free value
is the model's choice (log entry 7). -/
def Obligations.IdentifyReports : Prop :=
  ∀ (s : State) (tag : Byte), s.Runs → s.host.buffer = [] →
    Replies (exec (.identify tag) s) s tag .identify .ok
      ([0x0B#8, 0x40#8, Config.revision] ++ u8 s.startUp.code ++ u8 s.store.state.code ++
        u8 ((if s.clock.clockSet then 1 else 0) + (if s.supervisor.ruleLock then 2 else 0)) ++
        u16 s.host.linkErrors ++ u16 s.host.dropped ++ u16 s.host.overruns) [] fun _ => True

/-- CLOCK_SET, in every start-up state: a minute above 1439 is refused; otherwise minute, day and the clock-set flag are set. At each
minute the timebase advances; at the end of minute 1439 the minute becomes 0 and the day the next, 65535 followed by 0; the
clock-set flag stays (R207). -/
def Obligations.TimebaseIsSetAndAdvances : Prop :=
  (∀ (s : State) (tag : Byte) (minute day : Nat), s.Runs → s.host.buffer = [] →
    if 1439 < minute then
      Refuses (exec (.clockSet tag minute day) s) s tag (.clockSet minute day) .badArgument
    else
      Replies (exec (.clockSet tag minute day) s) s tag (.clockSet minute day) .ok [] [.clock] fun t =>
        t.clock = ⟨minute, day, true⟩) ∧
  ∀ s : State, s.Runs → s.clock.minute ≤ 1439 → s.clock.day ≤ 65535 →
    Leads (exec .timebaseMinute s) s [.clock] fun t =>
      t.clock.clockSet = s.clock.clockSet ∧ t.clock.minute = (s.clock.minute + 1) % 1440 ∧
        t.clock.day = if s.clock.minute = 1439 then (s.clock.day + 1) % 65536 else s.clock.day

/-- RESET is accepted and changes nothing until its reply has been sent (R198). The soft reset comes once the last byte of its OK is
sent: every block at its reset values with the scan's first read issued and the START_UP notices queued, but for the timebase and
the rule lock, which are kept; what stands in the store and at the leak pins is not the part's (R198, R207, R209). A store write
being carried out is finished (R179). -/
def Obligations.ResetKeepsClockAndLock : Prop :=
  (∀ (s : State) (tag : Byte), s.Takes →
    Replies (exec (.reset tag) s) s tag .reset .ok [] [] fun _ => True) ∧
  ∀ (s : State) (f : Frame), s.powered = true → s.host.sending = some f → f.type = 0x86#8 →
    f.payload.head? = some 0#8 →
    exec .softReset s = .next { State.reset with
      clock := s.clock
      supervisor := { State.reset.supervisor with
        ruleLock := s.supervisor.ruleLock
        rooms := Vector.ofFn fun r => { look State.reset.supervisor.rooms r with input := (look s.supervisor.rooms r).input } }
      fram := s.cutFram .afterWrite
      freeIndex := s.freeIndex
      pending := s.pending }

/-- POWER_ON_RESET: every block at its reset values, whatever they were, the timebase and the rule lock among them; the store's
records and the levels at the leak pins stay (R209). That it acts so on a part that has power as well, as if power had been removed and
applied, is the model's choice (log entry 12). -/
def Obligations.PowerOnResetsEveryBlock : Prop :=
  ∀ s : State, exec .powerOnReset s = .next { State.reset with
    supervisor := { State.reset.supervisor with
      rooms := Vector.ofFn fun r => { look State.reset.supervisor.rooms r with input := (look s.supervisor.rooms r).input } }
    fram := s.fram
    freeIndex := s.freeIndex
    pending := s.pending }

/-- POWER_LOSS: nothing on chip is kept, no event but the application of power and a pin's change then has an effect, and every
store record stays as it was but for the one that the head transaction was writing, which may be unwritten, complete, or left
with a check that fails (R177): of any store, a write cut short leaves the record written failing its check, where the store has its
canonical form, and every other record reading as before. That every other command leaves an unpowered part as it is (log entry 12), and
that where the write is cut is an operand of the command (log entry 13), are the model's choices. -/
def Obligations.PowerLossKeepsStoreOnly : Prop :=
  ∀ (s : State) (cut : PowerCut), s.powered = true →
    ∃ t, exec (.powerLoss cut) s = .next t ∧ t.powered = false ∧ t.pending = s.pending ∧
      t.fram = (match cut, s.store.queue with
        | .duringWrite, x :: _ => if s.storeUp then s.fram.cutShort x.access else s.fram
        | .afterWrite, x :: _ => if s.storeUp then (s.fram.perform x.access).2 else s.fram
        | _, _ => s.fram) ∧
      (∀ r, (look t.supervisor.rooms r).input = (look s.supervisor.rooms r).input) ∧
      (∀ c, c ≠ .powerOnReset → (∀ r b, c ≠ .leakInputChange r b) → exec c t = .next t) ∧
      ∀ (f : Fram) a n, (f.target a = some n → f.wf = true → (f.cutShort a).FailsAt n) ∧
        (f.target a ≠ some n → f.SameAt (f.cutShort a) n)

/-! ## Configuration -/

/-- CONFIG_SET of the tariff calculator's items but PROGRAMME: each judged by its ranges, a lower CAP also against every hold the part
still knows of, and each changing its own field of the tariff alone (11.1). Which holds the part still knows of for a lower CAP
(`State.largestHold`: a part of a deferred entry that is written or passed over is left out, as is a PART_RELEASE passed over because its
payer is damaged, and those of an entry a context keeps in REPLY are counted) is the model's choice (log entry 78), and so is a CAP's
BAD_ARGUMENT before its LIMIT (77). -/
def Obligations.TariffItemsAreSet : Prop :=
  ∀ (s : State) (tag : Byte), s.Takes →
    (∀ b start factor, Sets (.configSetBand tag b start factor) s tag (.band b start factor)
      (4 ≤ b ∨ 1439 < start ∨ factor < 500 ∨ 2000 < factor) [.tariff] fun t =>
        ∃ k : Fin 4, k.1 = b ∧ t.tariff = { s.tariff with bands := s.tariff.bands.set k.1 ⟨start, factor⟩ }) ∧
    (∀ g d, Sets (.configSetTariffGroup tag g d) s tag (.tariffGroup g d) (8 ≤ g ∨ 1000 < d) [.tariff] fun t =>
        ∃ k : Fin 8, k.1 = g ∧ t.tariff = { s.tariff with discounts := s.tariff.discounts.set k.1 d }) ∧
    (∀ n, Sets (.configSetSurcharge tag n) s tag (.surcharge n) (500 < n) [.tariff] fun t =>
        t.tariff = { s.tariff with surcharge := n }) ∧
    (∀ n, Sets (.configSetGrace tag n) s tag (.grace n) (15 < n) [.tariff] fun t =>
        t.tariff = { s.tariff with grace := n }) ∧
    (∀ a k, Sets (.configSetPause tag a k) s tag (.pause a k) (60 < a ∨ 500 < k) [.tariff] fun t =>
        t.tariff = { s.tariff with allowance := a, credit := k }) ∧
    (∀ n, (n < s.tariff.cap → s.largestHold ≤ n) → Sets (.configSetCap tag n) s tag (.cap n) (n < 100 ∨ 5000 < n) [.tariff]
        fun t => t.tariff = { s.tariff with cap := n }) ∧
    (∀ n, 100 ≤ n → n ≤ 5000 → n < s.tariff.cap → n < s.largestHold →
        Refuses (exec (.configSetCap tag n) s) s tag (.configSet (.cap n)) .limit)

/-- CONFIG_SET of PROGRAMME: each class's ranges; BUSY when the heat load, or a dryer's increment length, would change while a
session of that class and index is present; otherwise that programme's fields are set (R120 to R122). -/
def Obligations.ProgrammeIsSet : Prop :=
  ∀ (s : State) (tag : Byte) (i : Nat), s.Takes →
    let inUse (cls : MachineClass) := ∃ m x, (s.machine m).cls = cls ∧ s.session m = some x ∧ x.programme.1 = i
    (∀ price duration heat, let p := ProgrammeItem.washer i price duration heat
      let bad := 8 ≤ i ∨ 2000 < price ∨ duration < 10 ∨ 240 < duration ∨ 60 < heat
      (∀ k : Fin 8, k.1 = i → heat ≠ (look s.tariff.washers k).heat → inUse .washer → ¬ bad →
        Refuses (exec (.configSetProgramme tag p) s) s tag (.configSet (.programme p)) .busy) ∧
      ((∀ k : Fin 8, k.1 = i → heat = (look s.tariff.washers k).heat ∨ ¬ inUse .washer) →
        Sets (.configSetProgramme tag p) s tag (.programme p) bad [.tariff] fun t => ∃ k : Fin 8, k.1 = i ∧
          t.tariff = { s.tariff with washers := s.tariff.washers.set k.1 ⟨price, duration, heat⟩ })) ∧
    (∀ price length maximum heat, let p := ProgrammeItem.dryer i price length maximum heat
      let bad := 8 ≤ i ∨ 500 < price ∨ length < 5 ∨ 30 < length ∨ maximum < 1 ∨ 12 < maximum ∨ 60 < heat
      let same (k : Fin 8) := heat = (look s.tariff.dryers k).heat ∧ length = (look s.tariff.dryers k).length
      (∀ k : Fin 8, k.1 = i → ¬ same k → inUse .dryer → ¬ bad →
        Refuses (exec (.configSetProgramme tag p) s) s tag (.configSet (.programme p)) .busy) ∧
      ((∀ k : Fin 8, k.1 = i → same k ∨ ¬ inUse .dryer) →
        Sets (.configSetProgramme tag p) s tag (.programme p) bad [.tariff] fun t => ∃ k : Fin 8, k.1 = i ∧
          t.tariff = { s.tariff with dryers := s.tariff.dryers.set k.1 ⟨price, length, maximum, heat⟩ }))

/-- CONFIG_SET of the session engine's items ARM, OVERRUN and NODE_GRACE: their ranges, and the one field each sets (R9, R16, R20);
and of the directory's: SITE takes any code, and WINDOW is judged by R49 and sets the window of its index (R49, R53). -/
def Obligations.SessionAndDirectoryItemsAreSet : Prop :=
  (∀ (s : State) (tag : Byte) (n : Nat), s.Takes →
    Sets (.configSetArm tag n) s tag (.arm n) (n < 10 ∨ 300 < n) [.engine] (fun t =>
      t.engine = { s.engine with armSeconds := n }) ∧
    Sets (.configSetOverrun tag n) s tag (.overrun n) (60 < n) [.engine] (fun t =>
      t.engine = { s.engine with overrunMinutes := n }) ∧
    Sets (.configSetNodeGrace tag n) s tag (.nodeGrace n) (n < 1 ∨ 30 < n) [.engine] fun t =>
      t.engine = { s.engine with graceMinutes := n }) ∧
  ∀ (s : State) (tag : Byte), s.Takes →
    (∀ n, Sets (.configSetSite tag n) s tag (.site n) False [.directory] fun t =>
      t.directory = { s.directory with site := n }) ∧
    ∀ i w, Sets (.configSetWindow tag i w) s tag (.window i w)
      (4 ≤ i ∨ 63 < w.floorHigh ∨ w.floorHigh < w.floorLow ∨ (∃ n, w.flat = some n ∧ 15 < n) ∨
        (∃ n, w.ordinal = some n ∧ 3 < n) ∨ ∃ a, w.action = .house a ∧ 1023 < a) [.directory] fun t =>
      ∃ (k : Fin 4) (x : Window), k.1 = i ∧ x.item = w ∧
        t.directory = { s.directory with windows := s.directory.windows.set k.1 x }

/-- CONFIG_SET of CACHE: bursts outside 1 to 16 are refused; otherwise mask, policy and bursts are set, a way that the mask
disables or enables loses its entry in every set, and entries of the other ways, LRU orders, pointers, sweeps, lookups and the
arbiter's count stay (R83). -/
def Obligations.CacheItemIsSet : Prop :=
  ∀ (s : State) (tag : Byte) (i : CacheItem), s.Takes →
    Sets (.configSetCache tag i) s tag (.cache i)
      (i.sweepBurst < 1 ∨ 16 < i.sweepBurst ∨ i.lookupBurst < 1 ∨ 16 < i.lookupBurst) [.cache] fun t =>
      ∃ c : Cache, t.cache = c.arbitrate ∧
        c = { s.cache with
          sets := c.sets, mask := i.mask, replacement := i.replacement, sweepBurst := i.sweepBurst
          lookupBurst := i.lookupBurst } ∧
        ∀ k : Fin 8, (look c.sets k).order = (look s.cache.sets k).order ∧
          (look c.sets k).pointer = (look s.cache.sets k).pointer ∧
          ∀ w : Fin 4, look (look c.sets k).ways w =
            if look s.cache.mask w = look i.mask w then look (look s.cache.sets k).ways w else none

/-- CONFIG_SET of NOTICE_MASK sets every selection (R200), and of LAMP every source, after which each machine whose computed pattern
differs from the one last sent has LAMP queued (R44, R45). Neither is ever refused. The source is the first row of R43's table that
applies: OUT_OF_ORDER for a washer whose room is closed, else by the state and in RUNNING the heat; none in UNASSIGNED. That a machine
whose link is DISABLED has none queued and keeps the pattern last sent is the model's choice (log entry 58); R45 makes no such exception. -/
def Obligations.LampAndMaskAreSet : Prop :=
  ∀ (s : State) (tag : Byte), s.Takes →
    (∀ k, RepliesFrom { s.host with mask := k } (exec (.configSetNoticeMask tag k) s) s tag (.configSet (.noticeMask k)) .ok []
      [] fun _ => True) ∧
    (∀ (r : MachineRecord) closed,
      let shows (x : LampSource) := lampSource r closed = some x
      let waits := ∃ y, r.session = some y ∧ (y.heat = .waiting ∨ y.heat = .withdrawn)
      (r.state = .unassigned → lampSource r closed = none) ∧
      (r.state ≠ .unassigned → r.cls = .washer → closed = true → shows .outOfOrder) ∧
      (r.cls = .dryer ∨ closed = false →
        (r.state ∈ [.lockedOut, .offline, .stranded, .recovering] → shows .outOfOrder) ∧ (r.state = .idle → shows .available) ∧
        (r.state = .armed ∨ r.state = .authorising → shows .armed) ∧ (r.state = .running → waits → shows .heatHold) ∧
        (r.state = .delayed ∨ r.state = .running ∧ ¬ waits → shows .inUse) ∧
        (r.state = .done ∨ r.state = .settling → shows .done))) ∧
    ∀ k, Replies (exec (.configSetLamp tag k) s) s tag (.configSet (.lamp k)) .ok [] [.lamps, .engine, .line] fun t =>
      t.lamps = k ∧ OthersKept [] s t ∧ ∀ m,
        let new := match lampSource (s.machine m) (s.guard (s.machine m).room).closed with
          | some x => if (s.link m).state = .disabled ∨ lampFor k x = (s.machine m).lampSent then none else some (lampFor k x)
          | none => none
        t.machine m = { s.machine m with lampSent := new.getD (s.machine m).lampSent } ∧
          (t.link m).table = { (s.link m).table with lamp := new <|> (s.link m).table.lamp }

/-- CONFIG_SET of the feeder's items, ROOM and GRANT: their ranges, the fields they set, the fields they leave, and after them no
granted load above its capacity or the effective limit, when the building order is consistent (R138, R140, R146). A ROOM, and a GRANT that
changes the limit, run shedding, a grant pass and the judgement of the backlog, in that order, each as O39, O40 and R155's table say, and
no queue head then fits; the sessions and nodes are told of withdrawals and grants, and the only notice is BACKLOG where the backlog
state changes (R142, R149 to R151, R155). A GRANT that leaves the limit runs no pass, and judges the backlog by its marks (R140, R155).
A ROOM that changes the edge select re-judges its room: where the room is open, the LEAK rule enabled and the filtered level the new onset
level, the onset of R173 is taken, and otherwise nothing is, a closed room staying closed (R172, R176). The model's choices are: the
capacity before the edge (log entry 92), the order of the washers of the room (83), the lamps under a DISABLED link (58), the end of a
session with no parts (33), and the last end cause of a session now settling (69). -/
def Obligations.FeederItemsAreSet : Prop :=
  ∀ (s : State) (tag : Byte), s.Takes →
    (∀ r capacity edge, 4 ≤ r ∨ 600 < capacity →
      Refuses (exec (.configSetRoom tag r capacity edge) s) s tag (.configSet (.room r capacity edge)) .badArgument) ∧
    (∀ (r : RoomNo) capacity edge, capacity ≤ 600 →
      let out := exec (.configSetRoom tag r.1 capacity edge) s
      let q := Request.configSet (.room r.1 capacity edge)
      let g := { s.guard r with edge := edge }
      let v := { s.supervisor with rooms := s.supervisor.rooms.set r.1 g }
      let room : Feeder :=
        { s.feeder with rooms := s.feeder.rooms.set r.1 { look s.feeder.rooms r with capacity := capacity } }
      let fields (t : State) := (look t.feeder.rooms r).capacity = capacity ∧
        (∀ k, k ≠ r → (look t.feeder.rooms k).capacity = (look s.feeder.rooms k).capacity) ∧
        t.feeder.limit = s.feeder.limit ∧ t.feeder.mode = s.feeder.mode ∧ t.feeder.high = s.feeder.high ∧
        t.feeder.low = s.feeder.low ∧ t.feeder.demand = s.feeder.demand ∧ t.feeder.heaterFault = s.feeder.heaterFault ∧
        (s.feeder.Consistent → t.feeder.Bounded ∧ t.feeder.Consistent) ∧ t.feeder.Drained ∧
        (s.feeder.low < s.feeder.high → t.feeder.BacklogSettled)
      let sets (changed : List Block) (holds : State → Prop) :=
        RepliesFrom (s.host.offered (s.rebalanced room).2) out s tag q .ok [] ([.feeder, .engine, .line] ++ changed) fun t =>
          OthersKept [] s t ∧ s.Rebalances t room ∧ fields t ∧ holds t
      (edge = (s.guard r).edge → sets [] fun _ => True) ∧
      (edge ≠ (s.guard r).edge → g.closed = true ∨ look s.supervisor.enables 4 = false ∨ g.wet g.filtered = false →
        sets [.supervisor] fun t => t.supervisor = v) ∧
      (edge ≠ (s.guard r).edge → g.closed = false → look s.supervisor.enables 4 = true → g.wet g.filtered = true →
        s.LeaksPlainly [r] →
        RepliesNoticing out s tag q .ok [] [.feeder, .engine, .line, .supervisor, .payment] fun t =>
          OthersKept (s.washersIn [r]) s t ∧ fields t ∧ s.RoomsClose t [r] v)) ∧
    (∀ mode limit high low, 2000 < limit ∨ high < 1 ∨ 64 < high ∨ high ≤ low →
      Refuses (exec (.configSetGrant tag mode limit high low) s) s tag (.configSet (.grant mode limit high low)) .badArgument) ∧
    ∀ mode limit high low, limit ≤ 2000 → 1 ≤ high → high ≤ 64 → low < high →
      let out := exec (.configSetGrant tag mode limit high low) s
      let q := Request.configSet (.grant mode limit high low)
      let g : Feeder := { s.feeder with mode := mode, limit := limit, high := high, low := low }
      (limit = s.feeder.limit → RepliesFrom (s.host.offered g.judged.2) out s tag q .ok [] [.feeder] fun t =>
        t.feeder = g.judged.1 ∧ t.feeder.BacklogSettled) ∧
      (limit ≠ s.feeder.limit → RepliesFrom (s.host.offered (s.rebalanced g).2) out s tag q .ok [] [.feeder, .engine, .line]
        fun t =>
          OthersKept [] s t ∧ s.Rebalances t g ∧
          t.feeder.limit = limit ∧ t.feeder.mode = mode ∧ t.feeder.high = high ∧ t.feeder.low = low ∧
          (∀ k, (look t.feeder.rooms k).capacity = (look s.feeder.rooms k).capacity) ∧
          t.feeder.demand = s.feeder.demand ∧ t.feeder.heaterFault = s.feeder.heaterFault ∧
          (s.feeder.Consistent → t.feeder.Bounded ∧ t.feeder.Consistent) ∧ t.feeder.Drained ∧ t.feeder.BacklogSettled)

/-- CONFIG_SET of MACHINE: refused for a machine or room out of range, BUSY in any state but UNASSIGNED, IDLE and OFFLINE, NOT_READY to
assign while NOT_CONFIGURED; otherwise room, class and flag are set. Assigning an UNASSIGNED machine makes it OFFLINE with its link
PROBING, its slow timer expired, everything else in it empty, if its node is enabled; unassigning makes it UNASSIGNED with its link
DISABLED and emptied; another change leaves the state (R3, R37, R205). That the pattern last sent stays as it is under a DISABLED link
although the state changes (log entry 58), that a room out of range is refused before a state that calls for BUSY or NOT_READY (log entry
77), and BAD_ARGUMENT for a machine above 63 (log entry 19), are the model's choices. -/
def Obligations.MachineItemIsSet : Prop :=
  ∀ (s : State) (tag : Byte) (m : MachineNo) (r : RoomNo) (cls : MachineClass) (on : Bool), s.Takes →
    s.OtherRecovering m →
    let o := exec (.configSetMachine tag m.1 r.1 cls on) s
    let q := Request.configSet (.machine m.1 r.1 cls on)
    let open? := (s.machine m).state = .unassigned ∨ (s.machine m).state = .idle ∨ (s.machine m).state = .offline
    (∀ m' r', 64 ≤ m' ∨ 4 ≤ r' →
      Refuses (exec (.configSetMachine tag m' r' cls on) s) s tag (.configSet (.machine m' r' cls on)) .badArgument) ∧
    (¬ open? → Refuses o s tag q .busy) ∧
    (open? → s.startUp = .notConfigured → on = true → Refuses o s tag q .notReady) ∧
    (open? → s.startUp ≠ .notConfigured → on = true → (s.machine m).state ≠ .unassigned →
      Replies o s tag q .ok [] [.engine] fun t => t.engine = { s.engine with
        machines := s.engine.machines.set m.1 { s.machine m with room := r, cls := cls, assigned := true } }) ∧
    (open? → s.startUp ≠ .notConfigured → on = true → (s.machine m).state = .unassigned → (s.link m).state = .disabled →
      Replies o s tag q .ok [] [.engine, .line] fun t =>
        t.engine = { s.engine with
          machines := s.engine.machines.set m.1
            { s.machine m with state := .offline, room := r, cls := cls, assigned := true } } ∧
        t.line = (if (s.machine m).enabled then
          { s.line with links := s.line.links.set m.1 { Link.initial with state := .probing, slow := .expired } }
          else s.line).begin) ∧
    (open? → on = false → Replies o s tag q .ok [] [.engine, .line, .feeder] fun t =>
        t.engine = { s.engine with machines := t.engine.machines } ∧
        OthersKeptWith [m] (discarding m s.line.exchange) s.line.pointer s t ∧ (t.machine m).state = .unassigned ∧
        (t.machine m).room = r ∧ (t.machine m).cls = cls ∧ (t.machine m).assigned = false ∧ (t.machine m).session = none ∧ (t.machine m).lockout = none ∧
        t.link m = Link.initial ∧ t.feeder = { s.feeder with heaterFault := s.feeder.heaterFault.set m.1 false })

/-- CONFIG_GET answers, for every item code and every index in its range, the item in force as CONFIG_SET would carry it, and
refuses any other code or index (R204, R205). -/
def Obligations.ConfigGetAnswersItem : Prop :=
  ∀ (s : State) (tag : Byte), s.Takes →
    let gets (code index : Nat) (i : ConfigItem) :=
      Replies (exec (.configGet tag code index) s) s tag (.configGet code index) .ok (itemBytes i) [] fun _ => True
    gets 1 0 (.site s.directory.site) ∧
    (∀ r : Fin 4, gets 2 r.1 (.room r.1 (look s.feeder.rooms r).capacity (look s.supervisor.rooms r).edge)) ∧
    (∀ m : Fin 64, gets 3 m.1 (.machine m.1 (s.machine m).room.1 (s.machine m).cls (s.machine m).assigned)) ∧
    (∀ p : Fin 8, let x := look s.tariff.washers p
      gets 4 p.1 (.programme (.washer p.1 x.price x.duration x.heat))) ∧
    (∀ p : Fin 8, let x := look s.tariff.dryers p
      gets 4 (128 + p.1) (.programme (.dryer p.1 x.price x.length x.maximum x.heat))) ∧
    (∀ b : Fin 4, gets 5 b.1 (.band b.1 (look s.tariff.bands b).start (look s.tariff.bands b).factor)) ∧
    (∀ g : Fin 8, gets 6 g.1 (.tariffGroup g.1 (look s.tariff.discounts g))) ∧
    gets 7 0 (.surcharge s.tariff.surcharge) ∧ gets 8 0 (.cap s.tariff.cap) ∧ gets 9 0 (.grace s.tariff.grace) ∧
    gets 10 0 (.pause s.tariff.allowance s.tariff.credit) ∧ gets 11 0 (.arm s.engine.armSeconds) ∧
    gets 12 0 (.overrun s.engine.overrunMinutes) ∧ gets 13 0 (.nodeGrace s.engine.graceMinutes) ∧
    (∀ n : Fin 4, gets 14 n.1 (.window n.1 (look s.directory.windows n).item)) ∧
    gets 15 0 (.cache ⟨s.cache.mask, s.cache.replacement, s.cache.sweepBurst, s.cache.lookupBurst⟩) ∧
    gets 16 0 (.grant s.feeder.mode s.feeder.limit s.feeder.high s.feeder.low) ∧ gets 17 0 (.lamp s.lamps) ∧
    gets 18 0 (.noticeMask s.host.mask) ∧
    ∀ code index, (code < 1 ∨ 18 < code ∨ (code ∉ [2, 3, 4, 5, 6, 14] ∧ index ≠ 0) ∨ (code ∈ [2, 5, 14] ∧ 3 < index) ∨
        (code = 3 ∧ 63 < index) ∨ (code = 6 ∧ 7 < index) ∨ (code = 4 ∧ 7 < index ∧ (index < 128 ∨ 135 < index))) →
      Refuses (exec (.configGet tag code index) s) s tag (.configGet code index) .badArgument

/-- CONFIG_SAVE: refused while the store is not UP; otherwise a copy of every item in force, the enables and the severities is taken
(`State.configBlock` of the present state) and segment 1's write joins the store port's queue. Each segment's write, completed, is
followed by the next segment's, and the fourth by the reply OK (R206). -/
def Obligations.SaveWritesFourSegments : Prop :=
  ∀ (s : State) (tag : Byte),
    (s.Takes → s.storeUp = false → Refuses (exec (.configSave tag) s) s tag .configSave .storeUnavailable) ∧
    (s.Takes → s.storeUp = true → Leads (exec (.configSave tag) s) s [.host, .store] fun t =>
      t.host = ({ s.host with buffer := [requestFrame tag .configSave] }).transmit ∧
        let b := s.configBlock
        b.one.site = s.directory.site ∧
          (∀ r, look b.one.rooms r = ⟨(look s.feeder.rooms r).capacity, (s.guard r).edge⟩) ∧
          (∀ m, look b.one.machines m = ⟨(s.machine m).room, (s.machine m).cls, (s.machine m).assigned⟩) ∧
          b.two = s.tariff ∧
          b.three = {
            armSeconds := s.engine.armSeconds, overrunMinutes := s.engine.overrunMinutes
            graceMinutes := s.engine.graceMinutes, windows := s.directory.windows
            cache := ⟨s.cache.mask, s.cache.replacement, s.cache.sweepBurst, s.cache.lookupBurst⟩
            mode := s.feeder.mode, limit := s.feeder.limit, high := s.feeder.high, low := s.feeder.low
            lamps := s.lamps, mask := s.host.mask } ∧
          b.four = ⟨s.supervisor.enables, s.supervisor.severities⟩ ∧
          t.StoreFrom { s.store with
            saving := some ⟨b, 0⟩, queue := s.store.queue ++ [⟨.configWriter, .writeOne b.one⟩] }) ∧
    ∀ a rest v, s.Runs → s.storeUp = true → s.store.queue = ⟨.configWriter, a⟩ :: rest → s.store.saving = some v →
      (∀ k : Fin 4, k.1 = v.segment.1 + 1 →
        Leads (exec .configSegmentWriteDone s) s [.store, .fram] fun t => t.fram = (s.fram.perform a).2 ∧
          t.StoreFrom { s.store with
            saving := some ⟨v.block, k⟩
            queue := rest ++ [⟨.configWriter,
              if k = 1 then .writeTwo v.block.two else if k = 2 then .writeThree v.block.three
                else .writeFour v.block.four⟩] }) ∧
      (v.segment = 3 → ∀ f, s.host.buffer = [f] →
        Leads (exec .configSegmentWriteDone s) s [.store, .fram, .host] fun t => t.fram = (s.fram.perform a).2 ∧
          t.host = (s.host.answering f .ok []).transmit ∧ t.StoreFrom { s.store with saving := none, queue := rest })

/-! ## Machine control -/

/-- MACHINE_QUERY answers the record's fields, and the session's when there is one; a machine above 63 is refused (R27). -/
def Obligations.MachineQueryReports : Prop :=
  ∀ (s : State) (tag : Byte), s.Takes →
    (∀ m, 63 < m → Refuses (exec (.machineQuery tag m) s) s tag (.machineQuery m) .badArgument) ∧
    ∀ m : MachineNo, let r := s.machine m
      let flags := (if r.assigned then 1 else 0) + (if r.enabled then 2 else 0) + (if r.session.isSome then 4 else 0)
      Replies (exec (.machineQuery tag m.1) s) s tag (.machineQuery m.1) .ok
        ([u8 m.1, u8 r.state.code, u8 r.cls.code, u8 r.room.1, u8 flags, u8 (faultCode r.lockout), u8 (EndCause.code r.lastEnd),
          u8 (faultCode (EndCause.fault? r.lastEnd)), u8 r.outstanding.code].flatten ++
          match r.session with
          | none => []
          | some x => [u16 x.id, u8 x.mode.code, u8 x.programme.1, u16 x.units, u16 x.elapsed, u16 x.paused, u16 x.delay,
              u8 x.heat.code, u8 x.increment, yesNo x.finishSent, partListBytes x.parts].flatten) [] fun _ => True

/-- SERVICE_START: the refusals of each state and operand, and the acceptance: a SERVICE session with the next session id and no
part, the machine ARMED with tARM running, ENABLE with price 0 queued, a SESSION ARMED notice, and OK with the id (R24). The machine's
record is given whole but for its lamp, and of its link the ENABLE alone; the other machines keep theirs but for heat states, heat and
lamp commands. BAD_ARGUMENT for a machine above 63 (log entry 19), and the closed room before the programme and the count (97), are the
model's choices. -/
def Obligations.ServiceStartArms : Prop :=
  ∀ (s : State) (tag : Byte) (m : MachineNo) (p n : Nat), s.Takes → s.OtherRecovering m →
    let o := exec (.serviceStart tag m.1 p n) s
    let q := Request.serviceStart m.1 p n
    let r := s.machine m
    let shut := r.cls = .washer ∧ (s.guard r.room).closed = true
    let bad := 7 < p ∨ (r.cls = .dryer ∧ ∀ k : Fin 8, k.1 = p → n < 1 ∨ (look s.tariff.dryers k).maximum < n)
    (∀ m', 63 < m' →
      Refuses (exec (.serviceStart tag m' p n) s) s tag (.serviceStart m' p n) .badArgument) ∧
    (r.state = .idle → shut → Refuses o s tag q .refusedState) ∧
    (r.state = .idle → ¬ shut → bad → Refuses o s tag q .badArgument) ∧
    (r.state = .lockedOut → Refuses o s tag q .locked) ∧
    (r.state ≠ .idle → r.state ≠ .lockedOut → Refuses o s tag q .busy) ∧
    (r.state = .idle → ¬ shut → ¬ bad → ∀ k : Fin 8, k.1 = p →
      let id := if s.engine.idCounter < 65535 then s.engine.idCounter + 1 else 1
      let units := match r.cls with
        | .washer => (look s.tariff.washers k).duration
        | .dryer => n * (look s.tariff.dryers k).length
      RepliesFrom (s.host.offered [.sessionArmed m id .service k units none]) o s tag q .ok (u16 id) [.engine, .line] fun t =>
        t.engine = { s.engine with machines := t.engine.machines, idCounter := id } ∧
        OthersKeptWith [m] s.line.exchange s.line.pointer s t ∧
        t.machine m = { r with
          state := .armed, armTimer := some s.engine.armSeconds, session := some (newSession id k .service 0 units [])
          lampSent := (t.machine m).lampSent } ∧
        ((s.link m).state ≠ .disabled → (t.link m).table.arm = some (.enable id k 0 .service)))

/-- ABORT: LOCKED in LOCKED_OUT, REFUSED_STATE where there is nothing to abort; otherwise the session ends with cause ABORTED
and after-settle state DONE, its heat released. The node is sent DISABLE from ARMED and DELAYED, the id then kept as the stopped
id, and STOP from RUNNING and STRANDED. SETTLE is placed when no request is outstanding, and held back when one is; a session with
no part completes at once (R6, R7, R25). The last end cause is that of the session now settling: the model's choice (log entry 69).
BAD_ARGUMENT for a machine above 63 is the model's choice (log entry 19). -/
def Obligations.AbortEndsSession : Prop :=
  ∀ (s : State) (tag : Byte) (m : MachineNo), s.Takes → s.OtherRecovering m →
    let o := exec (.abort tag m.1) s
    let q := Request.abort m.1
    let r := s.machine m
    let early := r.state = .armed ∨ r.state = .delayed
    let late := r.state = .running ∨ r.state = .stranded
    (∀ m', 63 < m' → Refuses (exec (.abort tag m') s) s tag (.abort m') .badArgument) ∧
    (r.state = .lockedOut → Refuses o s tag q .locked) ∧
    (¬ early → ¬ late → r.state ≠ .lockedOut → Refuses o s tag q .refusedState) ∧
    ∀ x, r.session = some x → early ∨ late → let linked := (s.link m).state ≠ .disabled
      (x.parts ≠ [] →
        RepliesNoticing o s tag q .ok [] [.engine, .line, .feeder, .payment] fun t =>
          OthersKept [m] s t ∧ (t.machine m).state = .settling ∧
          (t.machine m).session = some { x with endCause := some .aborted, heat := .none } ∧
          (t.machine m).afterSettle = .done ∧ (t.machine m).lastEnd = some .aborted ∧ (t.machine m).armTimer = none ∧
          (t.machine m).minuteTimer = false ∧ (t.machine m).graceTimer = none ∧ t.feeder.holdsGrant m = false ∧
          t.feeder.queued m = false ∧
          (early → (linked → (t.link m).table.arm = some (.disable x.id)) ∧ (t.machine m).stoppedId = x.id) ∧
          (late → (linked → (t.link m).table.stop = some x.id) ∧ (t.machine m).stoppedId = r.stoppedId) ∧
          (r.outstanding = .none → (t.machine m).outstanding = .settle ∧ t.payment = { s.payment with
            queue := s.payment.queue ++ [.settle m x.id .aborted x.elapsed x.paused] }) ∧
          (r.outstanding ≠ .none → (t.machine m).outstanding = r.outstanding ∧ t.payment = s.payment)) ∧
      (x.parts = [] → look s.supervisor.ending m = none →
        RepliesNoticing o s tag q .ok [] [.engine, .line, .feeder] fun t =>
          OthersKept [m] s t ∧ (t.machine m).state = (if r.doorOpened then .idle else .done) ∧
          (t.machine m).session = none ∧ (t.machine m).lastEnd = some .aborted ∧ (t.machine m).outstanding = .none ∧
          (early → linked → (t.link m).table.arm = some (.disable x.id)) ∧
          (late → linked → (t.link m).table.stop = some x.id))

/-- LOCK: the refusals of each state, and in IDLE, DONE and OFFLINE a LOCKOUT record of code OPERATOR_LOCK, which becomes the
machine's locking record, the machine LOCKED_OUT with LOCK on queued and its lockout mark set, and OK with the record's sequence
number; in ARMED the same record, which ends the session towards LOCKED_OUT (R26, R162, R165, R166, R169, R170). A full log first
discards one record, the first found by R166's search: the oldest acknowledged one that is not protected, else the oldest unacknowledged
NOTE, else the oldest unacknowledged STOP, else the oldest not protected. No machine's locking record and no room's closing record, which
are of severity LOCKOUT and ROOM, is discarded. BAD_ARGUMENT for a machine above 63 is the model's choice (log entry 19), and so is the
last end cause of the session now settling (log entry 69). -/
def Obligations.LockLocksOut : Prop :=
  (∀ v : Supervisor,
    let guarded (x : FaultRecord) := (∃ m, look v.locking m = some x.sequence) ∨ ∃ r, (look v.rooms r).closing = some x.sequence
    let spent (x : FaultRecord) := x.acknowledged = true ∧ ¬ guarded x
    let unread (sev : Severity) (x : FaultRecord) := x.acknowledged = false ∧ x.severity = sev
    let absent (p : FaultRecord → Prop) := ∀ x ∈ v.log, ¬ p x
    let discards (p : FaultRecord → Prop) := ∀ before x after, v.log = before ++ x :: after → p x → (∀ y ∈ before, ¬ p y) →
      v.makeRoom = { v with log := before ++ after }
    (v.log.length < 80 → v.makeRoom = v) ∧
    (80 ≤ v.log.length →
      discards spent ∧
      (absent spent → discards (unread .note)) ∧
      (absent spent → absent (unread .note) → discards (unread .stop)) ∧
      (absent spent → absent (unread .note) → absent (unread .stop) → discards fun x => ¬ guarded x) ∧
      (absent spent → absent (unread .note) → absent (unread .stop) → (absent fun x => ¬ guarded x) → v.makeRoom = v)) ∧
    ∀ x ∈ v.log, guarded x → x.severity = .lockout ∨ x.severity = .room → x ∈ v.makeRoom.log) ∧
  ∀ (s : State) (tag : Byte) (m : MachineNo), s.Takes → s.OtherRecovering m →
    let o := exec (.lock tag m.1) s
    let q := Request.lock m.1
    let r := s.machine m
    let n := (s.supervisor.counter + 1) % 4294967296
    (∀ m', 63 < m' → Refuses (exec (.lock tag m') s) s tag (.lock m') .badArgument) ∧
    (r.state = .unassigned → Refuses o s tag q .refusedState) ∧
    (r.state = .lockedOut → Refuses o s tag q .locked) ∧
    (r.state ∈ [.authorising, .delayed, .running, .stranded, .settling, .recovering] → Refuses o s tag q .busy) ∧
    (r.state ∈ [.idle, .done, .offline] → r.session = none →
      RepliesNoticing o s tag q .ok (u32 n) [.engine, .line, .supervisor, .store] fun t =>
        OthersKept [m] s t ∧
        t.machine m = { r with
          state := .lockedOut, lockout := some .operatorLock, lampSent := (t.machine m).lampSent } ∧
        ((s.link m).state ≠ .disabled → (t.link m).table.lock = some true) ∧
        t.supervisor = { s.supervisor with
          log := s.supervisor.makeRoom.log ++
            [⟨n, s.clock.day, s.clock.minute, .machine m, .operatorLock, .lockout, .none, none, false⟩]
          counter := n
          locking := s.supervisor.locking.set m.1 (some n) } ∧
        t.StoreFrom { s.store with lockoutMarks := s.store.lockoutMarks.set m.1 true }) ∧
    ∀ x, r.state = .armed → r.session = some x → x.parts ≠ [] → r.outstanding = .none →
      RepliesNoticing o s tag q .ok (u32 n) [.engine, .line, .feeder, .payment, .supervisor] fun t =>
        OthersKept [m] s t ∧ (t.machine m).state = .settling ∧
        (t.machine m).session = some { x with endCause := some (.fault .operatorLock), heat := .none } ∧
        (t.machine m).afterSettle = .lockedOut .operatorLock ∧ (t.machine m).outstanding = .settle ∧
        (t.machine m).lastEnd = some (.fault .operatorLock) ∧
        (t.machine m).armTimer = none ∧ (t.machine m).stoppedId = x.id ∧
        ((s.link m).state ≠ .disabled → (t.link m).table.arm = some (.disable x.id)) ∧
        t.payment = { s.payment with
          queue := s.payment.queue ++ [.settle m x.id (.fault .operatorLock) x.elapsed x.paused] } ∧
        t.supervisor = { s.supervisor with
          log := s.supervisor.makeRoom.log ++
            [⟨n, s.clock.day, s.clock.minute, .machine m, .operatorLock, .lockout, .session x.id, none, false⟩]
          counter := n
          locking := s.supervisor.locking.set m.1 (some n)
          ending := s.supervisor.ending.set m.1 (some n) }

/-- LOCKOUT_CLEAR: refused when the machine is not LOCKED_OUT or its link is DISABLED, and NOT_ACKNOWLEDGED while its locking
record stands in the log unacknowledged; otherwise the code and the locking record are forgotten, LOCK off is queued, the mark is
set, and the machine becomes IDLE if its link is ONLINE or SILENT, and OFFLINE otherwise (R169, R171). BAD_ARGUMENT for a machine
above 63 is the model's choice (log entry 19). -/
def Obligations.LockoutClearFrees : Prop :=
  ∀ (s : State) (tag : Byte) (m : MachineNo), s.Takes → s.OtherRecovering m →
    let o := exec (.lockoutClear tag m.1) s
    let q := Request.lockoutClear m.1
    let r := s.machine m
    let stands := ∃ n x, look s.supervisor.locking m = some n ∧
      s.supervisor.log.find? (fun y => y.sequence == n) = some x ∧ x.acknowledged = false
    (∀ m', 63 < m' → Refuses (exec (.lockoutClear tag m') s) s tag (.lockoutClear m') .badArgument) ∧
    (r.state ≠ .lockedOut ∨ (s.link m).state = .disabled → Refuses o s tag q .refusedState) ∧
    (r.state = .lockedOut → (s.link m).state ≠ .disabled → stands → Refuses o s tag q .notAcknowledged) ∧
    (r.state = .lockedOut → (s.link m).state ≠ .disabled → ¬ stands →
      Replies o s tag q .ok [] [.engine, .line, .supervisor, .store] fun t =>
        OthersKept [m] s t ∧
        t.machine m = { r with
          state := if (s.link m).state = .online ∨ (s.link m).state = .silent then .idle else .offline
          lockout := none
          lampSent := (t.machine m).lampSent } ∧
        (t.link m).table.lock = some false ∧
        t.supervisor = { s.supervisor with locking := s.supervisor.locking.set m.1 none } ∧
        t.StoreFrom { s.store with lockoutMarks := s.store.lockoutMarks.set m.1 true })

/-- NODE_ENABLE and NODE_DISABLE: the refusals of each state; the node enabled flag; a DISABLED link that starts PROBING with an expired
slow timer and an empty table; a link that becomes DISABLED with everything in it cleared, its reply on the line discarded and the heater
fault flag with it; and OFFLINE for IDLE, DONE and OFFLINE, while LOCKED_OUT stays (R3, R37, R156). BAD_ARGUMENT for a machine above 63
(log entry 19), and that the pattern last sent stays as it is under the DISABLED link although the state changes (log entry 58), are the
model's choices. -/
def Obligations.NodeSwitchesLink : Prop :=
  ∀ (s : State) (tag : Byte) (m : MachineNo), s.Takes → s.OtherRecovering m →
    let r := s.machine m
    let on := exec (.nodeEnable tag m.1) s
    let off := exec (.nodeDisable tag m.1) s
    (∀ m', 63 < m' → Refuses (exec (.nodeEnable tag m') s) s tag (.nodeEnable m') .badArgument ∧
      Refuses (exec (.nodeDisable tag m') s) s tag (.nodeDisable m') .badArgument) ∧
    (r.state = .unassigned → Refuses on s tag (.nodeEnable m.1) .refusedState ∧
      Refuses off s tag (.nodeDisable m.1) .refusedState) ∧
    (r.state ≠ .unassigned → Replies on s tag (.nodeEnable m.1) .ok [] [.engine, .line] fun t =>
      t.engine = { s.engine with machines := s.engine.machines.set m.1 { r with enabled := true } } ∧
      t.line = (if (s.link m).state = .disabled then
        { s.line with links := s.line.links.set m.1 { Link.initial with state := .probing, slow := .expired } }
        else s.line).begin) ∧
    (r.state ∈ [.recovering, .authorising, .armed, .delayed, .running, .stranded, .settling] →
      Refuses off s tag (.nodeDisable m.1) .busy) ∧
    (r.state ∈ [.idle, .done, .offline, .lockedOut] →
      Replies off s tag (.nodeDisable m.1) .ok [] [.engine, .line, .feeder] fun t =>
        t.engine = { s.engine with machines := s.engine.machines.set m.1 { r with
          enabled := false, state := if r.state = .lockedOut then .lockedOut else .offline } } ∧
        t.line = ({ s.line with
          links := s.line.links.set m.1 Link.initial, exchange := discarding m s.line.exchange }).begin ∧
        t.feeder = { s.feeder with heaterFault := s.feeder.heaterFault.set m.1 false })

/-! ## Requests for the payment unit -/

/-- DIRECTORY_WRITE, DIRECTORY_READ and CARD_PROBE: the operands their owner refuses, the refusals of a store that is not UP and
of a part that is NOT_CONFIGURED, and otherwise the request at the tail of the payment request queue, unanswered until a context
answers it (R62, R70, R73). BAD_ARGUMENT for a card-level descriptor of kind TABLE (log entry 22), and STORE_UNAVAILABLE before
NOT_READY where both hold (log entry 25), are the model's choices. -/
def Obligations.DirectoryRequestsQueue : Prop :=
  ∀ (s : State) (tag : Byte), s.Takes →
    (∀ card cls, let c := exec (.cardProbe tag card cls) s
      (s.startUp = .notConfigured → Refuses c s tag (.cardProbe card cls) .notReady) ∧
      (s.startUp ≠ .notConfigured → Queues c s tag (.cardProbe card cls) (.probe card cls))) ∧
    (∀ (x : DirPath) (w : Option (RawDescriptor × NewDescriptor)),
      let p : RawPath := match x with
        | .floor f => ⟨.floor, f.1, 0, 0⟩
        | .flat f n => ⟨.flat, f.1, n.1, 0⟩
        | .card c => ⟨.card, c.floor.1, c.flat.1, c.ordinal.1⟩
      let q := match w with | none => Request.directoryRead p | some d => .directoryWrite p d.1
      let c := match w with | none => exec (.directoryRead tag p) s | some d => exec (.directoryWrite tag p d.1) s
      (∀ d, w = some d → match x, d.2 with
        | .card _, .invalid => d.1.kind = .invalid
        | .card _, .account a attrs hold => d.1.kind = .account ∧ d.1.account = a.1 ∧ d.1.attributes = attrs ∧ d.1.hold = hold ∧
            ¬ (attrs.washersOnly = true ∧ attrs.dryersOnly = true)
        | .card c, .indirect t hold => d.1.kind = .indirect ∧ d.1.targetFloor = t.floor.1 ∧ d.1.targetFlat = t.flat.1 ∧
            d.1.targetOrdinal = t.ordinal.1 ∧ d.1.hold = hold ∧ t ≠ c
        | .floor _, .table on hold | .flat _ _, .table on hold =>
            d.1.kind = (if on then .table else .invalid) ∧ d.1.hold = hold
        | _, _ => False) →
      (s.storeUp = false → Refuses c s tag q .storeUnavailable) ∧
      (s.storeUp = true → s.startUp = .notConfigured → Refuses c s tag q .notReady) ∧
      (s.storeUp = true → s.startUp ≠ .notConfigured → Queues c s tag q (.directory x (w.map Prod.snd)))) ∧
    (∀ p : RawPath, 63 < p.floor ∨ (p.level ≠ .floor ∧ 15 < p.flat) ∨ (p.level = .card ∧ 3 < p.ordinal) →
      Request.passes (.directoryRead p) = true →
        Refuses (exec (.directoryRead tag p) s) s tag (.directoryRead p) .badArgument ∧
        ∀ d, Refuses (exec (.directoryWrite tag p d) s) s tag (.directoryWrite p d) .badArgument) ∧
    ∀ (p : RawPath) (d : RawDescriptor), Request.passes (.directoryRead p) = true →
      (p.level = .card ∧ (d.kind = .table ∨ (d.kind = .account ∧ (1023 < d.account ∨
          (d.attributes.washersOnly = true ∧ d.attributes.dryersOnly = true))) ∨
          (d.kind = .indirect ∧ (63 < d.targetFloor ∨ 15 < d.targetFlat ∨ 3 < d.targetOrdinal ∨
            (d.targetFloor = p.floor ∧ d.targetFlat = p.flat ∧ d.targetOrdinal = p.ordinal)))) ∨
        p.level ≠ .card ∧ (d.kind = .account ∨ d.kind = .indirect)) →
      Refuses (exec (.directoryWrite tag p d) s) s tag (.directoryWrite p d) .badArgument

/-- The seven ACCOUNT requests: the operands their owner refuses, the refusals of a part that is NOT_CONFIGURED and of a store
that is not UP, and otherwise the operation at the tail of the payment request queue (R114 to R118). NOT_READY before
STORE_UNAVAILABLE where both hold is the model's choice (log entry 25). -/
def Obligations.AccountRequestsQueue : Prop :=
  ∀ (s : State) (tag : Byte) (a : Nat), s.Takes →
    let judged (c : Instr) (q : Request) (bad : Prop) (op : AccountOp) :=
      (1023 < a ∨ bad → Refuses (exec c s) s tag q .badArgument) ∧
      ∀ k : AccountNo, k.1 = a → ¬ bad →
        (s.startUp = .notConfigured → Refuses (exec c s) s tag q .notReady) ∧
        (s.startUp ≠ .notConfigured → s.storeUp = false → Refuses (exec c s) s tag q .storeUnavailable) ∧
        (s.startUp ≠ .notConfigured → s.storeUp = true → Queues (exec c s) s tag q (.account k op))
    judged (.accountRead tag a) (.accountRead a) False .read ∧
    judged (.accountClose tag a) (.accountClose a) False .close ∧
    (∀ n, judged (.accountCredit tag a n) (.accountCredit a n) (n < 1 ∨ 100000 < n) (.credit n)) ∧
    (∀ z, judged (.accountAdjust tag a z) (.accountAdjust a z) (z < -100000 ∨ 100000 < z ∨ z = 0) (.adjust z)) ∧
    (∀ o (g : Fin 8), judged (.accountOpen tag a o g.1) (.accountOpen a o g.1) (10000 < o) (.opened o g)) ∧
    (∀ st o (g : Option (Fin 8)), judged (.accountSet tag a st o (g.map Fin.val)) (.accountSet a st o (g.map Fin.val))
      ((st = none ∧ o = none ∧ g = none) ∨ st = some .free ∨ ∃ n, o = some n ∧ 10000 < n) (.set st o g)) ∧
    (∀ st z o (g : Fin 8) v d, judged (.accountSetEveryField tag a ⟨st, z, o, g.1, v, d⟩)
      (.accountSetAll a ⟨st, z, o, g.1, v, d⟩)
      (z < -10000 ∨ 999999 < z ∨ 10000 < o ∨ 65535 < v ∨ 65535 < d) (.setAll st z o g v d)) ∧
    ∀ g, 7 < g →
      (∀ o, Refuses (exec (.accountOpen tag a o g) s) s tag (.accountOpen a o g) .badArgument) ∧
      (∀ st o, Refuses (exec (.accountSet tag a st o (some g)) s) s tag (.accountSet a st o (some g)) .badArgument) ∧
      ∀ st z o v d, Refuses (exec (.accountSetEveryField tag a ⟨st, z, o, g, v, d⟩) s) s tag
        (.accountSetAll a ⟨st, z, o, g, v, d⟩) .badArgument

/-! ## The authorisation cache -/

/-- CACHE_FLUSH. ALL and RESIDENTS invalidate at once and report the scope and the entries invalidated; ALL also ends every
sweep. FLOOR and FLAT request a sweep and report the sweeps waiting; a sweep already waiting satisfies the request, and at a full
sweep queue the request is carried out, and reported, as ALL (R84, R85, R90, R91). LRU orders and pointers stay. That the sweeps are
counted before an idle arbiter begins the one requested (log entry 60), and that ALL drops a sweep step already chosen (log entry 61),
are the model's choices. -/
def Obligations.FlushInvalidates : Prop :=
  ∀ (s : State) (tag : Byte), s.Takes →
    let lost (gone : CacheEntry → Bool) (c : Cache) := ∀ k : Fin 8, (look c.sets k).order = (look s.cache.sets k).order ∧
      (look c.sets k).pointer = (look s.cache.sets k).pointer ∧
      ∀ w, look (look c.sets k).ways w = (look (look s.cache.sets k).ways w).filter fun e => !gone e
    let valid (gone : CacheEntry → Bool) := ((indexes 8).map fun k => ((indexes 4).filter fun w =>
      (look (look s.cache.sets k).ways w).any gone).length).sum
    let all (c : Instr) (q : Request) := Replies (exec c s) s tag q .ok (u8 0 ++ u8 (valid fun _ => true)) [.cache] fun t =>
      ∃ c : Cache, t.cache = c.arbitrate ∧ lost (fun _ => true) c ∧ c = { s.cache with
        sets := c.sets, sweepQueue := [], inFlight := none
        access := if s.cache.access = some .sweep then none else s.cache.access }
    let swept (c : Instr) (q : Request) (scope : Nat) (w : Sweep) :=
      (w ∈ s.cache.sweepQueue →
        Replies (exec c s) s tag q .ok (u8 scope ++ u8 s.cache.sweepQueue.length) [] fun _ => True) ∧
      (w ∉ s.cache.sweepQueue → s.cache.sweepQueue.length < 4 →
        Replies (exec c s) s tag q .ok (u8 scope ++ u8 (s.cache.sweepQueue.length + 1)) [.cache] fun t =>
          t.cache = ({ s.cache with sweepQueue := s.cache.sweepQueue ++ [w] }).arbitrate) ∧
      (w ∉ s.cache.sweepQueue → 4 ≤ s.cache.sweepQueue.length → all c q)
    all (.cacheFlushAll tag) (.cacheFlush .all) ∧
    (Replies (exec (.cacheFlushResidents tag) s) s tag (.cacheFlush .residents) .ok
      (u8 1 ++ u8 (valid fun e => !e.attributes.staff)) [.cache] fun t =>
        ∃ c : Cache, t.cache = c.arbitrate ∧ lost (fun e => !e.attributes.staff) c ∧ c = { s.cache with sets := c.sets }) ∧
    (∀ f : Fin 64, swept (.cacheFlushFloor tag f.1) (.cacheFlush (.floor f.1)) 2 (.floor f)) ∧
    (∀ (f : Fin 64) (n : Fin 16), swept (.cacheFlushFlat tag f.1 n.1) (.cacheFlush (.flat f.1 n.1)) 3 (.flat f n)) ∧
    (∀ f, 63 < f → Refuses (exec (.cacheFlushFloor tag f) s) s tag (.cacheFlush (.floor f)) .badArgument) ∧
    ∀ f n, 63 < f ∨ 15 < n →
      Refuses (exec (.cacheFlushFlat tag f n) s) s tag (.cacheFlush (.flat f n)) .badArgument

/-- A sweep step invalidates the entries of its set that match its sweep and no other, leaves orders and pointers, and goes on to
the next set or ends with set 7 (R84, R86). The arbiter, whose choice ends every event with the array idle, chooses by R87's table: in the
phase LOOKUP the oldest lookup while no sweep is outstanding or the run is below the lookup burst, and otherwise a sweep step; in the phase
SWEEP a sweep step while no lookup waits or the run is below the sweep burst, and otherwise the oldest lookup; the run goes up by one or
starts at 1 with the new phase, and with neither side waiting all is kept. A step chosen with no sweep in flight begins the oldest waiting
sweep at set 0 (R86). That a sweep step the array is not carrying out changes nothing is the model's choice (log entry 2). -/
def Obligations.SweepStepInvalidatesSet : Prop :=
  (∀ (s : State) (w : Sweep) (k : Fin 8), s.Runs → s.cache.access = some .sweep → s.cache.inFlight = some (w, k) →
    let hit (e : CacheEntry) : Bool := match w with
      | .floor f => e.path.floor == f
      | .flat f n => e.path.floor == f && e.path.flat == n
      | .via p => e.via == some p
    Leads (exec .sweepStep s) s [.cache] fun t => ∃ c : Cache, t.cache = c.arbitrate ∧
      c = { s.cache with
        sets := c.sets, access := none
        inFlight := if h : k.1 + 1 < 8 then some (w, ⟨k.1 + 1, h⟩) else none } ∧
      (∀ i, i ≠ k → look c.sets i = look s.cache.sets i) ∧
      (look c.sets k).order = (look s.cache.sets k).order ∧ (look c.sets k).pointer = (look s.cache.sets k).pointer ∧
      ∀ v, look (look c.sets k).ways v = (look (look s.cache.sets k).ways v).filter fun e => !hit e) ∧
  (∀ s : State, s.Runs → s.cache.access ≠ some .sweep → Leads (exec .sweepStep s) s [] fun _ => True) ∧
  ∀ c : Cache,
    let waits := c.lookups ≠ []
    let sweeps := c.inFlight ≠ none ∨ c.sweepQueue ≠ []
    let looks (run : Nat) : Cache := { c with phase := .lookup, run := run, access := some .lookup }
    let steps (run : Nat) : Cache := { c with
      phase := .sweep, run := run, access := some .sweep
      inFlight := match c.inFlight with | some x => some x | none => c.sweepQueue.head?.map fun w => (w, 0)
      sweepQueue := match c.inFlight with | some _ => c.sweepQueue | none => c.sweepQueue.tail }
    (c.access ≠ none → c.arbitrate = c) ∧
    (c.access = none →
      (c.phase = .lookup →
        (waits → ¬ sweeps ∨ c.run < c.lookupBurst → c.arbitrate = looks (c.run + 1)) ∧
        (sweeps → ¬ (waits ∧ c.run < c.lookupBurst) → c.arbitrate = steps 1)) ∧
      (c.phase = .sweep →
        (sweeps → ¬ waits ∨ c.run < c.sweepBurst → c.arbitrate = steps (c.run + 1)) ∧
        (waits → ¬ (sweeps ∧ c.run < c.sweepBurst) → c.arbitrate = looks 1)) ∧
      (¬ waits → ¬ sweeps → c.arbitrate = c))

/-- The array carries out the oldest waiting lookup. On a hit that no sweep is to remove the entry becomes the most recent of its set
(R78, R81): a CARD_PROBE is answered with it, found by the cache, and its context is FREE (R74); an AUTHORISE and an EXTEND are judged by
its hold and class and take their account steps (R59, R100, R103). On a miss, and on a hit that a sweep is to remove, which is
invalidated, the context's walk begins with a read of the floor table (R57, R78); while the store is not UP that read fails back, and a
vend is refused STORE_UNAVAILABLE and a probe reports outcome 4 (R60, R74): that it does so at once is the model's choice (log entry
42). -/
def Obligations.LookupIsJudged : Prop :=
  ∀ (s : State) (c : ContextNo) rest q stale, s.Runs → s.cache.access = some .lookup → s.cache.lookups = c :: rest →
    s.context c = ⟨some q, .lookup, stale⟩ →
    let out := exec .cacheLookup s
    let arrays (sets : Vector CacheSet 8) : Cache :=
      ({ s.cache with lookups := rest, access := none, sets := sets }).arbitrate
    let sets (x : Context) : PaymentUnit := { s.payment with contexts := s.payment.contexts.set c.1 x }
    let looksUp (p : CardPath) (hit : Vector CacheSet 8 → CacheEntry → Prop) (miss : Vector CacheSet 8 → Prop) : Prop :=
      let k := CardPath.set p
      let t := look s.cache.sets k
      let put (x : CacheSet) := s.cache.sets.set k.1 x
      (t.find p = none → miss s.cache.sets) ∧
      ∀ w, t.find p = some w → ∀ e, look t.ways w = some e →
        let swept := s.cache.targets.any fun x => x.matches e
        (swept = true → miss (put { t with ways := t.ways.set w.1 none })) ∧
        (swept = false → hit (put { t with order := t.order.filter (· != w) ++ [w] }) e)
    let walks (p : CardPath) (cls : MachineClass) (v : Vector CacheSet 8) : Prop := s.storeUp = true →
      Leads out s [.cache, .payment, .store] fun t =>
        t.cache = arrays v ∧ t.payment = sets ⟨some q, .walk ⟨p, cls, none, .floor, false, [], false⟩, false⟩ ∧
        t.StoreFrom { s.store with queue := s.store.queue ++ [⟨.context c, .readFloors⟩] }
    (∀ card cls, q = .probe card cls → ∀ f, s.host.buffer = [f] →
      let replies (v : Vector CacheSet 8) (bytes : List Byte) := Leads out s [.cache, .host, .payment] fun t =>
        t.cache = arrays v ∧ t.host = (s.host.answering f .ok bytes).transmit ∧ t.payment = sets Context.initial
      looksUp card.path
        (fun v e => replies v [u8 1, u8 0, u8 0, u8 0, u16 e.account.1, u8 (attributeBits e.attributes),
          yesNo e.hold, yesNo e.via.isSome,
          match e.via with | some p => u8 p.floor.1 ++ u8 p.flat.1 ++ u8 p.ordinal.1 | none => [0#8, 0#8, 0#8],
          u8 0].flatten)
        fun v => walks card.path cls v ∧
          (s.storeUp = false → replies v [u8 4, u8 0, u8 0, u8 0, u16 0xFFFF, u8 0, u8 0, u8 0, [0#8, 0#8, 0#8], u8 0].flatten)) ∧
    ∀ v, PayRequest.vend? q = some v →
      looksUp v.card.path
        (fun x e => s.Judges (fun p port => Leads out s [.cache, .payment, .store] fun t =>
            t.cache = arrays x ∧ t.payment = p ∧ t.StoreFrom port) s.store s.store c q v stale e.hold e.account e.attributes)
        fun x => walks v.card.path v.cls x ∧
          (s.storeUp = false → Leads out s [.cache, .payment] fun t =>
            t.cache = arrays x ∧ t.payment = sets ⟨some q, .reply (.refused .storeUnavailable) none, false⟩)

/-! ## The feeder budget -/

/-- A grant pass goes round the rooms from the one after the pointer's: the first visit that grants is to the first room, going round,
with a queue head that fits; it grants by R148, the pointer names that room, in ALTERNATE the turn passes to the other queue, and the pass
goes on from there; with no head that fits it grants nothing more, and none fits after it (R142, R147, R148). It keeps the bounds of R146,
withdraws nothing, and removes an entry from a queue only by granting it. Every step of the part keeps the bounds, with no queue head that
fits and the building order consistent (R138, R142, R143), whatever the command; that nothing else is at work while the scan runs is kept
with them, for the scan sets capacities and limit without a pass (R187). -/
def Obligations.FeederBoundsAreKept : Prop :=
  (∀ f : Feeder,
    (f.Drained → f.pass = (f, [])) ∧
    (∀ r q c, (∀ k p d, (k - (f.pointer + 1)).1 < (r - (f.pointer + 1)).1 → ¬ f.HeadFits k p d) → f.VisitGrants r q c →
      let g := f.afterGrant r q c
      f.pass = (g.pass.1, c.machine :: g.pass.2)) ∧
    f.pass.1.Drained ∧ (f.Bounded → f.pass.1.Bounded) ∧ f.pass.1.order = f.order ++ f.pass.2 ∧
    f.pass.1.waiting + f.pass.2.length = f.waiting ∧
    ∀ r, (look f.rooms r).grants <+: (look f.pass.1.rooms r).grants) ∧
  ∀ s t : State, s.feeder.Bounded → s.feeder.Consistent → s.feeder.Drained → s.ScanAlone → step s = .next t →
    t.feeder.Bounded ∧ t.feeder.Consistent ∧ t.feeder.Drained ∧ t.ScanAlone

/-- Shedding restores the bounds from any loads, when the building order is consistent. It withdraws one grant after another: from the
first room above its capacity the dryer grant latest in the building order, else the washer grant latest in it; with no room above, and
the total above the effective limit, that of the whole building; and with both bounds kept none. A machine withdrawn leaves its room's
grants and the building order, and its claim joins the tail of its room's RESUME queue, so that those withdrawn stand there in the order of
their withdrawal; no grant of load 0 is withdrawn, and nothing else of the unit changes (R150). -/
def Obligations.SheddingRestoresBounds : Prop :=
  ∀ (f : Feeder) (isDryer : MachineNo → Bool), f.Consistent →
    let x := Feeder.shed isDryer f
    let above (r : RoomNo) := (look f.rooms r).capacity < f.granted r
    let withdraws (r : RoomNo) (c : Claim) :=
      let y := Feeder.shed isDryer (f.afterWithdrawal r c)
      x = (y.1, c.machine :: y.2)
    ((∀ r, ¬ above r) → f.total ≤ f.effectiveLimit → x = (f, [])) ∧
      (∀ r, above r → (∀ k, k < r → ¬ above k) → ∀ c, f.Withdraws isDryer [r] r c → withdraws r c) ∧
      ((∀ r, ¬ above r) → f.effectiveLimit < f.total → ∀ r c, f.Withdraws isDryer (indexes 4) r c → withdraws r c) ∧
      x.1.Bounded ∧ x.1.Consistent ∧ x.1.waiting = f.waiting + x.2.length ∧
      x.1 = { f with rooms := x.1.rooms, order := f.order.filter fun m => !x.2.contains m } ∧
      (∀ r, look x.1.rooms r = { look f.rooms r with
        grants := (look f.rooms r).grants.filter fun c => !x.2.contains c.machine
        resumeQueue := (look f.rooms r).resumeQueue ++
          x.2.filterMap fun m => (look f.rooms r).grants.find? fun c => c.machine == m }) ∧
      ∀ r, ∀ c ∈ (look f.rooms r).grants, c.load = 0 → c ∈ (look x.1.rooms r).grants

/-- DEMAND_SET: a limit above 2000 is refused; a duration is cut to 240 minutes, and 0 ends the demand limit, with a DEMAND_END notice of
cause ENDED and the building limit where one was active (R152, R154). Shedding, a grant pass and the judgement of the backlog follow, in
that order, each as O39, O40 and R155's table say, the sessions and nodes told; no other notice is offered but a BACKLOG (R149, R155).
The reply gives the demand state, the effective limit, the duration taken and the grants withdrawn, and the bounds of R146 then hold
(R139, R152). The expiry of the demand timer ends the limit with DEMAND_END of cause EXPIRED, then a grant pass and the judgement of the
backlog, and withdraws nothing (R153 to R155); with no limit in force it changes nothing, which is the model's choice (log entry 2). -/
def Obligations.DemandLimitChanges : Prop :=
  (∀ (s : State) (tag : Byte) (limit duration : Nat), s.Takes →
    let c := exec (.demandSet tag limit duration) s
    let q := Request.demandSet limit duration
    let d := min duration 240
    let f := { s.feeder with demand := if d = 0 then none else some ⟨limit, d⟩ }
    let effective := if d = 0 then s.feeder.limit else min s.feeder.limit limit
    let ended : List Notice := if d = 0 ∧ s.feeder.demand ≠ none then [.demandEnd .ended s.feeder.limit] else []
    (2000 < limit → Refuses c s tag q .badArgument) ∧
    (limit ≤ 2000 → RepliesFrom (s.host.offered (ended ++ (s.rebalanced f).2)) c s tag q .ok
      (yesNo (d != 0) ++ u16 (if d = 0 then 0 else limit) ++ u16 effective ++ u8 d ++ u8 (s.shedding f).2.length)
      [.feeder, .engine, .line] fun t =>
        OthersKept [] s t ∧ s.Rebalances t f ∧ t.feeder.demand = f.demand ∧ t.feeder.limit = s.feeder.limit ∧
        t.feeder.effectiveLimit = effective ∧ (s.feeder.Consistent → t.feeder.Bounded) ∧ t.feeder.Drained ∧
        (s.feeder.low < s.feeder.high → t.feeder.BacklogSettled))) ∧
  ∀ (s : State), s.Runs →
    (s.feeder.demand = none → Leads (exec .demandTimerExpiry s) s [] fun _ => True) ∧
    ∀ d, s.feeder.demand = some d →
      let p := Feeder.pass { s.feeder with demand := none }
      Leads (exec .demandTimerExpiry s) s [.host, .feeder, .engine, .line] fun t =>
        OthersKept [] s t ∧ t.feeder = p.1.judged.1 ∧ s.HeatTold t [] [] p.2 ∧
        t.host = (s.host.offered (.demandEnd .expired s.feeder.limit :: p.1.judged.2)).transmit ∧
        t.feeder.demand = none ∧ t.feeder.limit = s.feeder.limit ∧ t.feeder.Drained ∧
        (∀ r, (look s.feeder.rooms r).grants <+: (look t.feeder.rooms r).grants) ∧
        (s.feeder.Bounded → t.feeder.Bounded) ∧ (s.feeder.low < s.feeder.high → t.feeder.BacklogSettled)

/-- BUDGET_QUERY answers the whole budget (R157). The minutes remaining of an active demand limit are a free value from 1 to the most
that can remain, which they are from then on (R153); nothing else changes but the index of free values. That the minutes are free (log
entry 6), that the lists of all rooms follow one another, room 0 first, and that positions are counted from 1 (log entry 24), are the
model's choices. -/
def Obligations.BudgetQueryReports : Prop :=
  ∀ (s : State) (tag : Byte), s.Takes → let f := s.feeder
    let minutes := match f.demand with | some d => Config.demandMinutes s.freeIndex % d.left + 1 | none => 0
    Replies (exec (.budgetQuery tag) s) s tag .budgetQuery .ok
      ([u8 f.mode.code, u8 f.pointer.1, yesNo f.backlog, u8 f.waiting, u16 f.limit, yesNo f.demand.isSome,
        u16 (match f.demand with | some d => d.limit | none => 0),
        u8 minutes, u16 f.effectiveLimit, u16 f.total].flatten ++
        (indexes 4).flatMap (fun r => let x := look f.rooms r
          [u16 x.capacity, u16 (f.granted r), u8 x.turn.code, u8 x.grants.length, u8 x.newQueue.length,
            u8 x.resumeQueue.length].flatten) ++
        (indexes 4).flatMap (fun r => (look f.rooms r).grants.flatMap fun c => [u8 c.machine.1,
          u8 (c.load + if (s.machine c.machine).cls = .dryer then 128 else 0), u8 (f.order.idxOf c.machine + 1)].flatten) ++
        (indexes 4).flatMap (fun r => (look f.rooms r).newQueue.flatMap fun c => u8 c.machine.1 ++ u8 c.load) ++
        (indexes 4).flatMap fun r => (look f.rooms r).resumeQueue.flatMap fun c => u8 c.machine.1 ++ u8 c.load)
      (if f.demand = none then [] else [.free, .feeder]) fun t =>
        t.feeder = { f with demand := f.demand.map fun d => { d with left := minutes } }

/-! ## Faults, rules and leaks -/

/-- FAULT_READ answers up to 8 records from a sequence number on, with the counter, the number unacknowledged and the four pending
sets, and changes nothing; a count outside 1 to 8 is refused (R167, R168). FAULT_ACK marks the record of its sequence number
acknowledged and changes nothing else; a number no record has is refused NOT_FOUND (R168). RULES_LOCK sets the rule lock, taken
again or not (R161). -/
def Obligations.FaultLogIsServed : Prop :=
  (∀ (s : State) (tag : Byte) (start count : Nat), s.Takes →
    let o := exec (.faultRead tag start count) s
    let q := Request.faultRead start count
    let rs := (s.supervisor.log.filter fun r => (r.sequence + 4294967296 - start) % 4294967296 < 2147483648).take count
    (count < 1 ∨ 8 < count → Refuses o s tag q .badArgument) ∧
    (1 ≤ count → count ≤ 8 → Replies o s tag q .ok
      (u8 rs.length ++ u32 s.supervisor.counter ++ u8 (s.supervisor.log.filter fun r => !r.acknowledged).length ++
        (indexes 4).flatMap (fun r => machineSetBytes ((indexes 64).filter fun m => (s.machine m).room == r &&
          s.supervisor.log.any fun x => x.source == .machine m && !x.acknowledged)) ++ rs.flatMap recordBytes)
      [] fun _ => True)) ∧
  ∀ (s : State) (tag : Byte), s.Takes →
    (∀ n, (∀ r ∈ s.supervisor.log, r.sequence ≠ n) →
      Refuses (exec (.faultAck tag n) s) s tag (.faultAck n) .notFound) ∧
    (∀ n, (∃ r ∈ s.supervisor.log, r.sequence = n) →
      Replies (exec (.faultAck tag n) s) s tag (.faultAck n) .ok [] [.supervisor] fun t =>
        t.supervisor = { s.supervisor with
          log := s.supervisor.log.map fun r => if r.sequence = n then { r with acknowledged := true } else r }) ∧
    Replies (exec (.rulesLock tag) s) s tag .rulesLock .ok [] [.supervisor] fun t =>
      t.supervisor = { s.supervisor with ruleLock := true }

/-- RULES_SET: refused BAD_ARGUMENT for a node severity of ROOM or for nothing selected, and LOCKED while the rule lock is set;
otherwise what is selected takes its value and the reply gives everything in force. Where the LEAK rule goes from disabled to enabled
the rooms are re-judged: in each that is open with its filtered level at the onset level the onset of R173 is taken. Otherwise no room
closes by it (R160, R161, R176). The model's choices are: BAD_ARGUMENT before LOCKED for a request that is both (log entry 89), the
order of the rooms (82) and of the washers of a room (83), the lamps under a DISABLED link (58), the end of a session with no parts (33),
and the last end cause of a session now settling (69). -/
def Obligations.RulesAreSet : Prop :=
  ∀ (s : State) (tag : Byte) (i : RulesItem), s.Takes →
    let o := exec (.rulesSet tag i) s
    let q := Request.rulesSet i
    let bad := (∃ k, look i.severities k = some .room) ∨
      ((∀ k, look i.enableSelector k = false) ∧ ∀ k, look i.severities k = none)
    let enables := Vector.ofFn fun k : Fin 8 =>
      if look i.enableSelector k then look i.enableValues k else look s.supervisor.enables k
    let severities := Vector.ofFn fun k : Fin 7 => (look i.severities k).getD (look s.supervisor.severities k)
    (bad → Refuses o s tag q .badArgument) ∧
    (¬ bad → s.supervisor.ruleLock = true → Refuses o s tag q .locked) ∧
    let results := u8 (ofBits (enables.toList)) ++ severities.toList.flatMap fun x => u8 x.code
    let v := { s.supervisor with enables := enables, severities := severities }
    let wet := (indexes 4).filter fun r => !(s.guard r).closed && (s.guard r).wet (s.guard r).filtered
    (¬ bad → s.supervisor.ruleLock = false →
      ((look enables 4 = true → look s.supervisor.enables 4 = true) ∨ wet = [] →
        Replies o s tag q .ok results [.supervisor] fun t => t.supervisor = v) ∧
      (look enables 4 = true → look s.supervisor.enables 4 = false → wet ≠ [] → s.LeaksPlainly wet →
        RepliesNoticing o s tag q .ok results [.supervisor, .engine, .line, .feeder, .payment] fun t =>
          OthersKept (s.washersIn wet) s t ∧ s.RoomsClose t wet v))

/-- VALVE_OPEN: refused for a room above 3, and REFUSED_STATE unless the room is closed, its filtered level clear and its closing
record acknowledged or gone; otherwise the valve opens, the room is open again, and the lamp of every machine assigned to it, washer or dryer, is
recomputed: LAMP is queued where its pattern differs from the one last sent, and of machine records and links nothing else changes (R43,
R45, R175). That no LAMP is queued, or kept as last sent, for a DISABLED link is the model's choice (log entry 58). -/
def Obligations.ValveOpenReopensRoom : Prop :=
  ∀ (s : State) (tag : Byte), s.Takes →
    (∀ r, 3 < r → Refuses (exec (.valveOpen tag r) s) s tag (.valveOpen r) .badArgument) ∧
    ∀ r : RoomNo, let g := s.guard r
      let onset := (g.edge = .rising ∧ g.filtered = true) ∨ (g.edge = .falling ∧ g.filtered = false)
      let stands := ∃ n x, g.closing = some n ∧ s.supervisor.log.find? (fun y => y.sequence == n) = some x ∧
        x.acknowledged = false
      (g.closed = false ∨ onset ∨ stands →
        Refuses (exec (.valveOpen tag r.1) s) s tag (.valveOpen r.1) .refusedState) ∧
      (g.closed = true → ¬ onset → ¬ stands →
        Replies (exec (.valveOpen tag r.1) s) s tag (.valveOpen r.1) .ok [] [.supervisor, .engine, .line] fun t =>
          t.supervisor = { s.supervisor with
            rooms := s.supervisor.rooms.set r.1 { g with valveOpen := true, closed := false, closing := none } } ∧
          s.Relamps t r false)

/-- A leak input. A level that comes to differ from the filtered one starts tDEBOUNCE, and one that returns to it stops it; before the
sampling that ends the scan, and without power, only the pin's level changes. tDEBOUNCE, running, makes the level the filtered one; with
the edge select OFF or the LEAK rule disabled nothing more happens, a clear writes a LEAK_CLEARED note, and an onset in an open room
closes it: a LEAK record of severity ROOM as its closing record, the valve CLOSED, the lamp of every machine of the room recomputed (R43),
and an order to each washer of the room, which abandons an authorisation and ends a session from ARMED, DELAYED, RUNNING and STRANDED with
cause FAULT LEAK; an onset in a closed room writes a further record, which becomes the closing record where that is acknowledged (R172 to
R174). The model's choices are: that an unchanged
level, or tDEBOUNCE when it does not run, changes nothing (log entry 2); that before the sampling only the pin's level changes (5), and so
without power (12); the order of the washers (83); the lamps under a DISABLED link (58); the end of a session with no parts (33); and the
last end cause of a session now settling (69). -/
def Obligations.LeakInputIsTaken : Prop :=
  ∀ (s : State) (r : RoomNo), let g := s.guard r
    let room (x : RoomGuard) := { s.supervisor with rooms := s.supervisor.rooms.set r.1 x }
    let n := (s.supervisor.counter + 1) % 4294967296
    let shut : RoomGuard :=
      { g with filtered := g.input, debounce := false, closed := true, valveOpen := false, closing := some n }
    let record (code : FaultCode) (sev : Severity) : FaultRecord :=
      ⟨n, s.clock.day, s.clock.minute, .room r, code, sev, .none, none, false⟩
    (∀ high, s.Runs → s.startingUp = false → high ≠ g.input →
      Leads (exec (.leakInputChange r high) s) s [.supervisor] fun t =>
        t.supervisor = room { g with input := high, debounce := high != g.filtered }) ∧
    (∀ high, s.Runs → high = g.input → Leads (exec (.leakInputChange r high) s) s [] fun _ => True) ∧
    (∀ high, s.Runs → s.startingUp = true → high ≠ g.input →
      Leads (exec (.leakInputChange r high) s) s [.supervisor] fun t => t.supervisor = room { g with input := high }) ∧
    (∀ high, s.powered = false →
      exec (.leakInputChange r high) s = .next { s with supervisor := room { g with input := high } }) ∧
    (s.Runs → g.debounce = false → Leads (exec (.debounceExpiry r) s) s [] fun _ => True) ∧
    (s.Runs → g.debounce = true → g.edge = .off ∨ look s.supervisor.enables 4 = false →
      Leads (exec (.debounceExpiry r) s) s [.supervisor] fun t =>
        t.supervisor = room { g with filtered := g.input, debounce := false }) ∧
    (s.Runs → g.debounce = true → look s.supervisor.enables 4 = true → s.supervisor.log.length < 80 →
      (g.edge = .rising ∧ g.input = false ∨ g.edge = .falling ∧ g.input = true →
        LeadsNoticing (exec (.debounceExpiry r) s) s [.supervisor] fun t =>
          t.supervisor = { room { g with filtered := g.input, debounce := false } with
            log := s.supervisor.log ++ [record .leakCleared .note], counter := n }) ∧
      (g.edge = .rising ∧ g.input = true ∨ g.edge = .falling ∧ g.input = false → g.closed = false →
        (∀ m, (s.machine m).assigned = true → (s.machine m).cls = .washer → (s.machine m).room ≠ r) →
        LeadsNoticing (exec (.debounceExpiry r) s) s [.supervisor, .engine, .line] fun t =>
          t.supervisor = { room shut with log := s.supervisor.log ++ [record .leak .room], counter := n } ∧
          s.Relamps t r true) ∧
      (g.edge = .rising ∧ g.input = true ∨ g.edge = .falling ∧ g.input = false → g.closed = false →
        let washer (m : MachineNo) : Bool :=
          (s.machine m).assigned && (s.machine m).cls == .washer && (s.machine m).room == r
        let ends (m : MachineNo) : Bool := washer m && [.armed, .delayed, .running, .stranded].contains (s.machine m).state
        (s.startUp = .recovering → ∃ k, (s.machine k).state = .recovering) →
        (∀ m, washer m = true → look s.supervisor.ending m = none ∧
          ((s.machine m).state = .settling → ∀ y, (s.machine m).session = some y → y.parts ≠ [])) →
        LeadsNoticing (exec (.debounceExpiry r) s) s [.supervisor, .engine, .line, .feeder, .payment] fun t =>
          t.supervisor = { room shut with log := s.supervisor.log ++ [record .leak .room], counter := n } ∧
          OthersKept ((indexes 64).filter washer) s t ∧ s.LampsFollow t [r] ∧
          t.payment = { s.payment with
            queue := s.payment.queue ++ (indexes 64).filterMap fun m =>
              ((s.machine m).session.filter fun y =>
                ends m && y.parts != [] && (s.machine m).outstanding == .none).map fun y =>
                  .settle m y.id (.fault .leak) y.elapsed y.paused } ∧
          ∀ m, washer m = true → let r0 := s.machine m
            let linked := (s.link m).state ≠ .disabled
            let lamp := (t.machine m).lampSent
            (linked → r0.state ≠ .unassigned → lamp = s.lamps.outOfOrder ∧
              (r0.lampSent ≠ lamp → (t.link m).table.lamp = some s.lamps.outOfOrder)) ∧
            let kept : MachineRecord := { r0 with
              abandoned := if r0.state = .authorising then some (r0.abandoned.getD .leak) else r0.abandoned }
            (ends m = false → (t.machine m).butHeat = kept.butHeat) ∧
            (ends m = true → ∀ y, r0.session = some y →
              t.machine m = (if y.parts ≠ [] then { r0.settling y (.fault .leak) .done with lampSent := lamp }
                else { r0.settling y (.fault .leak) .done with
                  state := if r0.doorOpened then .idle else .done,
                  session := none, outstanding := .none, doorOpened := false, lampSent := lamp }) ∧
              t.feeder.holdsGrant m = false ∧ t.feeder.queued m = false ∧
              (linked → r0.state = .armed ∨ r0.state = .delayed → (t.link m).table.arm = some (.disable y.id)) ∧
              (linked → r0.state = .running ∨ r0.state = .stranded → (t.link m).table.stop = some y.id))) ∧
      (g.edge = .rising ∧ g.input = true ∨ g.edge = .falling ∧ g.input = false → g.closed = true →
        ∀ q, g.closing = some q → ∀ x, s.supervisor.log.find? (fun y => y.sequence == q) = some x →
          LeadsNoticing (exec (.debounceExpiry r) s) s [.supervisor] fun t =>
            t.supervisor = { (if x.acknowledged then room { g with
                filtered := g.input, debounce := false, closing := some n }
              else room { g with filtered := g.input, debounce := false }) with
                log := s.supervisor.log ++ [record .leak (if x.acknowledged then .room else .note)], counter := n }))

/-! ## The machine line -/

/-- The line's choices and the end of an exchange. A free line, at the end of every event, addresses the first member at or after the
pointer, counting upward and wrapping, of the first group that has one: ONLINE nodes with a command, PROBING, SILENT and LOST nodes whose
slow timer has expired, ONLINE nodes; with the table's first entry in the send order or a POLL, the acknowledgement owed, and a slow node's
timer started; with no member it stays idle (R36, R41). With no exchange, or after tREPLY, a reply is discarded; one to be discarded ends
its exchange without effect (R29, R37). A reply with a bad check or address, and tREPLY, count a miss by the link's state, the third of an
ONLINE link making it SILENT (R28, R38); the line is then free and the pointer past the node (R41). A good reply clears the misses and the
acknowledgement owed and its echo the entry it confirms (R33, R36). One of a PROBING or LOST node brings the link back (R39); it is the
return that stops the tGRACE of a STRANDED machine, and the first good reply that stops a RECOVERING one's window, also where its summary is
not judged (R21, R22). Its summary is judged by the rows of R19, and R21 and R22 for STRANDED and RECOVERING, once no STOP, arm-group, GO or
FINISH entry stands; heat asked for then is answered, and heat released leaves, by the feeder's rules (R142 to R144, R149, R155). Its
report, where the summary calls for nothing, is taken once (R31, R32): CARD (R8, R17), START_PRESSED (R10, R12), PHASE (R13, R14), DOOR
(R7), FAULT by its severity (R159, R162, R163), and NODE_RESET, whose effects a repeat has too (R33). A dryer's start loads its increment
counter and asks for heat (R12, R13); START_PRESSED after ARM_EXPIRED is refused with that reason (R10). A summary that calls for nothing
but shows the heater on, with no grant, no command that turns it off waiting or just confirmed and the flag clear, sets the flag and is
reported HEAT_WITHOUT_GRANT (R156), judged by the machine's state (R162). The last RECOVERING machine's first judged reply makes the part
READY (R22, R209). The model's choices are: a reply or tREPLY with no exchange open (log entry 2); what a check is taken over (16); that the
return stops those timers unjudged and the first summary judged after it decides (26); an UNBILLED session's start and its missing STARTED
notice (27); RECOVERING (28, 64); a second REFUSE (36); sent lamps (58); the last end cause of a session now settling (69); a node RUNNING
with id 0 (70); the id of DISABLE (71), and of STOP at a LOCKED_OUT machine (94); tREPLY on the exchange of a link disabled in the meantime
(80); and the order of R8's rows at an IDLE machine (97). -/
def Obligations.ReplyEndsExchange : Prop :=
  -- the choice that ends every event with the line free (R36, R41)
  (∀ c : LineController,
    let l (k : MachineNo) := look c.links k
    let commands (k : MachineNo) := (l k).state = .online ∧ (l k).table ≠ CommandTable.empty
    let slow (k : MachineNo) :=
      ((l k).state = .probing ∨ (l k).state = .silent ∨ (l k).state = .lost) ∧ (l k).slow = .expired
    let polls (k : MachineNo) := (l k).state = .online
    let first (t : CommandTable) : Option NodeCommand :=
      t.stop.map .stop <|> t.lock.map .lock <|>
        t.arm.map (fun | .enable id prog price mode => .enable id prog price mode | .disable id => .disable id) <|>
        t.go.map .go <|> t.finish.map .finish <|>
        t.heat.map (fun | .grant id => .heatGrant id | .hold id => .heatHold id) <|> t.refuse.map .refuse <|> t.lamp.map .lamp
    let addresses (group : MachineNo → Prop) := ∀ k, group k → (∀ j, group j → (k - c.pointer).1 ≤ (j - c.pointer).1) →
      c.begin = { c with
        exchange := some ⟨k, first (l k).table, (l k).ackOwed, false⟩
        links := c.links.set k.1 { l k with slow := if (l k).state = .online then (l k).slow else .running } }
    (c.exchange ≠ none → c.begin = c) ∧
    (c.exchange = none →
      addresses commands ∧ ((∀ k, ¬ commands k) → addresses slow) ∧
        ((∀ k, ¬ commands k) → (∀ k, ¬ slow k) → addresses polls ∧ ((∀ k, ¬ polls k) → c.begin = c)))) ∧
  ∀ (s : State) (r : NodeReply), s.Runs →
    let out := exec (.nodeReply r) s
    let timeout := exec .replyTimeout s
    (s.line.exchange = none → Leads out s [] (fun _ => True) ∧ Leads timeout s [] fun _ => True) ∧
    (r.late = true → Leads out s [] fun _ => True) ∧
    ∀ x, s.line.exchange = some x →
      let m := x.node
      let l := s.link m
      let r0 := s.machine m
      let free (k : Link) : LineController :=
        { s.line with links := s.line.links.set m.1 k, exchange := none, pointer := m + 1 }
      let missed : Link := match l.state with
        | .online => if l.misses + 1 < 3 then { l with misses := l.misses + 1 }
          else { l with misses := 3, state := .silent, silentTimer := true, slow := .running }
        | .disabled => l
        | .probing | .silent | .lost => { l with slow := .running }
      let good := crc8 r.body = r.check ∧ r.address = m
      let feeder : Feeder := { s.feeder with heaterFault := s.feeder.heaterFault.set m.1 false }
      let v := s.supervisor
      let seq := (v.counter + 1) % 4294967296
      let record (c : FaultCode) (sev : Severity) : FaultRecord :=
        ⟨seq, s.clock.day, s.clock.minute, .machine m, c, sev,
          match r0.session with | some y => .session y.id | none => .none, none, false⟩
      let noted (c : FaultCode) (sev : Severity) : Supervisor := { v with log := v.log ++ [record c sev], counter := seq }
      let back : Link := { l with
        state := .online, misses := 0, ackOwed := none, table := l.table.echo x.command r.echo
        silentTimer := l.state != .silent && l.silentTimer }
      let n := r.summary
      let runs := n.state = .running ∨ n.state = .held
      let own := r0.session.map Session.id = some n.sessionId
      let judging := back.table.stop = none ∧ back.table.arm = none ∧ back.table.go = none ∧ back.table.finish = none
      let shut := r0.cls = .washer ∧ (s.guard r0.room).closed = true
      let calm := ¬ judging ∨ match r0.state with
        | .unassigned | .offline | .authorising => True
        | .idle => if runs then n.sessionId = 0 else n.state ≠ .armed
        | .done => if runs then n.sessionId = 0 else n.state ≠ .idle
        | .armed | .delayed => n.state = .armed ∨ n.state = .ended ∨ runs ∧ ¬ own
        | .running => runs ∧ own ∧ (n.door = .opened → (r0.session.map Session.doorFaultRaised) = some true)
        | .settling => n.state ≠ .idle ∧ (runs → n.sessionId = 0 ∨ n.sessionId ≠ r0.stoppedId)
        | .lockedOut => ¬ runs
        | .stranded | .recovering => False
      let others (t : State) := t.engine = { s.engine with machines := t.engine.machines } ∧
        OthersKeptWith [m] none (m + 1) s t
      let leaves (k : Link) := Leads out s [.line, .feeder] fun t => t.line = (free k).begin ∧ t.feeder = feeder
      let becomes (k : Link) (q : MachineRecord) := Leads out s [.line, .feeder, .engine] fun t =>
        t.line = (free k).begin ∧ t.feeder = feeder ∧
          t.engine = { s.engine with machines := s.engine.machines.set m.1 q }
      let enters (q : MachineRecord) (more : State → Prop) := Leads out s [.line, .feeder, .engine] fun t =>
        others t ∧ t.feeder = feeder ∧ t.machine m = { q with lampSent := (t.machine m).lampSent } ∧ more t
      let started (y : Session) : Session :=
        { y with startDay := s.clock.day, startMinute := s.clock.minute, allowance := s.engine.overrunMinutes }
      let goes (y z : Session) (more : State → Prop) := Leads out s [.line, .feeder, .engine, .host] fun t =>
        others t ∧ t.feeder = feeder ∧
        t.host = (s.host.offered [.sessionStarted m y.id y.mode s.clock.day s.clock.minute]).transmit ∧
        t.machine m = { r0 with
          state := .running, armTimer := none, minuteTimer := true, lampSent := (t.machine m).lampSent
          session := some (started z) } ∧
        (t.link m).table.go = some y.id ∧ more t
      let goesHeating (y z : Session) (more : State → Prop) := Leads out s [.line, .feeder, .engine, .host] fun t =>
        others t ∧ t.feeder.heaterFault = feeder.heaterFault ∧
        (∃ h ns, t.machine m = { r0 with
            state := .running, armTimer := none, minuteTimer := true, lampSent := (t.machine m).lampSent
            session := some { started z with increment := (look s.tariff.dryers y.programme).length, heat := h } } ∧
          s.HeatAnswered t m r0.room (look s.tariff.dryers y.programme).heat y.id h ns ∧
          t.host = (s.host.offered (.sessionStarted m y.id y.mode s.clock.day s.clock.minute :: ns)).transmit) ∧
        (t.link m).table.go = some y.id ∧ more t
      let heat (t : State) := (t.machine m).session.map Session.heat
      let load (p : ProgrammeNo) : Nat := match r0.cls with
        | .washer => (look s.tariff.washers p).heat
        | .dryer => (look s.tariff.dryers p).heat
      let unasked (t : State) := t.feeder = feeder ∧ t.host = s.host.transmit ∧ heat t = r0.session.map Session.heat
      let asks (y : Session) (t : State) := t.feeder.heaterFault = feeder.heaterFault ∧
        ∃ h ns, heat t = some h ∧ s.HeatAnswered t m r0.room (load y.programme) y.id h ns ∧
          t.host = (s.host.offered ns).transmit
      let completes (y : Session) (after : AfterSettle) (more : State → Prop) :=
        LeadsNoticing out s [.line, .feeder, .engine, .payment] fun t =>
          others t ∧ s.Ends t m y .completed after ∧ more t
      let faulted (y : Session) (c : FaultCode) (sev : Severity) (after : AfterSettle) (more : State → Prop) :=
        LeadsNoticing out s [.line, .feeder, .engine, .payment, .supervisor] fun t =>
          others t ∧ s.Ends t m y (.fault c) after ∧ more t ∧
          t.supervisor = { noted c sev with
            ending := v.ending.set m.1 (some seq)
            locking := if sev = .lockout then v.locking.set m.1 (some seq) else v.locking }
      let stopped (id : Nat) (t : State) := (t.link m).table.stop = some id
      let disabled (id : Nat) (t : State) := (t.link m).table.arm = some (.disable id)
      let small := v.log.length < 80
      (x.discard = true →
        (r.late = false → Leads out s [.line] fun t => t.line = (free l).begin) ∧
        Leads timeout s [.line] fun t => t.line = (free l).begin) ∧
      (x.discard = false →
        (r.late = false → ¬ good → Leads out s [.line] fun t => t.line = (free missed).begin) ∧
        Leads timeout s [.line] fun t => t.line = (free missed).begin) ∧
      (x.discard = false → r.late = false → good → n.heater = false → s.OtherRecovering m →
        -- the link returns from PROBING or LOST (R39)
        (l.state = .probing ∨ l.state = .lost → r.report = none → n.state = .idle →
          r0.state = .offline ∨ r0.state = .idle ∨ r0.state = .lockedOut ∨ r0.state = .authorising →
          let up := r0.state = .offline ∧ r0.assigned = true ∧ r0.enabled = true
          enters (if up then { r0 with state := .idle } else r0) fun t =>
            (t.link m).state = .online ∧ (t.link m).misses = 0 ∧ (t.link m).lastReport = none ∧ (t.link m).ackOwed = none) ∧
        -- the return stops tGRACE, or the recovery window, though its summary is not judged (R21, R22)
        (l.state = .probing ∨ l.state = .lost → r.report = none → ¬ judging → r0.state = .stranded ∨ r0.state = .recovering →
          enters (if r0.state = .stranded then { r0 with graceTimer := none } else { r0 with recoveryWindow := false }) fun t =>
            (t.link m).state = .online ∧ (t.link m).misses = 0 ∧ (t.link m).lastReport = none ∧ (t.link m).ackOwed = none) ∧
        -- the rows of R19 on a link that was ONLINE or SILENT, the reply carrying no report
        (l.state = .online ∨ l.state = .silent → r.report = none →
          (calm → leaves back) ∧
          (judging → runs →
            r0.state = .lockedOut ∨ n.sessionId ≠ 0 ∧ n.sessionId = r0.stoppedId ∧
              (r0.state = .idle ∨ r0.state = .done ∨ r0.state = .settling) →
            leaves { back with table := { back.table with stop := some n.sessionId } }) ∧
          (judging → r0.state = .idle → n.state = .armed →
            leaves { back with table := { back.table with arm := some (.disable n.sessionId) } }) ∧
          (judging → r0.state = .settling → n.state = .idle → becomes back { r0 with doorOpened := true }) ∧
          (judging → r0.state = .done → n.state = .idle → enters { r0 with state := .idle } fun _ => True) ∧
          (judging → r0.state = .idle ∨ r0.state = .done → runs → n.sessionId ≠ 0 → n.sessionId ≠ r0.stoppedId →
            r0.session = none → small →
            (shut → LeadsNoticing out s [.line, .feeder, .supervisor] fun t =>
              t.line = (free { back with table := { back.table with stop := some n.sessionId } }).begin ∧
              t.feeder = feeder ∧ t.supervisor = noted .foreignRun .note) ∧
            (¬ shut → Leads out s [.line, .feeder, .engine, .supervisor, .host] fun t =>
              others t ∧ t.supervisor = noted .foreignRun .note ∧
              (∃ h ns q pending, heat t = some h ∧ t.host = (s.host.offered (.fault q pending :: ns)).transmit ∧
                (r0.cls = .washer → t.feeder = feeder ∧ h = .none ∧ ns = []) ∧
                (r0.cls = .dryer → t.feeder.heaterFault = feeder.heaterFault ∧
                  s.HeatAnswered t m r0.room (look s.tariff.dryers 0).heat n.sessionId h ns)) ∧
              (t.machine m).butHeat = ({ r0 with
                state := .running, minuteTimer := true
                session := some { newSession n.sessionId 0 .unbilled 0 0 [] with
                  startDay := s.clock.day, startMinute := s.clock.minute } } : MachineRecord).butHeat)) ∧
          ∀ y, r0.session = some y →
            (judging → r0.state = .armed → runs → own →
              (y.mode = .delayed → enters { r0 with state := .delayed, armTimer := none, minuteTimer := true } fun _ => True) ∧
              (y.mode ≠ .delayed → r0.cls = .washer → goes y y fun _ => True) ∧
              (y.mode ≠ .delayed → r0.cls = .dryer → goesHeating y y fun _ => True)) ∧
            (judging → r0.state = .delayed → runs → own →
              (r0.cls = .washer → goes y { y with delay := 0 } fun _ => True) ∧
              (r0.cls = .dryer → goesHeating y { y with delay := 0 } fun _ => True)) ∧
            (judging → r0.state = .running → n.state = .ended ∨ n.state = .idle → y.parts ≠ [] →
              completes y .done fun _ => True) ∧
            (judging → y.parts ≠ [] →
              (r0.state = .running ∧ (n.state = .interrupted ∨ n.state = .armed ∨ runs ∧ ¬ own)) ∨
                ((r0.state = .armed ∨ r0.state = .delayed) ∧ (n.state = .idle ∨ n.state = .interrupted)) →
              let sent := if r0.state = .running then stopped y.id else disabled y.id
              (look v.enables 5 = true → small → faulted y .powerInterrupt .stop .done sent) ∧
              (look v.enables 5 = false → LeadsNoticing out s [.line, .feeder, .engine, .payment] fun t =>
                others t ∧ s.Ends t m y (.fault .powerInterrupt) .done ∧ sent t)) ∧
            (judging → r0.state = .running → runs → own → n.door = .opened → y.doorFaultRaised = false →
              (look v.enables 2 = false → becomes back { r0 with session := some { y with doorFaultRaised := true } }) ∧
              (look v.enables 2 = true → small → y.parts ≠ [] →
                LeadsNoticing out s [.line, .feeder, .engine, .payment, .supervisor] fun t =>
                  others t ∧ stopped y.id t ∧ (t.machine m).state = .settling ∧
                  (t.machine m).session = some { y with
                    doorFaultRaised := true, heat := .none, endCause := some (.fault .doorOpenRunning) } ∧
                  (t.machine m).afterSettle = .lockedOut .doorOpenRunning ∧
                  t.supervisor = { noted .doorOpenRunning .lockout with
                    ending := v.ending.set m.1 (some seq), locking := v.locking.set m.1 (some seq) }))) ∧
        -- STRANDED and RECOVERING (R21, R22)
        (l.state ≠ .disabled → r.report = none → judging → ∀ y, r0.session = some y →
          let resumes (q : MachineRecord) (more : State → Prop) :=
            Leads out s [.line, .feeder, .engine, .supervisor, .host] fun t =>
              others t ∧ (t.machine m).butHeat = q.butHeat ∧ more t
          (r0.state = .stranded →
            (y.strandedFrom = some .running → runs → own →
              resumes { r0 with
                state := .running, graceTimer := none, minuteTimer := true, session := some { y with strandedFrom := none } }
                fun t => t.supervisor = v ∧ (y.heat = .none → unasked t) ∧ (y.heat ≠ .none → asks y t)) ∧
            (y.strandedFrom = some .delayed → n.state = .armed → own →
              resumes { r0 with
                state := .delayed, graceTimer := none, minuteTimer := true, session := some { y with strandedFrom := none } }
                fun t => t.supervisor = v ∧ unasked t) ∧
            (y.strandedFrom = some .running → n.state = .ended ∨ n.state = .idle → y.parts ≠ [] →
              completes y .done fun _ => True) ∧
            (n.state = .interrupted ∨ runs ∧ ¬ own → y.parts ≠ [] → look v.enables 5 = true → small →
              faulted y .powerInterrupt .stop .done (stopped y.id))) ∧
          (r0.state = .recovering → r0.afterSettle = .done →
            let running (z : Session) (more : State → Prop) := resumes { r0 with
                state := .running, recoveryWindow := false, minuteTimer := true
                session := some { z with allowance := s.engine.overrunMinutes } } fun t =>
                  t.supervisor = { v with locking := v.locking.set m.1 none } ∧ more t
            (runs → own → r0.cls = .washer → ¬ shut →
              running y fun t => (n.state = .held → asks y t) ∧ (n.state = .running → unasked t)) ∧
            (runs → own → r0.cls = .dryer → y.elapsed < y.units →
              let length := (look s.tariff.dryers y.programme).length
              running { y with increment := length - y.elapsed % length } fun t => asks y t) ∧
            (runs → own → r0.cls = .dryer → y.units ≤ y.elapsed →
              running { y with finishSent := true } fun t =>
                (t.link m).table.finish = some y.id ∧ heat t = some .none ∧ t.feeder.heaterFault = feeder.heaterFault ∧
                ∃ ns, s.HeatReleased t m ns ∧ t.host = (s.host.offered ns).transmit) ∧
            (runs → own → shut → y.parts ≠ [] → look v.enables 4 = true → small →
              faulted y .leak .stop .done fun _ => True) ∧
            (n.state = .ended ∨ n.state = .idle → y.parts ≠ [] → completes y .done fun _ => True) ∧
            (n.state = .interrupted ∨ n.state = .armed ∨ runs ∧ ¬ own → y.parts ≠ [] → look v.enables 5 = true → small →
              faulted y .powerInterrupt .stop .done fun _ => True))) ∧
        -- the reports of R31, with a summary that calls for nothing
        (l.state = .online ∨ l.state = .silent → calm → ∀ p g, r.report = some (p, g) →
          let kind := reportKind p
          let new := l.lastReport ≠ some (kind, g)
          let took : Link := { back with lastReport := some (kind, g), ackOwed := some g }
          (Report.isReset p = false → ¬ new → leaves { back with ackOwed := some g }) ∧
          (kind = .card → new → r0.outstanding ≠ .none → leaves back) ∧
          (∀ card prog count, p = .card card prog count → new → r0.outstanding = .none →
            let refused (why : Reason) := Leads out s [.line, .feeder, .host] fun t =>
              t.line = (free { took with table := { took.table with refuse := some why } }).begin ∧ t.feeder = feeder ∧
              t.host = (s.host.offered [.refusal m card why]).transmit
            (r0.state = .lockedOut ∨ r0.state = .recovering → refused .outOfOrder) ∧
            (r0.state ∈ [.armed, .delayed, .settling, .done] ∨ r0.state = .running ∧ r0.cls = .washer →
              refused .machineBusy) ∧
            (r0.state = .idle → shut → refused .roomClosed) ∧
            (r0.state = .idle → ¬ shut → (r0.cls = .washer ∧ 480 < count) ∨ 7 < prog → refused .programmeInvalid) ∧
            (r0.state = .idle → ¬ shut → (r0.cls = .washer → count ≤ 480) → ∀ k : Fin 8, k.1 = prog →
              let id := if s.engine.idCounter < 65535 then s.engine.idCounter + 1 else 1
              let delay := if r0.cls = .washer then count else 0
              Leads out s [.line, .feeder, .engine, .payment] fun t =>
                t.feeder = feeder ∧ OthersKeptWith [m] none (m + 1) s t ∧
                t.engine = { s.engine with machines := t.engine.machines, idCounter := id } ∧
                t.machine m = { r0 with
                  state := .authorising, outstanding := .authorise, lampSent := (t.machine m).lampSent
                  session := some (newSession id k (if delay = 0 then .immediate else .delayed) delay 0 []) } ∧
                (t.link m).ackOwed = some g ∧ (t.link m).lastReport = some (.card, g) ∧
                t.payment = { s.payment with queue := s.payment.queue ++
                  [.authorise m r0.cls card k (if r0.cls = .washer then 0 else count) id] }) ∧
            ∀ y, r0.session = some y → r0.state = .running → r0.cls = .dryer →
              (y.mode = .service ∨ y.mode = .unbilled ∨ y.finishSent = true → refused .machineBusy) ∧
              (y.mode ≠ .service → y.mode ≠ .unbilled → y.finishSent = false →
                (4 ≤ y.parts.length → refused .partLimit) ∧
                (y.parts.length < 4 → Leads out s [.line, .feeder, .engine, .payment] fun t =>
                  t.line = (free took).begin ∧ t.feeder = feeder ∧
                  t.engine = { s.engine with machines := s.engine.machines.set m.1 { r0 with outstanding := .extend } } ∧
                  t.payment = { s.payment with
                    queue := s.payment.queue ++ [.extend m card y.programme count y.id] }))) ∧
          (∀ y, r0.session = some y → p = .startPressed → new → r0.state = .armed →
            (y.mode ≠ .delayed → r0.cls = .washer → goes y y fun t =>
              (t.link m).ackOwed = some g ∧ (t.link m).lastReport = some (.startPressed, g)) ∧
            (y.mode ≠ .delayed → r0.cls = .dryer → goesHeating y y fun t =>
              (t.link m).ackOwed = some g ∧ (t.link m).lastReport = some (.startPressed, g)) ∧
            (y.mode = .delayed → enters { r0 with state := .delayed, armTimer := none, minuteTimer := true } fun t =>
              (t.link m).ackOwed = some g ∧ (t.link m).lastReport = some (.startPressed, g))) ∧
          (p = .startPressed → new → r0.state ≠ .armed →
            let expired := r0.state = .settling ∧ r0.session.bind Session.endCause = some .armExpired ∨
              r0.state = .idle ∧ r0.lastEnd = some .armExpired
            (expired → leaves { took with table := { took.table with refuse := some .armExpired } }) ∧
            (¬ expired → leaves took)) ∧
          (∀ ph, p = .phase ph → new →
            (r0.state ≠ .running ∨ ph ∈ [.fill, .wash, .rinse, .spin] ∨ r0.cls = .dryer ∧ ph ≠ .finished → leaves took) ∧
            (∀ y, r0.session = some y → r0.state = .running →
              (ph = .finished → y.parts ≠ [] → completes y .done fun t => (t.link m).ackOwed = some g) ∧
              (ph = .heatDone → r0.cls = .washer →
                Leads out s [.line, .feeder, .engine, .host] fun t =>
                  others t ∧ (t.link m).ackOwed = some g ∧
                  t.machine m = { r0 with
                    lampSent := (t.machine m).lampSent, session := some { y with heat := .none } } ∧
                  t.feeder.holdsGrant m = false ∧ t.feeder.queued m = false ∧ t.feeder.heaterFault = feeder.heaterFault ∧
                  ∃ ns, s.HeatReleased t m ns ∧ t.host = (s.host.offered ns).transmit) ∧
              (ph = .heatRequest → r0.cls = .washer → y.heat = .none →
                Leads out s [.line, .feeder, .engine, .host] fun t =>
                  others t ∧ (t.link m).ackOwed = some g ∧ (t.machine m).butHeat = r0.butHeat ∧ asks y t))) ∧
          (∀ o, p = .door o → new →
            (o = false ∨ r0.state ≠ .settling ∧ r0.state ≠ .done → leaves took) ∧
            (o = true → r0.state = .settling → becomes took { r0 with doorOpened := true }) ∧
            (o = true → r0.state = .done → enters { r0 with state := .idle } fun t => (t.link m).ackOwed = some g)) ∧
          (∀ f, p = .fault f → new → small → let sev := look v.severities f.index
            (sev = .note ∨ sev = .stop ∧ r0.state ∉ [.armed, .delayed, .running, .stranded] →
              (r0.state = .settling → ∀ y, r0.session = some y → y.parts ≠ []) →
              LeadsNoticing out s [.line, .feeder, .supervisor] fun t =>
                t.line = (free took).begin ∧ t.feeder = feeder ∧ t.supervisor = noted (.node f) .note) ∧
            (sev = .lockout → r0.state = .idle ∨ r0.state = .done →
              LeadsNoticing out s [.line, .feeder, .supervisor, .engine, .store] fun t =>
                others t ∧ t.feeder = feeder ∧ (t.link m).table.lock = some true ∧ (t.link m).ackOwed = some g ∧
                t.machine m = { r0 with
                  state := .lockedOut, lockout := some (.node f), lampSent := (t.machine m).lampSent } ∧
                t.supervisor = { noted (.node f) .lockout with locking := v.locking.set m.1 (some seq) } ∧
                t.StoreFrom { s.store with lockoutMarks := s.store.lockoutMarks.set m.1 true }) ∧
            (∀ y, r0.session = some y → r0.state = .running → y.parts ≠ [] →
              (sev = .stop → faulted y (.node f) .stop .done (stopped y.id)) ∧
              (sev = .lockout → faulted y (.node f) .lockout (.lockedOut (.node f)) (stopped y.id)))) ∧
          (∀ b, p = .nodeReset b → enters r0 fun t =>
            (t.link m).table.refuse = none ∧ (t.link m).ackOwed = some g ∧
            (t.link m).lastReport = some (.nodeReset, g) ∧
            (r0.state = .lockedOut → (t.link m).table.lock = some true) ∧
            ∀ src, lampSource r0 (s.guard r0.room).closed = some src →
              (t.link m).table.lamp = some (lampFor s.lamps src) ∧ (t.machine m).lampSent = lampFor s.lamps src))) ∧
      -- the last RECOVERING machine leaves RECOVERING, and the part is READY (R209)
      (x.discard = false → r.late = false → good → n.heater = false → judging → l.state ≠ .disabled → r.report = none →
        s.LastRecovering m → r0.session ≠ none →
        Leads out s [.startUp, .host, .line, .feeder, .engine, .payment, .supervisor, .store] s.Readies) ∧
      -- the heater on, with a summary that calls for nothing and no report (R156)
      (x.discard = false → r.late = false → good → n.heater = true → s.OtherRecovering m →
        l.state = .online ∨ l.state = .silent → calm → r.report = none →
        let off (c : NodeCommand) : Bool := match c with
          | .stop _ | .lock true | .disable _ | .finish _ | .heatHold _ => true
          | _ => false
        let waits := ∃ c, (back.table.entryOf c).any off = true
        let confirmed := match x.command, r.echo with
          | some c, some d => l.table.entryOf c = some d ∧ off d = true
          | _, _ => False
        let unheeded := ¬ s.feeder.holdsGrant m ∧ ¬ waits ∧ ¬ confirmed ∧ look s.feeder.heaterFault m = false
        let alarm : Feeder := { s.feeder with heaterFault := s.feeder.heaterFault.set m.1 true }
        let code := FaultCode.heatWithoutGrant
        let locking := { noted code .lockout with locking := v.locking.set m.1 (some seq) }
        let lockedOut : Prop := match r0.afterSettle with | .lockedOut _ => True | _ => False
        (¬ unheeded → Leads out s [.line] fun t => t.line = (free back).begin) ∧
        (unheeded → look v.enables 3 = false → Leads out s [.line, .feeder] fun t =>
          t.line = (free back).begin ∧ t.feeder = alarm) ∧
        (unheeded → look v.enables 3 = true → small →
          (r0.state = .lockedOut ∨ r0.state = .unassigned ∨ r0.state = .settling ∧ lockedOut ∧
              (∀ y, r0.session = some y → y.parts ≠ []) →
            LeadsNoticing out s [.line, .feeder, .supervisor] fun t =>
              t.line = (free back).begin ∧ t.feeder = alarm ∧ t.supervisor = noted code .note) ∧
          (r0.state = .settling → ¬ lockedOut → (∀ y, r0.session = some y → y.parts ≠ []) →
            LeadsNoticing out s [.line, .feeder, .supervisor, .engine] fun t =>
              t.line = (free back).begin ∧ t.feeder = alarm ∧ t.supervisor = locking ∧
              t.engine = { s.engine with machines := s.engine.machines.set m.1 { r0 with afterSettle := .lockedOut code } }) ∧
          (r0.state = .idle ∨ r0.state = .done ∨ r0.state = .offline →
            LeadsNoticing out s [.line, .feeder, .supervisor, .engine, .store] fun t =>
              others t ∧ t.feeder = alarm ∧ (t.link m).table.lock = some true ∧ t.supervisor = locking ∧
              t.machine m = { r0 with state := .lockedOut, lockout := some code, lampSent := (t.machine m).lampSent } ∧
              t.StoreFrom { s.store with lockoutMarks := s.store.lockoutMarks.set m.1 true }) ∧
          (∀ y, r0.session = some y → y.parts ≠ [] →
            (r0.state = .running → faulted y code .lockout (.lockedOut code) fun t =>
              stopped y.id t ∧ t.feeder.heaterFault = alarm.heaterFault) ∧
            (r0.state = .armed ∨ r0.state = .delayed → faulted y code .lockout (.lockedOut code) fun t =>
              disabled y.id t ∧ t.feeder.heaterFault = alarm.heaterFault))))

/-- The link timers. A slow timer that runs expires, and one that does not stays (R41). tLOST, running on a SILENT link, makes it
LOST (R40): a RUNNING or DELAYED session is STRANDED, its minute timer stopped, its heat released with the heat state kept and tGRACE
started; an IDLE or DONE machine is OFFLINE, with a NODE_LOST note while that rule is enabled (R20, R158); an ARMED session ends as a
release, FAULT NODE_LOST with after-settle state OFFLINE, DISABLE queued and the note its ending record, one with no part completing at
once (R6, R7, R20); an authorisation is abandoned, the first mark standing (R9); and a SETTLING machine's after-settle state is OFFLINE
unless it is LOCKED_OUT. The model's choices are: that a timer which does not run changes nothing when it is said to expire (log entries
2, 62); the note of an authorisation abandoned before, which is no ending record then (39); that the loss of a machine that is STRANDED
already changes nothing of it (90); the end of a session with no parts (33); and the last end cause of a session now settling (69). -/
def Obligations.LinkTimersExpire : Prop :=
  ∀ (s : State) (m : MachineNo), s.Runs →
    let l := s.link m
    let r := s.machine m
    let out := exec (.lostTimerExpiry m) s
    let n := (s.supervisor.counter + 1) % 4294967296
    let lost (t : State) := OthersKept [m] s t ∧ (t.link m).state = .lost ∧ (t.link m).silentTimer = false
    (Leads (exec (.slowTimerExpiry m) s) s [.line] fun t => t.line = ({ s.line with
      links := s.line.links.set m.1 { l with slow := if l.slow = SlowTimer.running then .expired else l.slow } }).begin) ∧
    (l.state ≠ .silent ∨ l.silentTimer = false → Leads out s [] fun _ => True) ∧
    (l.state = .silent → l.silentTimer = true → s.OtherRecovering m →
      (∀ x, r.session = some x → r.state = .running ∨ r.state = .delayed →
        Leads out s [.line, .engine, .feeder, .host] fun t =>
          lost t ∧ t.machine m = { r with
            state := .stranded, minuteTimer := false, graceTimer := some s.engine.graceMinutes
            lampSent := (t.machine m).lampSent
            session := some { x with strandedFrom := if r.state = .running then some .running else some .delayed } } ∧
          t.feeder.holdsGrant m = false ∧ t.feeder.queued m = false ∧ t.feeder.heaterFault = s.feeder.heaterFault ∧
          ∃ ns, s.HeatReleased t m ns ∧ t.host = (s.host.offered ns).transmit) ∧
      (r.state = .idle ∨ r.state = .done → r.session = none →
        (look s.supervisor.enables 0 = false → Leads out s [.line, .engine] fun t =>
          lost t ∧ t.machine m = { r with state := .offline, lampSent := (t.machine m).lampSent }) ∧
        (look s.supervisor.enables 0 = true → s.supervisor.log.length < 80 →
          LeadsNoticing out s [.line, .engine, .supervisor] fun t =>
            lost t ∧ t.machine m = { r with state := .offline, lampSent := (t.machine m).lampSent } ∧
            t.supervisor = { s.supervisor with
              log := s.supervisor.log ++
                [⟨n, s.clock.day, s.clock.minute, .machine m, .nodeLost, .note, .none, none, false⟩]
              counter := n })) ∧
      let line := ({ s.line with links := s.line.links.set m.1 { l with state := .lost, silentTimer := false } }).begin
      let sets (q : MachineRecord) : SessionEngine := { s.engine with machines := s.engine.machines.set m.1 q }
      let cause := EndCause.fault .nodeLost
      let note (ends : Bool) (charge : Option Nat) : Supervisor := { s.supervisor with
        log := s.supervisor.log ++ [⟨n, s.clock.day, s.clock.minute, .machine m, .nodeLost, .note,
          match r.session with | some x => .session x.id | none => .none, charge, false⟩]
        counter := n
        ending := if ends then s.supervisor.ending.set m.1 (some n) else s.supervisor.ending }
      (∀ x, r.session = some x → r.state = .armed →
        (x.parts ≠ [] →
          let ends (t : State) := lost t ∧ s.Ends t m x cause .offline ∧ (t.link m).table.arm = some (.disable x.id)
          (look s.supervisor.enables 0 = false → LeadsNoticing out s [.line, .engine, .feeder, .payment] ends) ∧
          (look s.supervisor.enables 0 = true → s.supervisor.log.length < 80 →
            LeadsNoticing out s [.line, .engine, .feeder, .payment, .supervisor] fun t =>
              ends t ∧ t.supervisor = note true none)) ∧
        (x.parts = [] → look s.supervisor.ending m = none →
          let ends (t : State) := lost t ∧ (t.link m).table.arm = some (.disable x.id) ∧
            t.machine m = { r.settling x cause .offline with
              state := .offline, session := none, outstanding := .none, lampSent := (t.machine m).lampSent } ∧
            t.feeder.holdsGrant m = false ∧ t.feeder.queued m = false
          (look s.supervisor.enables 0 = false → LeadsNoticing out s [.line, .engine, .feeder] ends) ∧
          (look s.supervisor.enables 0 = true → s.supervisor.log.length < 80 →
            (∀ y ∈ s.supervisor.log, y.sequence ≠ n) →
            LeadsNoticing out s [.line, .engine, .feeder, .supervisor] fun t =>
              ends t ∧ t.supervisor = note false (some 0)))) ∧
      (r.state = .authorising →
        let engine := sets { r with abandoned := some (r.abandoned.getD .nodeLoss) }
        (look s.supervisor.enables 0 = false → Leads out s [.line, .engine] fun t => t.line = line ∧ t.engine = engine) ∧
        (look s.supervisor.enables 0 = true → s.supervisor.log.length < 80 →
          LeadsNoticing out s [.line, .engine, .supervisor] fun t =>
            t.line = line ∧ t.engine = engine ∧ t.supervisor = note r.abandoned.isNone none)) ∧
      (r.state = .settling →
        ((∃ c, r.afterSettle = .lockedOut c) → Leads out s [.line] fun t => t.line = line) ∧
        ((∀ c, r.afterSettle ≠ .lockedOut c) → Leads out s [.line, .engine] fun t =>
          t.line = line ∧ t.engine = sets { r with afterSettle := .offline })) ∧
      (r.state ∈ [.recovering, .lockedOut, .offline, .stranded, .unassigned] →
        Leads out s [.line] fun t => t.line = line))

/-! ## Sessions -/

/-- tARM, tGRACE and tRECOVER, not running, do nothing; running, each ends its session and asks for its settlement. tARM: ARM_EXPIRED
from ARMED, after-settle state IDLE, DISABLE to the node (R10). tGRACE: FAULT NODE_LOST from STRANDED, the id kept as the stopped id, STOP
to the node (R21). tRECOVER: FAULT NODE_LOST from RECOVERING, the request carrying e as 0 (R22). With the NODE_LOST rule enabled the last
two write a LOCKOUT record, the machine's locking record and the session's ending record, and the after-settle state is LOCKED_OUT;
with it disabled there is no record and it is DONE (R158, R159, R162, R163). Where the machine was the last one RECOVERING the part goes
from RECOVERING to READY and queues the START_UP notice (R209). The model's choices are: that a timer which does not run changes nothing
(log entry 2); that tRECOVER leaves the stopped session id as it was (28); that the session keeps its own e while the request of tRECOVER
carries 0 (29); and the last end cause of the session now settling (69). -/
def Obligations.SessionTimersEndSession : Prop :=
  ∀ (s : State) (m : MachineNo), s.Runs →
    let r := s.machine m
    let arm := exec (.armTimerExpiry m) s
    let grace := exec (.graceTimerExpiry m) s
    let window := exec (.recoveryWindowExpiry m) s
    (r.armTimer = none → Leads arm s [] fun _ => True) ∧
    (r.graceTimer = none → Leads grace s [] fun _ => True) ∧
    (r.recoveryWindow = false → Leads window s [] fun _ => True) ∧
    ∀ x, r.session = some x → x.parts ≠ [] → r.outstanding = .none → s.supervisor.log.length < 80 →
      let n := (s.supervisor.counter + 1) % 4294967296
      let settles (cause : EndCause) (after : AfterSettle) (e : Nat) (t : State) :=
        OthersKept [m] s t ∧ (t.machine m).state = .settling ∧
          (t.machine m).session = some { x with endCause := some cause, heat := .none } ∧
          (t.machine m).afterSettle = after ∧ (t.machine m).lastEnd = some cause ∧
          (t.machine m).outstanding = .settle ∧ (t.machine m).armTimer = none ∧
          (t.machine m).minuteTimer = false ∧ (t.machine m).graceTimer = none ∧ (t.machine m).recoveryWindow = false ∧
          t.feeder.holdsGrant m = false ∧ t.feeder.queued m = false ∧
          t.payment = { s.payment with queue := s.payment.queue ++ [.settle m x.id cause e x.paused] }
      let recorded (t : State) := t.supervisor = { s.supervisor with
        log := s.supervisor.log ++
          [⟨n, s.clock.day, s.clock.minute, .machine m, .nodeLost, .lockout, .session x.id, none, false⟩]
        counter := n
        locking := s.supervisor.locking.set m.1 (some n)
        ending := s.supervisor.ending.set m.1 (some n) }
      let closes (changed : List Block) (holds : State → Prop) : Prop :=
        (s.OtherRecovering m → LeadsNoticing window s changed holds) ∧
        (s.LastRecovering m → LeadsNoticing window s (.startUp :: changed) fun t => holds t ∧ s.Readies t)
      (r.state = .armed → r.armTimer ≠ none → s.OtherRecovering m →
        LeadsNoticing arm s [.engine, .line, .feeder, .payment] fun t =>
          settles .armExpired .idle x.elapsed t ∧ (t.machine m).stoppedId = x.id ∧
          ((s.link m).state ≠ .disabled → (t.link m).table.arm = some (.disable x.id))) ∧
      (r.state = .stranded → r.graceTimer ≠ none → s.OtherRecovering m →
        (look s.supervisor.enables 0 = true →
          LeadsNoticing grace s [.engine, .line, .feeder, .payment, .supervisor] fun t =>
            settles (.fault .nodeLost) (.lockedOut .nodeLost) x.elapsed t ∧ (t.machine m).stoppedId = x.id ∧
            ((s.link m).state ≠ .disabled → (t.link m).table.stop = some x.id) ∧ recorded t) ∧
        (look s.supervisor.enables 0 = false →
          LeadsNoticing grace s [.engine, .line, .feeder, .payment] fun t =>
            settles (.fault .nodeLost) .done x.elapsed t ∧ (t.machine m).stoppedId = x.id ∧
            ((s.link m).state ≠ .disabled → (t.link m).table.stop = some x.id))) ∧
      (r.state = .recovering → r.recoveryWindow = true → r.afterSettle = .done →
        (look s.supervisor.enables 0 = true →
          closes [.engine, .line, .feeder, .payment, .supervisor] fun t =>
            settles (.fault .nodeLost) (.lockedOut .nodeLost) 0 t ∧ (t.machine m).stoppedId = r.stoppedId ∧ recorded t) ∧
        (look s.supervisor.enables 0 = false →
          closes [.engine, .line, .feeder, .payment] fun t =>
            settles (.fault .nodeLost) .done 0 t ∧ (t.machine m).stoppedId = r.stoppedId))

/-- A session's minute. In RUNNING one counter advances, P while the heat waits or is withdrawn and e otherwise, and the refresh mark of an
IMMEDIATE or DELAYED session is set (R12, R181); a dryer's e counts its increment down, reloads it, and at U sends FINISH once, releasing
its heat (R15); past U and the allowance the overrun is raised once (R16), which with its rule disabled is all. In DELAYED the delay counts
down, and at its end the machine goes RUNNING with GO (R11), a dryer with its increment counter loaded and its heat asked for and answered
by the feeder's rules (R12, R13, R142, R143). With the OVERRUN rule enabled the overrun ends the session, FAULT OVERRUN with after-settle
state LOCKED_OUT (R16, R158, R162). That the expiry of a timer which does not run, or runs in another state, changes nothing (log entry 2),
and the last end cause of the session now settling (log entry 69), are the model's choices. -/
def Obligations.MinuteAdvancesSession : Prop :=
  ∀ (s : State) (m : MachineNo), s.Runs →
    let r := s.machine m
    let out := exec (.minuteTimerExpiry m) s
    (r.minuteTimer = false ∨ (r.state ≠ .running ∧ r.state ≠ .delayed) → Leads out s [] fun _ => True) ∧
    ∀ x, r.session = some x → r.minuteTimer = true →
      let sets (y : Session) : SessionEngine :=
        { s.engine with machines := s.engine.machines.set m.1 { r with session := some y } }
      let marked : StorePort := if x.mode = .immediate ∨ x.mode = .delayed then
        { s.store with refreshMarks := s.store.refreshMarks.set m.1 true } else s.store
      let e := x.elapsed + 1
      let beyond := x.mode ≠ .unbilled ∧ x.overrunRaised = false ∧ x.units + x.allowance < e
      let counts (y : Session) := Leads out s [.engine, .store] fun t => t.engine = sets y ∧ t.StoreFrom marked
      let down := if x.increment ≤ 1 ∧ e < x.units then (look s.tariff.dryers x.programme).length else x.increment - 1
      let steps := if r.cls = .dryer then x.increment - 1 else x.increment
      (r.state = .running →
        (x.heat = .waiting ∨ x.heat = .withdrawn → counts { x with paused := x.paused + 1 }) ∧
        (x.heat = .none ∨ x.heat = .granted →
          (r.cls = .washer → ¬ beyond → counts { x with elapsed := e }) ∧
          (r.cls = .washer ∨ x.finishSent = true → beyond → look s.supervisor.enables 1 = false →
            counts { x with elapsed := e, increment := steps, overrunRaised := true }) ∧
          (r.cls = .washer ∨ x.finishSent = true → beyond → look s.supervisor.enables 1 = true → x.parts ≠ [] → r.outstanding = .none →
            s.supervisor.log.length < 80 → s.OtherRecovering m →
            let n := (s.supervisor.counter + 1) % 4294967296
            LeadsNoticing out s [.engine, .store, .line, .feeder, .payment, .supervisor] fun t =>
              OthersKept [m] s t ∧ t.StoreFrom marked ∧ (t.machine m).state = .settling ∧
              (t.machine m).session = some { x with
                elapsed := e, increment := steps, overrunRaised := true, heat := .none
                endCause := some (.fault .overrun) } ∧
              (t.machine m).afterSettle = .lockedOut .overrun ∧ (t.machine m).lastEnd = some (.fault .overrun) ∧
              (t.machine m).outstanding = .settle ∧ (t.machine m).minuteTimer = false ∧
              t.feeder.holdsGrant m = false ∧ t.feeder.queued m = false ∧
              ((s.link m).state ≠ .disabled → (t.link m).table.stop = some x.id) ∧
              t.payment = { s.payment with queue := s.payment.queue ++ [.settle m x.id (.fault .overrun) e x.paused] } ∧
              t.supervisor = { s.supervisor with
                log := s.supervisor.log ++
                  [⟨n, s.clock.day, s.clock.minute, .machine m, .overrun, .lockout, .session x.id, none, false⟩]
                counter := n
                locking := s.supervisor.locking.set m.1 (some n)
                ending := s.supervisor.ending.set m.1 (some n) }) ∧
          (r.cls = .dryer → ¬ beyond → (e < x.units ∨ x.finishSent = true ∨ x.mode = .unbilled) →
            counts { x with elapsed := e, increment := down }) ∧
          (r.cls = .dryer → ¬ beyond → x.units ≤ e → x.finishSent = false → x.mode ≠ .unbilled →
            Leads out s [.engine, .store, .line, .feeder, .host] fun t =>
              OthersKept [m] s t ∧ t.StoreFrom marked ∧
              t.machine m = { r with
                lampSent := (t.machine m).lampSent
                session := some { x with elapsed := e, increment := x.increment - 1, finishSent := true, heat := .none } } ∧
              ((s.link m).state ≠ .disabled → (t.link m).table.finish = some x.id) ∧
              t.feeder.holdsGrant m = false ∧ t.feeder.queued m = false ∧ t.feeder.heaterFault = s.feeder.heaterFault ∧
              ∃ ns, s.HeatReleased t m ns ∧ t.host = (s.host.offered ns).transmit))) ∧
      (r.state = .delayed →
        (1 < x.delay → Leads out s [.engine] fun t => t.engine = sets { x with delay := x.delay - 1 }) ∧
        (x.delay ≤ 1 → r.cls = .washer → s.OtherRecovering m →
          Leads out s [.engine, .line, .host] fun t =>
            OthersKept [m] s t ∧
            t.host = (s.host.offered [.sessionStarted m x.id x.mode s.clock.day s.clock.minute]).transmit ∧
            t.machine m = { r with
              state := .running, armTimer := none, lampSent := (t.machine m).lampSent
              session := some { x with
                delay := 0, startDay := s.clock.day, startMinute := s.clock.minute
                allowance := s.engine.overrunMinutes } } ∧
            ((s.link m).state ≠ .disabled → (t.link m).table.go = some x.id)) ∧
        (x.delay ≤ 1 → r.cls = .dryer → s.OtherRecovering m →
          let p := look s.tariff.dryers x.programme
          Leads out s [.engine, .line, .host, .feeder] fun t =>
            OthersKept [m] s t ∧ t.feeder.heaterFault = s.feeder.heaterFault ∧
            (∃ h ns, t.machine m = { r with
                state := .running, armTimer := none, lampSent := (t.machine m).lampSent
                session := some { x with
                  delay := 0, startDay := s.clock.day, startMinute := s.clock.minute
                  allowance := s.engine.overrunMinutes, increment := p.length, heat := h } } ∧
              s.HeatAnswered t m r.room p.heat x.id h ns ∧
              t.host = (s.host.offered (.sessionStarted m x.id x.mode s.clock.day s.clock.minute :: ns)).transmit) ∧
            ((s.link m).state ≠ .disabled → (t.link m).table.go = some x.id)))

/-- The result of an AUTHORISE or EXTEND in REPLY reaches the session engine and its context becomes FREE (R97). AUTHORISE: a success
gives the session its part and arms the machine (R9); of an abandoned authorisation it ends the session instead, cause FAULT with the
mark's code, after-settle state OFFLINE for node loss, LOCKED_OUT for a lockout and IDLE for a leak; a refusal takes the session away,
with REFUSE to the node and a REFUSAL notice, the machine IDLE, or OFFLINE (passing to IDLE where its link answers, R3) or LOCKED_OUT as
the mark says, the latter with its code, LOCK on and its lockout mark (R9, R169). EXTEND in time: a success adds the part, its span
starting at U, and sends ENABLE; a refusal sends REFUSE with its notice. Too late: a success is released by a PART_RELEASE and refused
MACHINE_BUSY; a refusal sends REFUSE with its notice all the same, and places a settlement held back (R18, R48). The model's choices are:
that nothing happens with nothing in REPLY (log entry 2); the notice of a refusal that comes too late (34), and REFUSE and REFUSAL for an
abandoned authorisation (35); that the released part's number is the number of the engine's parts plus one (49); the lamps of a DISABLED
link (58); the last end cause of the session now settling (69); and that an EXTEND whose machine has left RUNNING and come back is in time
(84). -/
def Obligations.VendResultsReachEngine : Prop :=
  ∀ (s : State) (m : MachineNo) (c : ContextNo), s.Runs → s.OtherRecovering m →
    let r := s.machine m
    let auth := exec (.authoriseResult m) s
    let ext := exec (.extendResult m) s
    let awaits (q : Option PayRequest) : Prop := match q with
      | some (.authorise k _ _ _ _ _) | some (.extend k _ _ _ _) => k = m
      | _ => False
    let freed : PaymentUnit := { s.payment with contexts := s.payment.contexts.set c.1 Context.initial }
    let linked := (s.link m).state ≠ .disabled
    ((∀ k, ¬ awaits (s.context k).request) →
      Leads auth s [] (fun _ => True) ∧ Leads ext s [] fun _ => True) ∧
    ((∀ k, k ≠ c → ¬ awaits (s.context k).request) →
      (∀ cls card p n id part w st,
        s.context c = ⟨some (.authorise m cls card p n id), .reply (.success part w) none, st⟩ → ∀ x, r.session = some x →
        (r.abandoned = none →
          Leads auth s [.host, .payment, .engine, .line] fun t =>
            t.host = (s.host.offered
              [.sessionArmed m x.id x.mode x.programme part.units (some part)]).transmit ∧
            t.payment = freed ∧ OthersKept [m] s t ∧
            t.machine m = { r with
              state := .armed, outstanding := .none, armTimer := some s.engine.armSeconds
              lampSent := (t.machine m).lampSent, session := some { x with parts := [part], units := part.units } } ∧
            (linked → (t.link m).table.arm = some (.enable x.id x.programme part.price x.mode))) ∧
        (r.state = .authorising →
          let settles (cause : EndCause) (after : AfterSettle) :=
            LeadsNoticing auth s [.payment, .engine, .line, .feeder] fun t =>
              OthersKept [m] s t ∧
              t.machine m = { r.settling { x with parts := [part], units := part.units } cause after with
                outstanding := .settle, abandoned := none, stoppedId := x.id, lampSent := (t.machine m).lampSent } ∧
              t.feeder.holdsGrant m = false ∧ t.feeder.queued m = false ∧
              (linked → (t.link m).table.arm = some (.disable x.id)) ∧
              t.payment = { freed with queue := s.payment.queue ++ [.settle m x.id cause x.elapsed x.paused] }
          (r.abandoned = some .nodeLoss → settles (.fault .nodeLost) .offline) ∧
          (∀ k, r.abandoned = some (.lockout k) → settles (.fault k) (.lockedOut k)) ∧
          (r.abandoned = some .leak → settles (.fault .leak) .idle))) ∧
      (∀ cls card p n id why st,
        s.context c = ⟨some (.authorise m cls card p n id), .reply (.refused why) none, st⟩ →
        let bare : MachineRecord := { r with outstanding := .none, session := none, abandoned := none }
        let refuses (q : MachineRecord) (changed : List Block) (holds : State → Prop) :=
          Leads auth s ([.host, .payment, .engine, .line, .supervisor] ++ changed) fun t =>
            t.host = (s.host.offered [.refusal m card why]).transmit ∧ t.payment = freed ∧ OthersKept [m] s t ∧
            t.supervisor = { s.supervisor with ending := s.supervisor.ending.set m.1 none } ∧
            t.machine m = { q with lampSent := (t.machine m).lampSent } ∧
            (linked → (t.link m).table.refuse = some why) ∧ holds t
        (r.abandoned = none ∨ r.abandoned = some .leak → refuses { bare with state := .idle } [] fun _ => True) ∧
        (r.abandoned = some .nodeLoss →
          let back := r.enabled = true ∧ ((s.link m).state = .online ∨ (s.link m).state = .silent)
          refuses { bare with state := if back then .idle else .offline } [] fun _ => True) ∧
        (∀ k, r.abandoned = some (.lockout k) →
          refuses { bare with state := .lockedOut, lockout := some k } [.store] fun t =>
            (linked → (t.link m).table.lock = some true) ∧
            t.StoreFrom { s.store with lockoutMarks := s.store.lockoutMarks.set m.1 true })) ∧
      (∀ card p n id part w st,
        s.context c = ⟨some (.extend m card p n id), .reply (.success part w) none, st⟩ → ∀ x, r.session = some x →
        (r.state = .running → x.finishSent = false →
          Leads ext s [.payment, .engine, .line] fun t =>
            t.payment = freed ∧
            t.engine = { s.engine with machines := s.engine.machines.set m.1 { r with
              outstanding := .none
              session := some { x with
                parts := x.parts ++ [{ part with start := x.units }], units := x.units + part.units } } } ∧
            OthersKept [m] s t ∧ (linked → (t.link m).table.arm = some (.enable x.id x.programme part.price .immediate))) ∧
        (r.state ≠ .running ∨ x.finishSent = true →
          Leads ext s [.payment, .engine, .line] fun t =>
            t.payment = { freed with queue := s.payment.queue ++ [.partRelease m x.id (x.parts.length + 1) part w] } ∧
            t.engine = { s.engine with machines := s.engine.machines.set m.1 { r with outstanding := .partRelease } } ∧
            OthersKept [m] s t ∧ (linked → (t.link m).table.refuse = some .machineBusy))) ∧
      (∀ card p n id why st,
        s.context c = ⟨some (.extend m card p n id), .reply (.refused why) none, st⟩ → ∀ x, r.session = some x →
        let refuses (p : PaymentUnit) (o : Outstanding) := Leads ext s [.host, .payment, .engine, .line] fun t =>
          t.host = (s.host.offered [.refusal m card why]).transmit ∧ t.payment = p ∧
          t.engine = { s.engine with machines := s.engine.machines.set m.1 { r with outstanding := o } } ∧
          OthersKept [m] s t ∧ (linked → (t.link m).table.refuse = some why)
        (r.state ≠ .settling → refuses freed .none) ∧
        (∀ cause, r.state = .settling → x.endCause = some cause →
          refuses { freed with queue := s.payment.queue ++ [.settle m x.id cause x.elapsed x.paused] } .settle)))

/-- A settlement in REPLY completes at the session engine (R7): the session is gone, its end cause kept, SESSION ENDED queued, the total
charge written into its ending record and the machine in its after-settle state, DONE passing to IDLE where the door was opened, and
OFFLINE passing to IDLE where the node is enabled and its link ONLINE or SILENT (R3). A LOCKED_OUT machine takes the code with LOCK on,
and its lockout mark unless the settlement's slot write wrote that code (R169). A PART_RELEASE in REPLY completes, and a settlement that
R6 held back is placed (R18). The model's choices are: that nothing happens with nothing in REPLY (log entry 2); that SESSION ENDED
carries the session's own e, whatever e its SETTLE carried (29); that the door flag stays in IDLE, OFFLINE and LOCKED_OUT (31); that the
lockout mark is left out just where the slot write was made and wrote the code now latched (55); and the lamps of a DISABLED link (58). -/
def Obligations.SettlementsComplete : Prop :=
  ∀ (s : State) (m : MachineNo) (c : ContextNo), s.Runs → s.OtherRecovering m →
    let r := s.machine m
    let done := exec (.settleComplete m) s
    let released := exec (.partReleaseComplete m) s
    let awaits (q : Option PayRequest) : Prop := match q with
      | some (.settle k _ _ _ _) | some (.partRelease k _ _ _ _) => k = m
      | _ => False
    let freed : PaymentUnit := { s.payment with contexts := s.payment.contexts.set c.1 Context.initial }
    ((∀ k, ¬ awaits (s.context k).request) →
      Leads done s [] (fun _ => True) ∧ Leads released s [] fun _ => True) ∧
    ((∀ k, k ≠ c → ¬ awaits (s.context k).request) → ∀ x, r.session = some x →
      (∀ id cause e p parts code st,
        s.context c = ⟨some (.settle m id cause e p), .reply (.settled parts code) none, st⟩ →
        let ended (t : State) :=
          t.host = (s.host.offered [.sessionEnded m x.id x.mode x.endCause x.elapsed x.paused parts]).transmit ∧
          t.payment = freed ∧ OthersKept [m] s t ∧
          t.supervisor = (match look s.supervisor.ending m with
            | none => s.supervisor
            | some q => { s.supervisor with
                log := s.supervisor.log.map fun y =>
                  if y.sequence = q then { y with charge := some (parts.map fun z => z.charge.getD 0).sum } else y
                ending := s.supervisor.ending.set m.1 none })
        let after (t : State) (st : MachineState) (lock : Option FaultCode) (door : Bool) :=
          t.machine m = { r with
            state := st, session := none, outstanding := .none, lastEnd := x.endCause, lockout := lock
            doorOpened := door, lampSent := (t.machine m).lampSent }
        (r.afterSettle = .done ∨ r.afterSettle = .idle →
          Leads done s [.host, .payment, .engine, .line, .supervisor] fun t => ended t ∧
            if r.afterSettle = .done then after t (if r.doorOpened then .idle else .done) r.lockout false
            else after t .idle r.lockout r.doorOpened) ∧
        (r.afterSettle = .offline →
          let back := r.enabled = true ∧ ((s.link m).state = .online ∨ (s.link m).state = .silent)
          Leads done s [.host, .payment, .engine, .line, .supervisor] fun t => ended t ∧
            after t (if back then .idle else .offline) r.lockout r.doorOpened) ∧
        (∀ k, r.afterSettle = .lockedOut k →
          Leads done s [.host, .payment, .engine, .line, .supervisor, .store] fun t => ended t ∧
            after t .lockedOut (some k) r.doorOpened ∧
            ((s.link m).state ≠ .disabled → (t.link m).table.lock = some true) ∧
            t.StoreFrom (if code = some (some k) then s.store else
              { s.store with lockoutMarks := s.store.lockoutMarks.set m.1 true }))) ∧
      (∀ id n p w st, s.context c = ⟨some (.partRelease m id n p w), .reply .released none, st⟩ →
        (r.state ≠ .settling → Leads released s [.payment, .engine] fun t => t.payment = freed ∧
          t.engine = { s.engine with machines := s.engine.machines.set m.1 { r with outstanding := .none } }) ∧
        (∀ cause, r.state = .settling → x.endCause = some cause → Leads released s [.payment, .engine] fun t =>
          t.payment = { freed with queue := s.payment.queue ++ [.settle m x.id cause x.elapsed x.paused] } ∧
          t.engine = { s.engine with machines := s.engine.machines.set m.1 { r with outstanding := .settle } })))

/-! ## Payment contexts -/

/-- A FREE context takes the request at the head of the queue, the lowest-numbered of several (R96). With none FREE, an empty queue, or
seven contexts on the session engine's kinds and such a kind at the head, nothing happens. A vend whose count is out of range is refused
PROGRAMME_INVALID (R99); otherwise it and a PROBE are decided by the first window that matches (R50 to R52, R73), then by the site code
and the store's state, then by the cache or a walk (R53, R77). A FREE window, and a HOUSE window at a zero-priced programme, go to the
slot write, left out while the store is not UP (R103); another HOUSE window to its account's lock and read (R98, R100). SETTLE and
PART_RELEASE begin at their slot, or place their entry while the store is not UP (R107, R110, R112, R185). A DEFERRED request lets the
next entries be offered (R186) and goes on to its next part's lock, to the slot write owed, or to its end (R113). An ACCOUNT request takes
the lock and reads, or for every field is judged at once by the held amount computed (R114, R116, R117); a DIRECTORY request reads the
floor table (R62, R70). The model's choices are: that nothing happens where no context can take a request (log entry 2), the failing back
at once of what is issued while the store is not UP (42), the entries' keys (59), the part passed over or written in an entry (75, 76),
the holds counted in the held amount (76, 78), and a full ACCOUNT_SET's LIMIT before its REFUSED_STATE (95). -/
def Obligations.ContextTakesRequest : Prop :=
  ∀ s : State, s.Runs →
    let out := exec .contextTakeRequest s
    (((∀ k, (s.context k).request ≠ none) ∨ s.payment.queue = []) → Leads out s [] fun _ => True) ∧
    ∀ c q rest, s.payment.queue = q :: rest → (s.context c).request = none → (∀ k, k < c → (s.context k).request ≠ none) →
      let sets (y : Context) : PaymentUnit := { s.payment with queue := rest, contexts := s.payment.contexts.set c.1 y }
      let taken (g : Stage) : PaymentUnit := sets ⟨some q, g, (s.context c).stale⟩
      let engines (x : Option PayRequest) : Prop := match x with
        | some (.authorise _ _ _ _ _ _) | some (.extend _ _ _ _ _) | some (.settle _ _ _ _ _)
        | some (.partRelease _ _ _ _ _) => True
        | _ => False
      let busy := ((indexes 8).filter fun k => match (s.context k).request with
        | some (.authorise _ _ _ _ _ _) | some (.extend _ _ _ _ _) | some (.settle _ _ _ _ _)
        | some (.partRelease _ _ _ _ _) => true
        | _ => false).length
      let stays (p : PaymentUnit) := Leads out s [.payment] fun t => t.payment = p
      let goes (p : PaymentUnit) (a : Access) := Leads out s [.payment, .store] fun t =>
        t.payment = p ∧ t.StoreFrom { s.store with queue := s.store.queue ++ [⟨.context c, a⟩] }
      let replies (st : Status) (bytes : List Byte) := ∀ f, s.host.buffer = [f] → Leads out s [.host, .payment] fun t =>
        t.host = (s.host.answering f st bytes).transmit ∧ t.payment = sets Context.initial
      let unlocked (a : AccountNo) : Prop := ∀ e ∈ s.payment.locks, e.account ≠ a
      let locking (p : PaymentUnit) (a : AccountNo) : PaymentUnit := { p with locks := s.payment.locks ++ [⟨a, c, []⟩] }
      let waiting (p : PaymentUnit) (a : AccountNo) : PaymentUnit := { p with
        locks := s.payment.locks.map fun e => if e.account = a then { e with waiters := e.waiters ++ [c] } else e }
      let defers (h : Handed) (e : Deferred) : Prop :=
        (s.store.state = .noStore → stays (taken (.reply h none))) ∧
        (s.store.state = .down → s.store.deferred.length < 64 → Leads out s [.payment, .store] fun t =>
          t.payment = taken (.reply h none) ∧ t.StoreFrom { s.store with
            deferred := s.store.deferred ++ [{ e with key := s.store.nextKey }], nextKey := s.store.nextKey + 1 }) ∧
        (s.store.state = .down → 64 ≤ s.store.deferred.length → stays (taken (.reply h (some e))))
      let resolves (card : CardId) (cls : MachineClass) (decided : Fin 4 → WindowAction → Prop) (elsewhere down : Prop) : Prop :=
        let site := s.directory.site
        let found (k : Fin 4) : Prop := let w := look s.directory.windows k
          w.enabled = true ∧ w.site = card.site ∧ w.floorLow ≤ card.path.floor.1 ∧ card.path.floor.1 ≤ w.floorHigh ∧
            (w.flat = none ∨ w.flat = some card.path.flat) ∧ (w.ordinal = none ∨ w.ordinal = some card.path.ordinal) ∧
            (w.filter = .any ∨ w.filter = .washers ∧ cls = .washer ∨ w.filter = .dryers ∧ cls = .dryer)
        (∀ k, found k → (∀ j, j < k → ¬ found j) → decided k (look s.directory.windows k).action) ∧
        ((∀ k, ¬ found k) →
          (site = 0 ∨ site ≠ card.site → elsewhere) ∧
          (site ≠ 0 → site = card.site →
            (s.storeUp = false → down) ∧
            (s.storeUp = true → (∀ w : Fin 4, look s.cache.mask w = false) →
              goes (sets ⟨some q, .walk ⟨card.path, cls, none, .floor, false, [], false⟩, false⟩) .readFloors) ∧
            (s.storeUp = true → (∃ w : Fin 4, look s.cache.mask w = true) → Leads out s [.payment, .cache] fun t =>
              t.payment = taken .lookup ∧
              t.cache = ({ s.cache with lookups := s.cache.lookups ++ [c] }).arbitrate)))
      let vend (m : MachineNo) (cls : MachineClass) (card : CardId) (p : ProgrammeNo) (n id : Nat) (grows : Bool) : Prop :=
        let refused (why : Reason) := stays (taken (.reply (.refused why) none))
        let fits := cls = .washer ∨ 1 ≤ n ∧ n ≤ (look s.tariff.dryers p).maximum
        let free := match cls with | .washer => (look s.tariff.washers p).price = 0 | .dryer => (look s.tariff.dryers p).price = 0
        let writes (payer : Option AccountNo) (k : Fin 4) (open_ : Bool) : Prop :=
          ∀ z, s.tariff.priceOf s.clock s.feeder.demand.isSome ⟨cls, p, n, false, 0, open_⟩ = some z → z.price = 0 ∧
            let y : Part := ⟨payer, .window k, 0, z.units, 0, 0, none, z.factor, z.band, z.surcharged⟩
            (s.storeUp = true → goes (taken (.holdSlot y)) (if grows then .slotAppend m y
              else .writeSlot m ⟨none, some ⟨id, p, ((s.session m).map Session.mode).getD .immediate, z.units, 0, 0, [⟨y, false⟩]⟩⟩)) ∧
            (s.storeUp = false → stays (taken (.reply (.success y false) none)))
        (¬ fits → refused .programmeInvalid) ∧
        (fits → resolves card cls (fun k action => match action with
            | .free => writes none k true
            | .refuse => refused .windowRefused
            | .house a =>
              (free → writes (some a) k false) ∧
              (¬ free →
                (unlocked a → a ∈ s.payment.damaged → refused .accountDamaged) ∧
                (unlocked a → a ∉ s.payment.damaged → s.storeUp = true →
                  goes (locking (taken (.holdRead ⟨a, ⟨false, false, false, false⟩, .window k⟩)) a) (.readAccount a)) ∧
                (unlocked a → a ∉ s.payment.damaged → s.storeUp = false → refused .storeUnavailable) ∧
                (¬ unlocked a → stays (waiting (taken (.holdLock ⟨a, ⟨false, false, false, false⟩, .window k⟩)) a))))
          (refused .unknownSite) (refused .storeUnavailable))
      (engines (some q) → 7 ≤ busy → Leads out s [] fun _ => True) ∧
      (∀ m cls card p n id, q = .authorise m cls card p n id → busy < 7 → vend m cls card p n id false) ∧
      (∀ m card p n id, q = .extend m card p n id → busy < 7 → vend m .dryer card p n id true) ∧
      (∀ card cls, q = .probe card cls →
        let shows (outcome window action : Nat) (a : List Byte) := replies .ok
          ([u8 outcome, u8 0, u8 window, u8 action, a, u8 0, u8 0, u8 0, [0#8, 0#8, 0#8], u8 0].flatten)
        resolves card cls (fun k action => match action with
            | .free => shows 0 k.1 0 (u16 0xFFFF)
            | .house a => shows 0 k.1 1 (u16 a.1)
            | .refuse => shows 0 k.1 2 (u16 0xFFFF))
          (shows 2 0 0 (u16 0xFFFF)) (shows 4 0 0 (u16 0xFFFF))) ∧
      (∀ m id cause e p, q = .settle m id cause e p → busy < 7 →
        let rules : CaptureRules := ⟨s.tariff.grace, s.tariff.allowance, s.tariff.credit⟩
        (s.storeUp = true → goes (taken (.settleSlotRead rules)) (.readSlot m)) ∧
        (s.storeUp = false → ∀ x, s.session m = some x →
          let charged := x.parts.map fun z => { z with charge := some (if z.payer ≠ none ∧ 0 < z.hold then
            s.tariff.charge ⟨(s.machine m).cls, x.programme, cause, e, p, rules⟩ z else 0) }
          ((∀ z ∈ x.parts, z.payer = none ∨ z.hold = 0) → stays (taken (.reply (.settled charged none) none))) ∧
          ((∃ z ∈ x.parts, z.payer ≠ none ∧ 0 < z.hold) →
            defers (.settled charged none) ⟨0, m, id, deferParts 1 charged, true, false⟩))) ∧
      (∀ m id n p w, q = .partRelease m id n p w → busy < 7 → let owes := p.payer.isSome && decide (0 < p.hold)
        (s.storeUp = true → owes = true → goes (taken .releaseMark) (.slotMarkPart m p)) ∧
        (s.storeUp = true → owes = false → ∀ x, s.session m = some x → goes (taken .releaseSlot) (.slotParts m x.parts x.units)) ∧
        (s.storeUp = false → defers .released
          ⟨0, m, id, [⟨n, p.payer, p.hold, 0, p.units, true, !owes, w⟩], true, false⟩)) ∧
      (∀ key, q = .deferred key → s.storeUp = true → (s.store.deferred.map Deferred.key).Nodup →
        let new := (s.store.deferred.filter fun d => !d.offered).take (7 - (rest.filter PayRequest.isDeferred).length)
        let fed := rest.takeWhile PayRequest.isDeferred ++ (new.map fun d => PayRequest.deferred d.key) ++
          rest.dropWhile PayRequest.isDeferred
        let feeds (p : PaymentUnit) : PaymentUnit := { p with queue := fed }
        let offered := s.store.deferred.map fun d => { d with offered := d.offered || new.contains d }
        let goesOn (p : PaymentUnit) (more : List Transaction) := Leads out s [.payment, .store] fun t =>
          t.payment = feeds p ∧ t.StoreFrom { s.store with deferred := offered, queue := s.store.queue ++ more }
        ∀ d, s.store.deferred.find? (fun d => d.key == key) = some d → d.offered = true →
          (∀ p a, d.parts.find? (fun p => !p.written && p.payer.isSome) = some p → p.payer = some a →
            (unlocked a → a ∉ s.payment.damaged →
              goesOn (locking (taken (.deferredRead d)) a) [⟨.context c, .readAccount a⟩]) ∧
            (¬ unlocked a → goesOn (waiting (taken (.deferredLock d)) a) [])) ∧
          ((∀ p ∈ d.parts, p.written = true ∨ p.payer = none) →
            (d.slotOwed = true → ∀ p, d.parts.find? DeferredPart.release = some p →
              goesOn (taken (.deferredSlot d)) [⟨.context c, .slotRemovePart d.machine d.id p⟩]) ∧
            (d.slotOwed = true → (∀ p ∈ d.parts, p.release = false) →
              goesOn (taken (.deferredSlot d)) [⟨.context c, .slotRemove d.machine d.id⟩]) ∧
            (d.slotOwed = false → (∀ k h e, (s.context k).stage ≠ .reply h (some e)) → Leads out s [.payment, .store] fun t =>
              t.payment = feeds (sets Context.initial) ∧
              t.StoreFrom { s.store with deferred := offered.filter fun x => x.key != key }))) ∧
      (∀ key, q = .deferred key → s.storeUp = false →
        ∀ d, s.store.deferred.find? (fun d => d.key == key) = some d →
          let returned := Leads out s [.payment, .store] fun t => t.payment = sets Context.initial ∧
            t.StoreFrom { s.store with
              deferred := s.store.deferred.map fun x => if x.key = key then { x with offered := false } else x }
          (∀ p a, d.parts.find? (fun p => !p.written && p.payer.isSome) = some p → p.payer = some a →
            (unlocked a → a ∉ s.payment.damaged → returned) ∧
            (¬ unlocked a → stays (waiting (taken (.deferredLock d)) a))) ∧
          ((∀ p ∈ d.parts, p.written = true ∨ p.payer = none) → d.slotOwed = true → returned)) ∧
      (∀ a op, q = .account a op →
        let reads := goes (locking (taken .accountRead) a) (.readAccount a)
        (¬ unlocked a → stays (waiting (taken .accountLock) a)) ∧
        (unlocked a → (∀ st z o g v d, op ≠ .setAll st z o g v d) →
          (a ∉ s.payment.damaged → s.storeUp = true → reads) ∧
          (a ∉ s.payment.damaged → s.storeUp = false → replies .storeUnavailable []) ∧
          (a ∈ s.payment.damaged → op = .read →
            replies .ok (damagedAccountBytes (s.computeHeld a) (look s.directory.refs a))) ∧
          (a ∈ s.payment.damaged → op ≠ .read → replies .refusedState [])) ∧
        (∀ st z o g v d, op = .setAll st z o g v d → unlocked a →
          let held := s.computeHeld a
          (z + o < held → replies .limit []) ∧
          ((held : Int) ≤ z + o → st = .free ∧ (0 < look s.directory.refs a ∨ 0 < held) → replies .refusedState []) ∧
          ((held : Int) ≤ z + o → ¬ (st = .free ∧ (0 < look s.directory.refs a ∨ 0 < held)) → s.storeUp = true →
            let y : Account := ⟨st, z, o, held, g, v, d⟩
            goes (locking (taken (.accountWrite y 0)) a) (.writeAccount a y)))) ∧
      (∀ p w, q = .directory p w →
        (s.storeUp = true → goes (taken (.dirRead ⟨p, w, .floor, none, none, none, none, none, none, []⟩)) .readFloors) ∧
        (s.storeUp = false → replies .storeUnavailable []))

/-- Directory reads and writes complete. A walk's read, of a probe or a vend (R56 to R58, R69): TABLE leads to the page it names with its
HOLD gathered, on the presented path alone; INDIRECT leads to its target, once; INVALID, and a second INDIRECT, end it unknown, at level
CARD on the target's path; ACCOUNT resolves it: a probe is answered, found by a walk (R74), and a vend is judged and takes its account
steps (R59), its entry installed where nothing restarted the walk and a target bears its marker (R58, R69, R75), and its day update placed
(R61); a damaged record is a store failure with a STORE_DAMAGED note (R60); a stale walk begins again. DIRECTORY_READ ends at its level or
the first INVALID and reports it (R70). DIRECTORY_WRITE: its path and, for INDIRECT, its target are read (R62, R64); a card level write
takes the locks of the accounts whose count changes, the lower first, reads a new account, and goes on to its checks and writes (R63 to
R66); a floor or flat level one acts by R67. A store write marks stale the walks that read the descriptor (R69), and has its effect on
counts, pools, cache and locks (R68); the last replies OK. The model's choices are: nothing at the head (log entry 2); a flat write below
an INVALID floor (9); a write of a damaged record (47); the account read where no count changes (50); a write that changes nothing (51);
what a page write marks stale (52); a stale walk's damaged read (53); where a HOLD sweeps (54); the account judged ahead of the pages
(86). -/
def Obligations.DirectoryAccessesGoOn : Prop :=
  ∀ s : State, s.Runs →
    let read := exec .walkReadDone s
    let written := exec .directoryStoreWriteDone s
    (s.storeUp = false ∨ s.store.queue = [] → Leads read s [] (fun _ => True) ∧ Leads written s [] fun _ => True) ∧
    ∀ c a rest, s.store.queue = ⟨.context c, a⟩ :: rest → s.storeUp = true →
      let port : StorePort := { s.store with queue := rest }
      let issuing (b : Access) : StorePort := { s.store with queue := rest ++ [⟨.context c, b⟩] }
      let sets (x : Context) : PaymentUnit := { s.payment with contexts := s.payment.contexts.set c.1 x }
      let small := s.supervisor.log.length < 80
      let noted : Supervisor := if look s.supervisor.enables 6 = false then s.supervisor else { s.supervisor with
        log := s.supervisor.log ++ [⟨(s.supervisor.counter + 1) % 4294967296, s.clock.day, s.clock.minute, .part,
          .storeDamaged, .note, .none, none, false⟩]
        counter := (s.supervisor.counter + 1) % 4294967296 }
      let answers (st : Status) (bytes : List Byte) := ∀ f, s.host.buffer = [f] →
        Leads read s [.host, .payment, .store] fun t =>
          t.host = (s.host.answering f st bytes).transmit ∧ t.payment = sets Context.initial ∧ t.StoreFrom port
      let answersNoting (o : Host.Outcome State Fault Refusal) (st : Status) (bytes : List Byte) (changed : List Block)
          (holds : State → Prop) := ∀ f, s.host.buffer = [f] → small →
        Leads o s ([.host, .payment, .store, .supervisor] ++ changed) fun t =>
          (∃ ns, t.host = ((s.host.offered ns).answering f st bytes).transmit) ∧
          t.StoreFrom port ∧ t.supervisor = noted ∧ holds t
      let goes (x : Context) (b : Access) := Leads read s [.payment, .store] fun t =>
        t.payment = sets x ∧ t.StoreFrom (issuing b)
      let probed (outcome level account attrs : Nat) (hold : Bool) (via : Option CardPath) : List Byte :=
        [u8 outcome, u8 level, u8 0, u8 0, u16 account, u8 attrs, yesNo hold, yesNo via.isSome,
          match via with | some v => u8 v.floor.1 ++ u8 v.flat.1 ++ u8 v.ordinal.1 | none => [0#8, 0#8, 0#8],
          u8 (if outcome = 1 then 1 else 0)].flatten
      -- a walk's read
      (∀ q w stale, s.context c = ⟨some q, .walk w, stale⟩ →
        a = (match w.at_ with | .floor => .readFloors | .flat g => .readFlatPage g | .card g => .readCardPage g) →
        let at_ := match w.target with | some x => x | none => w.path
        let far := w.target ≠ none
        let again : Walk := ⟨w.path, w.cls, none, .floor, false, [], true⟩
        let on (x : Walk) (b : Access) := goes ⟨some q, .walk x, stale⟩ b
        let unknown (l : Level) : Prop :=
          (∀ card cls, q = .probe card cls → answers .ok (probed 3 l.code 0xFFFF 0 false none)) ∧
          ∀ v, PayRequest.vend? q = some v → Leads read s [.host, .payment, .store] fun t =>
            t.host = (s.host.offered [.unknownCard v.machine v.card l]).transmit ∧
            t.payment = sets ⟨some q, .reply (.refused .unknownCard) none, stale⟩ ∧ t.StoreFrom port
        (stale = true → (s.fram.perform a).1 ≠ .damaged → goes ⟨some q, .walk again, false⟩ .readFloors) ∧
        (stale = true → (s.fram.perform a).1 = .damaged → small →
          LeadsNoticing read s [.payment, .store, .supervisor] fun t =>
            t.payment = sets ⟨some q, .walk again, false⟩ ∧ t.StoreFrom (issuing .readFloors) ∧ t.supervisor = noted) ∧
        (stale = false → (s.fram.perform a).1 = .damaged →
          (∀ card cls, q = .probe card cls →
            answersNoting read .ok (probed 4 0 0xFFFF 0 false none) [] fun t => t.payment = sets Context.initial) ∧
          ∀ v, PayRequest.vend? q = some v → small → LeadsNoticing read s [.payment, .store, .supervisor] fun t =>
            t.payment = sets ⟨some q, .reply (.refused .storeUnavailable) none, stale⟩ ∧ t.StoreFrom port ∧
            t.supervisor = noted) ∧
        (stale = false → w.at_ = .floor → ∀ y, s.fram.floorTable = some y → let d := look y at_.floor
          (d.page = none → (far → unknown .card) ∧ (¬ far → unknown .floor)) ∧
          ∀ h, d.page = some h → on { w with
            at_ := .flat h, hold := if far then w.hold else w.hold || d.hold, reads := .floor at_.floor :: w.reads }
            (.readFlatPage h)) ∧
        (stale = false → ∀ g, w.at_ = .flat g → ∀ y, s.fram.flatPage g = some y → let d := look y at_.flat
          (d.page = none → (far → unknown .card) ∧ (¬ far → unknown .flat)) ∧
          ∀ h, d.page = some h → on { w with
            at_ := .card h, hold := if far then w.hold else w.hold || d.hold, reads := .flat at_.floor at_.flat :: w.reads }
            (.readCardPage h)) ∧
        (stale = false → ∀ g, w.at_ = .card g → ∀ y, s.fram.cardPage g = some y →
          (look y at_.ordinal = .invalid → unknown .card) ∧
          (∀ x h, look y at_.ordinal = .indirect x h →
            (far → unknown .card) ∧
            (¬ far → on { w with target := some x, at_ := .floor, hold := w.hold || h, reads := .card w.path :: w.reads }
              .readFloors)) ∧
          ∀ k attrs h marker day, look y at_.ordinal = .account k attrs h marker day →
            (∀ card cls, q = .probe card cls →
              answers .ok (probed 1 0 k.1 (attributeBits attrs) (w.hold || h) w.target)) ∧
            ∀ v, PayRequest.vend? q = some v →
              let installs := w.restarted = false ∧ (far → marker = true)
              let days := s.store.dayList
              let today : StorePort := { port with
                dayList := if days.any (fun u => u.path == at_) then
                    days.map fun u => if u.path = at_ then { u with day := s.clock.day } else u
                  else if days.length < 8 then days ++ [⟨at_, k, s.clock.day⟩] else days }
              s.Judges (fun p x => Leads read s [.payment, .store, .cache] fun t =>
                  t.payment = p ∧ t.StoreFrom x ∧ (¬ installs → t.cache = s.cache.arbitrate) ∧
                  (installs → ∃ d, s.cache.Installs d ⟨v.card.path, k, attrs, w.hold || h, w.target⟩ ∧ t.cache = d.arbitrate))
                port (if s.clock.clockSet = true ∧ day ≠ s.clock.day then today else port) c q v stale (w.hold || h) k attrs)) ∧
      -- a directory request's read
      (∀ path write j stale, let q := PayRequest.directory path write
        s.context c = ⟨some q, .dirRead j, stale⟩ → j.path = path → j.write = write → j.locks = [] →
        let floor := DirPath.floorNo path
        let flat := DirPath.flatNo path
        let reads (k : DirJob) (x : DirAt) (b : Access) := goes ⟨some q, .dirRead { k with at_ := x }, stale⟩ b
        let reports (l : Level) (p : DirPath) (bytes : List Byte) := answers .ok (u8 l.code ++ pathBytes p ++ bytes ++
          u8 s.directory.freeFlats.length ++ u16 s.directory.freeCards.length)
        let unlocked (b : AccountNo) : Prop := ∀ e ∈ s.payment.locks, e.account ≠ b
        let held (l : List AccountNo) : List LockEntry := s.payment.locks ++ l.map fun b => ⟨b, c, []⟩
        let writes (d : DirectoryUnit) (x : DirWrites) := Leads read s [.payment, .store, .directory] fun t =>
          t.directory = d ∧ t.payment = { sets ⟨some q, .dirWrite x, stale⟩ with locks := held x.locks } ∧
          t.StoreFrom { s.store with queue := rest ++ (x.writes.take 1).map fun w => ⟨.context c, w.access⟩ }
        let writesOne (w : DirWrite) := writes s.directory ⟨path, [w], none, none, false, []⟩
        -- the reads of a card-level write are made
        let decides (p : CardPath) (new : NewDescriptor) (k : DirJob) : Prop :=
          let loses := match k.card with
            | some (_, y) => match look y p.ordinal with | .account b _ _ _ _ => some b | _ => none
            | none => none
          let gains := match new with | .account b _ _ => some b | _ => none
          let wanted := if gains = loses then [] else match loses, gains with
            | some b, some d => if b < d then [b, d] else [d, b]
            | some b, none | none, some b => [b]
            | none, none => []
          let waits (got : List AccountNo) (b : AccountNo) (later : List AccountNo) := Leads read s [.payment, .store] fun t =>
            t.payment = { sets ⟨some q, .dirLock { k with locks := got } (b :: later), stale⟩ with
              locks := (held got).map fun e => if e.account = b then { e with waiters := e.waiters ++ [c] } else e } ∧
            t.StoreFrom port
          let ready : DirJob := { k with locks := wanted }
          (∀ b, wanted.head? = some b →
            (¬ unlocked b → waits [] b wanted.tail) ∧
            (unlocked b → ∀ d, wanted.tail.head? = some d → ¬ unlocked d → waits [b] d [])) ∧
          ((∀ b ∈ wanted, unlocked b) →
            (∀ b, gains = some b →
              (b ∈ s.payment.damaged → answers .refusedState []) ∧
              (b ∉ s.payment.damaged → Leads read s [.payment, .store] fun t =>
                t.payment = { sets ⟨some q, .dirAccount ready, stale⟩ with locks := held wanted } ∧
                t.StoreFrom (issuing (.readAccount b)))) ∧
            (gains = none → s.directory.Plans (fun st => answers st []) writes p new ready))
        let pathRead (k : DirJob) : Prop := ∀ p, path = .card p → ∀ new, write = some new →
          (∀ t h, new = .indirect t h → reads k .targetFloor .readFloors) ∧
          ((∀ t h, new ≠ .indirect t h) → decides p new k)
        (a = j.at_.access → (s.fram.perform a).1 = .damaged →
          answersNoting read .storeUnavailable [] [] fun t => t.payment = sets Context.initial) ∧
        (a = .readFloors → j = ⟨path, write, .floor, none, none, none, none, none, none, []⟩ → ∀ y, s.fram.floorTable = some y →
          let d := look y floor
          let k := { j with floor := some d }
          ((∀ f, path ≠ .floor f) → ∀ g, d.page = some g → reads k (.flat g) (.readFlatPage g)) ∧
          ((∃ f, path = .floor f) ∨ d.page = none → write = none → reports .floor (.floor floor) (floorBytes d)) ∧
          (d.page = none → pathRead k) ∧
          (∀ f n, path = .flat f n → d.page = none → write ≠ none → answers Config.orphanFlatStatus []) ∧
          ∀ f, path = .floor f → ∀ on hold, write = some (.table on hold) →
            let puts (page : Option FlatPageNo) (e : DirEffect) := writesOne ⟨.updateFloor f ⟨page, hold⟩, .floor f, e⟩
            (d.page.isSome = on → d.hold = hold → answers .ok []) ∧
            (∀ g, d.page = some g → on = true → d.hold ≠ hold → puts (some g) (.sweep (.floor f))) ∧
            (∀ g, d.page = some g → on = false → reads k (.belowFloor g) (.readFlatPage g)) ∧
            (d.page = none → ¬ (on = false ∧ d.hold = hold) → puts none .plain)) ∧
        (∀ g fd, a = .readFlatPage g → j = ⟨path, write, .flat g, some fd, none, none, none, none, none, []⟩ →
          ∀ y, s.fram.flatPage g = some y →
          let d := look y flat
          let k := { j with flat := some (g, y) }
          (∀ p, path = .card p → ∀ h, d.page = some h → reads k (.card h) (.readCardPage h)) ∧
          ((∃ f n, path = .flat f n) ∨ (∃ p, path = .card p) ∧ d.page = none → write = none →
            reports .flat (.flat floor flat) (flatBytes d)) ∧
          (d.page = none → pathRead k) ∧
          ∀ f n, path = .flat f n → ∀ on hold, write = some (.table on hold) →
            let puts (page : Option CardPageNo) (e : DirEffect) := writesOne ⟨.updateFlat g n ⟨page, hold⟩, .flat f n, e⟩
            (d.page.isSome = on → d.hold = hold → answers .ok []) ∧
            (∀ h, d.page = some h → on = true → d.hold ≠ hold → puts (some h) (.sweep (.flat f n))) ∧
            (∀ h, d.page = some h → on = false → reads k (.belowFlat h) (.readCardPage h)) ∧
            (d.page = none → ¬ (on = false ∧ d.hold = hold) → puts none .plain)) ∧
        (∀ g fd ft, a = .readCardPage g → j = ⟨path, write, .card g, some fd, some ft, none, none, none, none, []⟩ →
          ∀ y, s.fram.cardPage g = some y → ∀ p, path = .card p →
            (write = none → reports .card path (cardDescriptorBytes (look y p.ordinal))) ∧
            pathRead { j with card := some (g, y) }) ∧
        -- the target of an INDIRECT
        (∀ p t h, path = .card p → write = some (.indirect t h) →
          (a = .readFloors → j.at_ = .targetFloor → ∀ y, s.fram.floorTable = some y →
            ((look y t.floor).page = none → answers .badArgument []) ∧
            ∀ g, (look y t.floor).page = some g → reads j (.targetFlat g) (.readFlatPage g)) ∧
          (∀ g, a = .readFlatPage g → j.at_ = .targetFlat g → ∀ y, s.fram.flatPage g = some y →
            ((look y t.flat).page = none → answers .badArgument []) ∧
            ∀ k, (look y t.flat).page = some k → reads j (.targetCard k) (.readCardPage k)) ∧
          (∀ g, a = .readCardPage g → j.at_ = .targetCard g → ∀ y, s.fram.cardPage g = some y →
            ((look y t.ordinal).account? = none → answers .badArgument []) ∧
            ((look y t.ordinal).account? ≠ none → decides p (.indirect t h) { j with targetCard := some (g, y) }))) ∧
        -- the page below a TABLE that is to become INVALID
        (∀ f hold d, path = .floor f → write = some (.table false hold) → j.floor = some d → ∀ g, d.page = some g →
          a = .readFlatPage g → j.at_ = .belowFloor g → ∀ y, s.fram.flatPage g = some y →
            ((∃ k, (look y k).page ≠ none) → answers .notEmpty []) ∧
            ((∀ k, (look y k).page = none) → writesOne ⟨.updateFloor f ⟨none, hold⟩, .floor f, .freeFlatPage g⟩)) ∧
        ∀ f n hold x, path = .flat f n → write = some (.table false hold) → j.flat = some x → ∀ g, (look x.2 n).page = some g →
          a = .readCardPage g → j.at_ = .belowFlat g → ∀ y, s.fram.cardPage g = some y →
            ((∃ k, look y k ≠ .invalid) → answers .notEmpty []) ∧
            ((∀ k, look y k = .invalid) → writesOne ⟨.updateFlat x.1 n ⟨none, hold⟩, .flat f n, .freeCardPage g⟩)) ∧
      -- a directory write's store write
      ∀ q x w stale, s.context c = ⟨some q, .dirWrite x, stale⟩ → x.writes.head? = some w → w.access = a →
        (s.payment.locks.filter fun e => x.locks.contains e.account) = (x.locks.map fun b => ⟨b, c, []⟩) →
        let others := s.payment.locks.filter fun e => !x.locks.contains e.account
        let later := x.writes.tail
        let pooled {n : Nat} (pool : List (Fin n)) (g : Fin n) : List (Fin n) := pool.filter (· < g) ++ [g] ++ pool.filter (g < ·)
        let marked (k : ContextNo) : Context := { s.context k with
          stale := (s.context k).stale || (match (s.context k).stage with
            | .walk y => y.reads.any w.path.touches
            | _ => false) }
        let done (d : DirectoryUnit) (cache : Cache) (left : DirWrites) (locks : List LockEntry) : Prop :=
          let moves (changed : List Block) (y : Context) (l : List LockEntry) (p : StorePort) (holds : State → Prop) :=
            Leads written s ([.payment, .store, .cache, .directory, .fram] ++ changed) fun t =>
              t.fram = (s.fram.perform a).2 ∧ t.directory = d ∧ t.cache = cache.arbitrate ∧ t.StoreFrom p ∧
              t.payment = { s.payment with contexts := t.payment.contexts, locks := l } ∧
              t.context c = y ∧ (∀ k, k ≠ c → t.context k = marked k) ∧ holds t
          (later = [] → ∀ f, s.host.buffer = [f] → moves [.host] Context.initial others port fun t =>
            t.host = (s.host.answering f .ok []).transmit) ∧
          ∀ n, later.head? = some n →
            moves [] ⟨some q, .dirWrite { left with writes := later }, stale⟩ locks (issuing n.access) fun _ => True
        ((s.fram.perform a).1 = .damaged → later = [] →
          answersNoting written .storeUnavailable [] [] fun t => t.payment = { sets Context.initial with locks := others }) ∧
        ((s.fram.perform a).1 ≠ .damaged →
          (w.effect = .plain → done s.directory s.cache x s.payment.locks) ∧
          (∀ g, w.effect = .freeFlatPage g →
            done { s.directory with freeFlats := pooled s.directory.freeFlats g } s.cache x s.payment.locks) ∧
          (∀ g, w.effect = .freeCardPage g →
            done { s.directory with freeCards := pooled s.directory.freeCards g } s.cache x s.payment.locks) ∧
          (∀ v, w.effect = .sweep v → done s.directory (s.cache.requestSweep v).1 x s.payment.locks) ∧
          ∀ p, w.effect = .card → x.path = .card p →
            let less := match x.loses with
              | some b => s.directory.refs.set b.1 (look s.directory.refs b - 1)
              | none => s.directory.refs
            let refs := match x.gains with | some b => less.set b.1 (look less b + 1) | none => less
            let k := CardPath.set p
            let t0 := look s.cache.sets k
            let cleared : Cache := { s.cache with
              sets := s.cache.sets.set k.1 { t0 with ways := t0.ways.map fun o => o.filter fun e => e.path != p } }
            done { s.directory with refs := refs } (if x.viaSweep then (cleared.requestSweep (.via p)).1 else cleared)
              { x with locks := [] } others)

/-- An account record's read or write completes, at each kind of request that makes one. A vend (R100, R101, R104): FREE is refused
ACCOUNT_CLOSED, SUSPENDED as such, a price above the available amount INSUFFICIENT; a price of 0 goes to the slot write, another's hold is
written first. A settlement writes balance less the charge C and held less the hold H, with vend count and day, and goes on (R108); a
PART_RELEASE writes held less H, and then the slot (R112); a DEFERRED entry writes its part by its kind (R113). A host operation is judged
by R115 to R118 and written; its write replies the record, a close the balance before, and a freed account leaves the cache (R89). A
DIRECTORY_WRITE's new account is FREE: BAD_ARGUMENT; or its checks and writes follow (R62, R63). A read that fails its check puts the
account on the damaged list with a STORE_DAMAGED note (R94): a vend is refused ACCOUNT_DAMAGED, a host operation REFUSED_STATE but for
ACCOUNT_READ, which reports it damaged (R116), a part is passed over, its charge computed (R111). The lock goes, or passes to its first
waiter, who reads (R98). The model's choices are: nothing at the head (log entry 2); which kept entry is placed (8); one record for each
unreadable part (40); the order of transactions when a lock passes on (41); a passed over part marked written (75); the holds counted
(76, 78); the account judged ahead of the pages (86); the order of an ACCOUNT_SET's refusals (95). -/
def Obligations.AccountAccessesGoOn : Prop :=
  ∀ s : State, s.Runs →
    let read := exec .accountReadDone s
    let written := exec .accountWriteDone s
    let small := s.supervisor.log.length ≤ 76
    (s.storeUp = false ∨ s.store.queue = [] → Leads read s [] (fun _ => True) ∧ Leads written s [] fun _ => True) ∧
    ∀ c b rest, s.store.queue = ⟨.context c, b⟩ :: rest → s.storeUp = true →
      let port : StorePort := { s.store with queue := rest }
      let issuing (e : Access) : StorePort := { s.store with queue := rest ++ [⟨.context c, e⟩] }
      let sets (p : PaymentUnit) (y : Context) : PaymentUnit := { p with contexts := p.contexts.set c.1 y }
      let stored (t : State) : Prop := t.fram = (s.fram.perform b).2
      let moves (o : Host.Outcome State Fault Refusal) (changed : List Block) (p : PaymentUnit) (x : StorePort)
          (holds : State → Prop) := Leads o s ([.payment, .store] ++ changed) fun t => t.payment = p ∧ t.StoreFrom x ∧ holds t
      let notes (o : Host.Outcome State Fault Refusal) (changed : List Block) (p : PaymentUnit) (x : StorePort) (v : Supervisor)
          (holds : State → Prop) := LeadsNoticing o s ([.payment, .store, .supervisor] ++ changed) fun t =>
        t.payment = p ∧ t.StoreFrom x ∧ t.supervisor = v ∧ (v = s.supervisor → t.host = s.host.transmit) ∧ holds t
      let replies (o : Host.Outcome State Fault Refusal) (changed : List Block) (p : PaymentUnit) (st : Status) (bytes : List Byte)
          (holds : State → Prop) := ∀ f, s.host.buffer = [f] → moves o (.host :: changed) p port fun t =>
        t.host = (s.host.answering f st bytes).transmit ∧ holds t
      let repliesNoting (o : Host.Outcome State Fault Refusal) (p : PaymentUnit) (v : Supervisor) (st : Status)
          (bytes : List Byte) := ∀ f, s.host.buffer = [f] → Leads o s [.host, .payment, .store, .supervisor] fun t =>
        (∃ ns, t.host = ((s.host.offered ns).answering f st bytes).transmit) ∧ t.payment = p ∧ t.StoreFrom port ∧
          t.supervisor = v
      -- a request that holds the lock of its account, alone
      (∀ a : AccountNo, (s.payment.locks.filter fun e => e.account == a) = [⟨a, c, []⟩] →
        let free : PaymentUnit := { s.payment with locks := s.payment.locks.filter fun e => e.account != a }
        let noted := s.noted s.supervisor (.account a)
        let refs := look s.directory.refs a
        let block (y : Account) := [u8 y.state.code, i32 y.balance, u16 y.overdraft, u32 y.held, u8 y.group.1, u16 y.vends,
          u16 y.lastDay, u32 (y.balance + y.overdraft - y.held).toNat, u16 refs, u8 0].flatten
        let captured (x : Account) (n h : Nat) : Account := { x with
          balance := x.balance - n, held := x.held - h, vends := min 65535 (x.vends + 1), lastDay := s.clock.day }
        let fails := b = .readAccount a ∧ s.fram.account a = none ∧ small
        -- a vend
        (∀ q v y stale, s.context c = ⟨some q, .holdRead y, stale⟩ → y.account = a → PayRequest.vend? q = some v →
          let at_ (p : PaymentUnit) (g : Stage) : PaymentUnit := sets p ⟨some q, g, stale⟩
          let refused (why : Reason) := moves read [] (at_ free (.reply (.refused why) none)) port fun _ => True
          (fails → notes read [] ((at_ free (.reply (.refused .accountDamaged) none)).joined a) port noted fun _ => True) ∧
          (b = .readAccount a → ∀ x, s.fram.account a = some x →
            (x.state = .free → refused .accountClosed) ∧ (x.state = .suspended → refused .suspended) ∧
            (x.state = .opened →
              let price := s.tariff.priceOf s.clock s.feeder.demand.isSome
                ⟨v.cls, v.programme, v.count, y.attributes.peakExempt, x.group, false⟩
              (price = none → refused .programmeInvalid) ∧ ∀ z, price = some z →
                let part : Part := ⟨some a, y.source, 0, z.units, z.price, z.price, none, z.factor, z.band, z.surcharged⟩
                (x.balance + x.overdraft - x.held < z.price → refused .insufficient) ∧
                ((z.price : Int) ≤ x.balance + x.overdraft - x.held →
                  (0 < z.price → moves read [] (at_ s.payment (.holdWrite y part))
                    (issuing (.writeAccount a { x with held := x.held + z.price })) fun _ => True) ∧
                  (z.price = 0 → moves read [] (at_ free (.holdSlot part)) (issuing (if v.extends_ then .slotAppend v.machine part
                    else .writeSlot v.machine ⟨none, some ⟨v.id, v.programme,
                      ((s.session v.machine).map Session.mode).getD .immediate, z.units, 0, 0, [⟨part, false⟩]⟩⟩)) fun _ => True))))) ∧
        (∀ q v y part stale, s.context c = ⟨some q, .holdWrite y part, stale⟩ → y.account = a → PayRequest.vend? q = some v →
          moves written [.fram] (sets free ⟨some q, .holdSlot part, stale⟩) (issuing (if v.extends_ then .slotAppend v.machine part
            else .writeSlot v.machine ⟨none, some ⟨v.id, v.programme,
              ((s.session v.machine).map Session.mode).getD .immediate, part.units, 0, 0, [⟨part, false⟩]⟩⟩)) stored) ∧
        -- a settlement
        (∀ q j stale part later, j.todo = part :: later → part.payer = some a → 0 < part.hold → j.todo.length ≤ 4 →
          let charge := s.tariff.charge ⟨j.cls, j.programme, j.cause, j.elapsed, j.paused, j.rules⟩ part
          let done (n : Nat) : List Part := j.settled ++ [{ part with charge := some n }]
          (s.context c = ⟨some q, .settleRead j, stale⟩ →
            (fails → s.SettlesOn (fun p x v => notes read [] p x v fun _ => True) (free.joined a) port c q stale j noted
              (done charge) later) ∧
            (b = .readAccount a → ∀ x, s.fram.account a = some x →
              moves read [] (sets s.payment ⟨some q, .settleWrite j charge, stale⟩)
                (issuing (.writeAccount a (captured x charge part.hold))) fun _ => True)) ∧
          ∀ n, s.context c = ⟨some q, .settleWrite j n, stale⟩ → small →
            s.SettlesOn (fun p x v => notes written [.fram] p x v stored) free port c q stale j s.supervisor (done n) later) ∧
        -- a PART_RELEASE
        (∀ m id n part w stale, part.payer = some a → ∀ y, s.session m = some y →
          let q := PayRequest.partRelease m id n part w
          let slot := issuing (.slotParts m y.parts y.units)
          (s.context c = ⟨some q, .releaseRead, stale⟩ →
            (fails → notes read [] ((sets free ⟨some q, .releaseSlot, stale⟩).joined a) slot noted fun _ => True) ∧
            (b = .readAccount a → ∀ x, s.fram.account a = some x →
              moves read [] (sets s.payment ⟨some q, .releaseWrite, stale⟩)
                (issuing (.writeAccount a { x with held := x.held - part.hold })) fun _ => True)) ∧
          (s.context c = ⟨some q, .releaseWrite, stale⟩ →
            moves written [.fram] (sets free ⟨some q, .releaseSlot, stale⟩) slot stored)) ∧
        -- a deferred entry
        (∀ q d stale part, d.parts.find? (fun p => !p.written && p.payer.isSome) = some part → part.payer = some a →
          d.parts.length ≤ 4 →
          let goesOn (o : Host.Outcome State Fault Refusal) (changed : List Block) (base : PaymentUnit) (v : Supervisor)
              (holds : State → Prop) := s.EntryGoesOn
            (fun p x v k => notes o (.free :: changed) p x v fun t => t.freeIndex = k ∧ holds t) base c q stale 4
            (port.past d.key part) v (d.past part)
          (s.context c = ⟨some q, .deferredRead d, stale⟩ →
            (fails → goesOn read [] (free.joined a) noted fun _ => True) ∧
            (b = .readAccount a → ∀ x, s.fram.account a = some x →
              moves read [] (sets s.payment ⟨some q, .deferredWrite d, stale⟩)
                (issuing (.writeAccount a (if part.release then { x with held := x.held - part.hold }
                  else captured x part.charge part.hold))) fun _ => True)) ∧
          (s.context c = ⟨some q, .deferredWrite d, stale⟩ → small → goesOn written [.fram] free s.supervisor stored)) ∧
        -- a host operation
        ∀ op stale, let q := PayRequest.account a op
          let closed : PaymentUnit := sets free Context.initial
          (s.context c = ⟨some q, .accountRead, stale⟩ →
            (fails →
              (op = .read → repliesNoting read (closed.joined a) noted .ok
                ([u8 0, i32 0, u16 0, u32 (s.computeHeld a), u8 0, u16 0, u16 0, u32 0, u16 refs, u8 1].flatten)) ∧
              (op ≠ .read → repliesNoting read (closed.joined a) noted .refusedState [])) ∧
            (b = .readAccount a → ∀ x, s.fram.account a = some x →
              let refused (st : Status) := replies read [] closed st [] fun _ => True
              let writes (y : Account) := moves read [] (sets s.payment ⟨some q, .accountWrite y x.balance, stale⟩)
                (issuing (.writeAccount a y)) fun _ => True
              (op = .read → replies read [] closed .ok (block x) fun _ => True) ∧
              (∀ o g, op = .opened o g →
                (x.state = .free → writes ⟨.opened, 0, o, 0, g, 0, 0⟩) ∧ (x.state ≠ .free → refused .refusedState)) ∧
              (op = .close → let may := x.state ≠ .free ∧ refs = 0 ∧ x.held = 0
                (may → writes ⟨.free, 0, 0, 0, 0, 0, 0⟩) ∧ (¬ may → refused .refusedState)) ∧
              (∀ st o g, op = .set st o g →
                let short := match o with | some k => k < x.overdraft ∧ x.balance + k < x.held | none => False
                (x.state = .free → refused .refusedState) ∧ (x.state ≠ .free → short → refused .limit) ∧
                (x.state ≠ .free → ¬ short → writes ⟨st.getD x.state, x.balance, o.getD x.overdraft, x.held, g.getD x.group,
                  x.vends, x.lastDay⟩)) ∧
              (∀ n, op = .credit n → let y := x.balance + n
                (x.state = .free → refused .refusedState) ∧ (x.state ≠ .free → 999999 < y → refused .limit) ∧
                (x.state ≠ .free → y ≤ 999999 → writes { x with balance := y })) ∧
              ∀ n, op = .adjust n → let y := x.balance + n
                let outside := y < -10000 ∨ 999999 < y ∨ y + x.overdraft < x.held
                (x.state = .free → refused .refusedState) ∧ (x.state ≠ .free → outside → refused .limit) ∧
                (x.state ≠ .free → ¬ outside → writes { x with balance := y }))) ∧
          ∀ y before, s.context c = ⟨some q, .accountWrite y before, stale⟩ →
            let frees : Bool := match op with | .close => true | .setAll st _ _ _ _ _ => st == .free | _ => false
            let cache : Cache := if frees then { s.cache with sets := s.cache.sets.map fun k =>
              { k with ways := k.ways.map fun o => o.filter fun e => e.account != a } } else s.cache
            let damaged := match op with
              | .setAll _ _ _ _ _ _ => s.payment.damaged.filter (· != a)
              | _ => s.payment.damaged
            replies written [.cache, .fram] { closed with damaged := damaged } .ok
              (block y ++ if op = .close then i32 before else []) fun t => t.cache = cache.arbitrate ∧ stored t) ∧
      -- a directory write's new account
      (∀ p a attrs h j stale, let q := PayRequest.directory (.card p) (some (.account a attrs h))
        s.context c = ⟨some q, .dirAccount j, stale⟩ → j.path = .card p → j.write = some (.account a attrs h) → b = .readAccount a →
        (s.payment.locks.filter fun e => j.locks.contains e.account) = (j.locks.map fun k => ⟨k, c, []⟩) →
        let free : PaymentUnit := { s.payment with locks := s.payment.locks.filter fun e => !j.locks.contains e.account }
        let closed : PaymentUnit := sets free Context.initial
        (s.fram.account a = none → small →
          repliesNoting read (closed.joined a) (s.noted s.supervisor (.account a)) .refusedState []) ∧
        ∀ x, s.fram.account a = some x →
          (x.state = .free → replies read [] closed .badArgument [] fun _ => True) ∧
          (x.state ≠ .free → s.directory.Plans (fun st => replies read [] closed st [] fun _ => True)
            (fun d w => moves read [.directory] (sets s.payment ⟨some q, .dirWrite w, stale⟩)
              { s.store with queue := rest ++ (w.writes.take 1).map fun u => ⟨.context c, u.access⟩ } fun t => t.directory = d)
            p (.account a attrs h) j)) ∧
      -- the first waiter gets the lock
      ∀ (a : AccountNo) w ws x y n before stale g, (s.payment.locks.filter fun e => e.account == a) = [⟨a, c, w :: ws⟩] → w ≠ c →
        a ∉ s.payment.damaged →
        (∃ z, (s.context w).stage = .holdLock z ∧ z.account = a ∧ g = .holdRead z) ∨
          (∃ j, (s.context w).stage = .settleLock j ∧ j.todo.head?.bind Part.payer = some a ∧ g = .settleRead j) →
        let passed : PaymentUnit := { s.payment with
          contexts := (s.payment.contexts.set c.1 Context.initial).set w.1 { s.context w with stage := g }
          locks := s.payment.locks.map fun e => if e.account = a then ⟨a, w, ws⟩ else e }
        let next : StorePort := { s.store with queue := rest ++ [⟨.context w, .readAccount a⟩] }
        ∀ f, s.host.buffer = [f] →
          (s.context c = ⟨some (.account a .read), .accountRead, stale⟩ → b = .readAccount a → s.fram.account a = some x →
            moves read [.host] passed next fun t =>
              t.host = (s.host.answering f .ok (accountBytes x (look s.directory.refs a))).transmit) ∧
          (s.context c = ⟨some (.account a (.credit n)), .accountWrite y before, stale⟩ → moves written [.host, .fram] passed next fun t =>
            t.host = (s.host.answering f .ok (accountBytes y (look s.directory.refs a))).transmit ∧ stored t)

/-- A transaction of a context on a machine slot completes. A settlement's slot read finds the session's copy: every part that takes an
account step is marked first, and when that mark is made, or none is needed, the settlement goes on with the copy's parts (R107, R108). A
copy that is another session's, or none, gives way to the session engine's parts, the slot then not written; a damaged slot is reported,
the engine's parts taken, and the slot written at the end (R107, R109). A slot write of a vend hands its part over as a success (R102),
and that of a settlement hands the settled parts over with the code written (R109). A PART_RELEASE's mark leads to its payer's lock and
record, or past a damaged one; its slot write hands its completion over (R112). A deferred entry's slot write ends it: the entry leaves
the list, a context that kept one places it, and the next are offered (R113, R185, R186). The model's choices are: nothing at the head
(log entry 2); which kept entry is placed (8); the order of transactions of a lock (41); that a damaged slot counts as the session's own,
to be written at the end (48); and that a slot write completes, and is a success for a vend, whatever the slot held: a damaged record
(45), no session copy (73) or another session's (46, 73). -/
def Obligations.SlotAccessesGoOn : Prop :=
  ∀ s : State, s.Runs →
    let read := exec .slotReadDone s
    let written := exec .slotWriteDone s
    let small := s.supervisor.log.length ≤ 75
    (s.storeUp = false ∨ s.store.queue = [] → Leads read s [] (fun _ => True) ∧ Leads written s [] fun _ => True) ∧
    ∀ c a rest, s.store.queue = ⟨.context c, a⟩ :: rest → s.storeUp = true →
      let port : StorePort := { s.store with queue := rest }
      let issuing (b : Access) : StorePort := { s.store with queue := rest ++ [⟨.context c, b⟩] }
      let sets (y : Context) : PaymentUnit := { s.payment with contexts := s.payment.contexts.set c.1 y }
      let stored (t : State) : Prop := t.fram = (s.fram.perform a).2
      let notes (o : Host.Outcome State Fault Refusal) (changed : List Block) (p : PaymentUnit) (x : StorePort) (v : Supervisor)
          (holds : State → Prop) := LeadsNoticing o s ([.payment, .store, .supervisor] ++ changed) fun t =>
        t.payment = p ∧ t.StoreFrom x ∧ t.supervisor = v ∧ (v = s.supervisor → t.host = s.host.transmit) ∧ holds t
      let ends (p : PaymentUnit) (x : StorePort) := Leads written s [.payment, .store, .fram] fun t =>
        t.payment = p ∧ t.StoreFrom x ∧ stored t
      (∀ m id cause e p rules stale, let q := PayRequest.settle m id cause e p
        s.context c = ⟨some q, .settleSlotRead rules, stale⟩ → a = .readSlot m → small →
        let programme := match s.session m with | some x => x.programme | none => 0
        let engine := match s.session m with | some x => x.parts | none => []
        let job (parts : List Part) (writes : Bool) : SettleJob :=
          ⟨m, id, cause, e, p, (s.machine m).cls, programme, rules, writes, parts, []⟩
        let settles (parts : List Part) (writes : Bool) (v : Supervisor) : Prop := parts.length ≤ 4 →
          s.SettlesOn (fun y x v => notes read [] y x v fun _ => True) s.payment port c q stale (job parts writes) v [] parts
        (s.fram.slot m = none → settles engine true (s.noted s.supervisor (.machine m))) ∧
        ∀ y, s.fram.slot m = some y →
          (y.copy = none → settles engine false s.supervisor) ∧
          ∀ copy, y.copy = some copy →
            let parts := copy.parts.map SlotPart.part
            (copy.id ≠ id → settles engine false s.supervisor) ∧
            (copy.id = id → (∀ z ∈ parts, z.payer = none ∨ z.hold = 0) → settles parts true s.supervisor) ∧
            (copy.id = id → (∃ z ∈ parts, z.payer ≠ none ∧ 0 < z.hold) → Leads read s [.payment, .store] fun t =>
              t.payment = sets ⟨some q, .settleMark (job parts true), stale⟩ ∧ t.StoreFrom (issuing (.slotMarkAll m)))) ∧
      (∀ q part stale, s.context c = ⟨some q, .holdSlot part, stale⟩ →
        ends (sets ⟨some q, .reply (.success part true) none, stale⟩) port) ∧
      (∀ q j stale, s.context c = ⟨some q, .settleMark j, stale⟩ → j.todo.length ≤ 4 → small →
        s.SettlesOn (fun y x v => notes written [.fram] y x v stored) s.payment port c q stale j s.supervisor j.settled j.todo) ∧
      (∀ q j code stale, s.context c = ⟨some q, .settleSlot j code, stale⟩ →
        ends (sets ⟨some q, .reply (.settled j.settled (some code)) none, stale⟩) port) ∧
      (∀ m id n p w stale, let q := PayRequest.partRelease m id n p w
        s.context c = ⟨some q, .releaseMark, stale⟩ → ∀ b, p.payer = some b →
        let unlocked := ∀ e ∈ s.payment.locks, e.account ≠ b
        let at_ (g : Stage) (locks : List LockEntry) : PaymentUnit := { sets ⟨some q, g, stale⟩ with locks := locks }
        (unlocked → b ∉ s.payment.damaged →
          ends (at_ .releaseRead (s.payment.locks ++ [⟨b, c, []⟩])) (issuing (.readAccount b))) ∧
        (unlocked → b ∈ s.payment.damaged → small → ∀ y, s.session m = some y →
          notes written [.fram] (at_ .releaseSlot s.payment.locks) (issuing (.slotParts m y.parts y.units))
            (s.noted s.supervisor (.account b)) stored) ∧
        (¬ unlocked → ends (at_ .releaseLock (waitingFor s.payment.locks b c)) port)) ∧
      (∀ q stale, s.context c = ⟨some q, .releaseSlot, stale⟩ → ends (sets ⟨some q, .reply .released none, stale⟩) port) ∧
      ∀ q d stale, s.context c = ⟨some q, .deferredSlot d, stale⟩ →
        s.EntryLeaves (fun p x k => Leads written s [.payment, .store, .fram, .free] fun t =>
          t.payment = p ∧ t.StoreFrom x ∧ t.freeIndex = k ∧ stored t) (sets Context.initial) port d.key

/-! ## The store port and the scan -/

/-- The status read of a transaction gives no valid status (R182). At a transaction of the scan the part is NO_STORE (R187). Otherwise the
store is DOWN, everything in the queue fails back to its issuer in queue order, a STORE notice is queued with the number of deferred
entries, and tPROBE runs (R182). A day update is dropped, a refresh or lockout update is marked again, a segment's write ends its
CONFIG_SAVE STORE_UNAVAILABLE (R180, R181, R206). A context's transaction fails back by its step: a walk's and an account step's vend is
refused STORE_UNAVAILABLE, the lock given up, and a slot write's leaves a release entry, or is left out for a part with no account step
(R60, R103, R105); a probe reports outcome 4 (R74); a settlement computes the charges left and places its entry, a PART_RELEASE a release
entry, and both complete, or wait with the entry where the list is full (R110, R112, R185); a DEFERRED entry is no longer offered (R113); a
directory request, in phase 3 with the locks it holds, and an account request is replied STORE_UNAVAILABLE (R68, R114). A lock given up
passes to its first waiter, whose read then fails back too, before the rest of the queue (R98, R183; that order is the model's choice, log
entry 42).
tPROBE, running while the store is DOWN, issues a status read; one without a valid status starts it again, and a valid one makes the store
UP, with its notice and the deferred entries offered (R184, R186). The model's choices are also: that nothing happens otherwise (log entry
2), that NO_STORE leaves the tariff at its defaults (57), the number of an EXTEND's part and of a released one (49, 74), the parts an entry
keeps (75), and that a settlement's leaves out those passed over (91), its key (59), and what else a full list's entry stands for (8). -/
def Obligations.StoreFailsAndReturns : Prop :=
  ∀ s : State, s.Runs →
    let fails := exec .storeFailure s
    let timer := exec .probeTimerExpiry s
    let probe (v : Bool) := exec (.probeComplete v) s
    let notice (st : StoreState) (h : HostLink) := h.offered [.store st s.store.deferred.length]
    (s.storeUp = false ∨ s.store.queue = [] → Leads fails s [] fun _ => True) ∧
    (s.storeUp = true → ∀ a rest, s.store.queue = ⟨.scanner, a⟩ :: rest → ∃ t, fails = .next t ∧ t.pending = s.pending ∧
      t.startUp = .noStore ∧ t.store.state = .noStore ∧ t.store.queue = [] ∧ t.tariff = State.reset.tariff ∧
      t.fram = s.fram ∧ t.clock = s.clock) ∧
    (s.storeUp = true → s.store.queue ≠ [] →
      State.AllFail (fun u => Leads fails s [.payment, .store, .host, .directory] fun t =>
          t.payment = u.payment ∧ t.directory = u.directory ∧ t.store = { u.store with probeTimer := true } ∧
          t.host = (u.host.offered [.store .down u.store.deferred.length]).transmit)
        64 s.store.queue { s with store := { s.store with state := .down, queue := [] } }) ∧
    (s.store.state ≠ .down ∨ s.store.probeTimer = false → Leads timer s [] fun _ => True) ∧
    (s.store.state = .down → s.store.probeTimer = true → Leads timer s [.store] fun t =>
      t.store = { s.store with probeTimer := false, queue := s.store.queue ++ [⟨.probe, .status⟩] }) ∧
    (s.store.state ≠ .down ∨ s.store.queue = [] → ∀ v, Leads (probe v) s [] fun _ => True) ∧
    ∀ a, s.store.state = .down → s.store.queue = [⟨.probe, a⟩] →
      (Leads (probe false) s [.store] fun t => t.store = { s.store with queue := [], probeTimer := true }) ∧
      ((s.store.deferred.map Deferred.key).Nodup →
        let waits := s.payment.queue
        let new := (s.store.deferred.filter fun d => !d.offered).take (7 - (waits.filter PayRequest.isDeferred).length)
        let fed := waits.takeWhile PayRequest.isDeferred ++ (new.map fun d => PayRequest.deferred d.key) ++
          waits.dropWhile PayRequest.isDeferred
        let offered := s.store.deferred.map fun d => { d with offered := d.offered || new.contains d }
        Leads (probe true) s [.store, .host, .payment] fun t =>
          t.host = (notice .up s.host).transmit ∧ t.payment = { s.payment with queue := fed } ∧
          t.StoreFrom { s.store with state := .up, queue := [], deferred := offered })

/-- A transaction at the head of the queue that completes leaves it, its access carried out. A day update and a refresh change nothing else,
but that a lockout update that finds its slot damaged writes a STORE_DAMAGED note (R61, R181). The scan: a segment read is kept and the next
is read, after the last the stored values take effect, the notice mask apart; an unreadable one ends the scan NOT_CONFIGURED with the mask
at its default (R187, R200, R209), the segments after it unread, the model's choice (log entry 96). The directory pass reads the floor table
and each page named once, adds the ACCOUNT descriptors to the counts, repairs what is damaged or named twice, and leaves the other pages
free (R188). The slot pass gives each assigned machine the state its slot calls for (R2, R189). The account pass leaves an account whose
held amount is the sum of the slots, lowers one that holds more, and puts a damaged one on the list; from one that holds less it detaches
marked parts, slot by slot in the order the slot pass kept them and in part order, while the sum still exceeds what is held, and writes the
held amount equal to the sum left; a repair writes its STORE_REPAIR record, and after account 1023 the slots changed are written (R190).
Then the scan ends: the cap rises to the largest hold rebuilt (R127), the leak inputs are sampled, a wet room closing and a dry one's valve
OPEN (R176), links of assigned and enabled machines start PROBING, recovery windows start, and the part is RECOVERING or READY, with the
stored mask and a START_UP notice (R209). `State.ScanAlone` (kept by every step: FeederBoundsAreKept) says that nothing else is at work
then. The model's choices are: nothing at the head (log entry 2), when repairs take effect on chip (56), that a recovery window is a flag
(64), when the leak inputs are sampled (68) and in which order (82), and the order in which the slots changed are written (93). -/
def Obligations.PortTransactionsComplete : Prop :=
  ∀ s : State, s.Runs →
    let day := exec .dayUpdateDone s
    let refresh := exec .slotRefreshDone s
    let scan := exec .scanTransactionDone s
    (s.storeUp = false ∨ s.store.queue = [] →
      Leads day s [] (fun _ => True) ∧ Leads refresh s [] (fun _ => True) ∧ Leads scan s [] fun _ => True) ∧
    ∀ i a rest, s.storeUp = true → s.store.queue = ⟨i, a⟩ :: rest →
      let port : StorePort := { s.store with queue := rest }
      let n := (s.supervisor.counter + 1) % 4294967296
      let record (source : Source) (c : FaultCode) (sev : Severity) (x : Reference) : FaultRecord :=
        ⟨n, s.clock.day, s.clock.minute, source, c, sev, x, none, false⟩
      let noted (rule : Fin 8) (c : FaultCode) (x : Reference) : Supervisor :=
        if look s.supervisor.enables rule = false then s.supervisor
        else { s.supervisor with log := s.supervisor.log ++ [record .part c .note x], counter := n }
      let done (o : Host.Outcome State Fault Refusal) := Leads o s [.store, .fram] fun t =>
        t.fram = (s.fram.perform a).2 ∧ t.StoreFrom port
      (i = .dayList → done day) ∧
      (∀ m, i = .refresher m false → done refresh) ∧
      (∀ m, i = .refresher m true →
        ((s.fram.perform a).1 ≠ .damaged ∨ look s.supervisor.enables 6 = false → done refresh) ∧
        ((s.fram.perform a).1 = .damaged → look s.supervisor.enables 6 = true → s.supervisor.log.length < 80 →
          LeadsNoticing refresh s [.store, .fram, .supervisor] fun t =>
            t.fram = (s.fram.perform a).2 ∧ t.StoreFrom port ∧ t.supervisor = noted 6 .storeDamaged (.machine m))) ∧
      (i = .scanner →
        let x0 := s.scan
        let goes (x : Scan) (at_ : ScanAt) (b : Access) (changed : List Block) (holds : State → Prop) :=
          Leads scan s ([.store, .scan] ++ changed) fun t => t.scan = { x with at_ := at_ } ∧
            t.store = { s.store with queue := rest ++ [⟨.scanner, b⟩] } ∧ holds t
        let records (v : Supervisor) (x : Scan) (at_ : ScanAt) (b : Access) (changed : List Block) (holds : State → Prop) :=
          LeadsNoticing scan s ([.store, .scan, .supervisor] ++ changed) fun t => t.scan = { x with at_ := at_ } ∧
            t.store = { s.store with queue := rest ++ [⟨.scanner, b⟩] } ∧ t.supervisor = v ∧ holds t
        let from_ (k : Nat) (into : ScanAt → Access → Prop) : Prop :=
          (∀ m : MachineNo, k ≤ m.1 → (s.machine m).assigned = true →
            (∀ j : MachineNo, k ≤ j.1 → j < m → (s.machine j).assigned = false) → into (.slot m) (.readSlot m)) ∧
          ((∀ j : MachineNo, k ≤ j.1 → (s.machine j).assigned = false) → into (.account 0) (.readAccount 0))
        let pages (x : Scan) (d : DirectoryUnit) (ps : List ScanPage) (into : DirectoryUnit → ScanAt → Access → Prop) : Prop :=
          (∀ p later, ps = p :: later →
            let reached := match p with | .flat _ _ g => g ∈ x.usedFlats | .card _ _ _ _ g => g ∈ x.usedCards
            (¬ reached → into d (.page p later) p.access) ∧ (reached → into d (.pageRepair p later) p.invalidate)) ∧
          (ps = [] → from_ 0 (into { d with
            freeFlats := (indexes 64).filter fun g => !x.usedFlats.contains g
            freeCards := (indexes 512).filter fun g => !x.usedCards.contains g }))
        let reads (x : Scan) (d : DirectoryUnit) (ps : List ScanPage) : Prop :=
          pages x d ps fun e at_ b => goes x at_ b [.directory] fun t => t.directory = e
        let repairs (ps : List ScanPage) : Prop := s.supervisor.log.length < 80 →
          pages x0 s.directory ps fun e at_ b => records (noted 7 .storeRepair .none) x0 at_ b [.directory, .fram] fun t =>
            t.directory = e ∧ t.fram = (s.fram.perform a).2
        -- the end of the scan, `v` being the supervisor before the leak inputs are sampled
        let ends (st : StartUpState) (mask : NoticeMask) (cap : Nat) (v : Supervisor) (changed : List Block)
            (holds : State → Prop) : Prop := s.ScanAlone → v.log.length + 4 ≤ 80 →
          let rooms := (indexes 4).filter fun r => look v.enables 4 && (s.guard r).wet (s.guard r).input
          Leads scan s ([.startUp, .host, .line, .engine, .tariff, .supervisor, .store, .scan] ++ changed) fun t =>
            t.startUp = st ∧ t.tariff = { s.tariff with cap := cap } ∧ t.StoreFrom port ∧ t.scan = { Scan.initial with at_ := .off } ∧
            t.line = ({ s.line with links := Vector.ofFn fun m => if (s.machine m).assigned && (s.machine m).enabled then
              ⟨.probing, 0, .expired, false, none, none, CommandTable.empty⟩ else s.link m }).begin ∧
            t.engine = { s.engine with machines := Vector.ofFn fun m =>
              { s.machine m with recoveryWindow := (s.machine m).state == .recovering } } ∧
            t.supervisor = s.shutting rooms { v with rooms := Vector.ofFn fun r =>
              { s.guard r with filtered := (s.guard r).input, valveOpen := true } } ∧
            (∃ ns, (rooms = [] → v = s.supervisor → ns = []) ∧
              t.host = ({ s.host.offered ns with mask := mask }.offer (.startUp st s.store.state)).transmit) ∧ holds t
        let completes (v : Supervisor) (changed : List Block) (holds : State → Prop) : Prop := ∀ c, x0.three = some c →
          ends (if ∃ m, (s.machine m).state = .recovering then .recovering else .ready) c.mask
            (((indexes 64).flatMap fun m => match s.session m with | some x => x.parts.map Part.hold | none => []).foldl max
              s.tariff.cap) v changed holds
        -- the configuration block
        (∀ one, x0.at_ = .segment 0 → a = .readSegment 0 → s.fram.segmentOne = some one →
          goes { x0 with one := some one } (.segment 1) (.readSegment 1) [] fun _ => True) ∧
        (∀ two, x0.at_ = .segment 1 → a = .readSegment 1 → s.fram.segmentTwo = some two →
          goes { x0 with two := some two } (.segment 2) (.readSegment 2) [] fun _ => True) ∧
        (∀ three, x0.at_ = .segment 2 → a = .readSegment 2 → s.fram.segmentThree = some three →
          goes { x0 with three := some three } (.segment 3) (.readSegment 3) [] fun _ => True) ∧
        (∀ one two three four, x0.at_ = .segment 3 → a = .readSegment 3 → x0.one = some one → x0.two = some two →
          x0.three = some three → s.fram.segmentFour = some four →
            goes x0 .floors .readFloors [.engine, .directory, .cache, .tariff, .feeder, .supervisor, .lamps] fun t =>
              t.tariff = two ∧ t.lamps = three.lamps ∧ t.cache = (s.cache.configure three.cache).arbitrate ∧
              t.directory = { s.directory with site := one.site, windows := three.windows } ∧
              t.engine = { s.engine with
                armSeconds := three.armSeconds, overrunMinutes := three.overrunMinutes, graceMinutes := three.graceMinutes
                machines := Vector.ofFn fun m => let i := look one.machines m
                  { s.machine m with room := i.room, cls := i.cls, assigned := i.assigned } } ∧
              t.feeder = { s.feeder with
                mode := three.mode, limit := three.limit, high := three.high, low := three.low
                rooms := Vector.ofFn fun r => { look s.feeder.rooms r with capacity := (look one.rooms r).capacity } } ∧
              t.supervisor = { s.supervisor with
                enables := four.enables, severities := four.severities
                rooms := Vector.ofFn fun r => { s.guard r with edge := (look one.rooms r).edge } }) ∧
        (∀ k, x0.at_ = .segment k → a = .readSegment k → (s.fram.perform a).1 = .damaged →
          (∃ t, scan = .next t ∧ t.pending = s.pending ∧ t.startUp = .notConfigured ∧ t.fram = s.fram ∧
            t.tariff = s.tariff ∧ t.clock = s.clock ∧ t.host.mask = State.reset.host.mask ∧ t.scan.at_ = .off) ∧
          ends .notConfigured State.reset.host.mask s.tariff.cap s.supervisor [] fun _ => True) ∧
        -- the directory pass
        (x0.at_ = .floors → a = .readFloors →
          (∀ tab, s.fram.floorTable = some tab → reads x0 s.directory (floorPages tab)) ∧
          (s.fram.floorTable = none →
            goes x0 .floorsRepair (.writeFloors (Vector.replicate 64 ⟨none, false⟩)) [] fun _ => True)) ∧
        (∀ p later, x0.at_ = .page p later → a = p.access →
          (∀ f hold g, p = .flat f hold g →
            (∀ y, s.fram.flatPage g = some y →
              reads { x0 with usedFlats := g :: x0.usedFlats } s.directory (flatPages f g y ++ later)) ∧
            (s.fram.flatPage g = none → goes x0 (.pageRepair p later) (.updateFloor f ⟨none, hold⟩) [] fun _ => True)) ∧
          (∀ f k o hold g, p = .card f k o hold g →
            (∀ y, s.fram.cardPage g = some y → reads { x0 with usedCards := g :: x0.usedCards }
              { s.directory with refs := countPage s.directory.refs y } later) ∧
            (s.fram.cardPage g = none → goes x0 (.pageRepair p later) (.updateFlat k o ⟨none, hold⟩) [] fun _ => True))) ∧
        (∀ p later, x0.at_ = .pageRepair p later → repairs later) ∧
        (x0.at_ = .floorsRepair → repairs []) ∧
        -- the slot pass
        (∀ m, x0.at_ = .slot m → a = .readSlot m →
          let r := s.machine m
          let becomes (q : MachineRecord) (id : Nat) : SessionEngine :=
            { s.engine with machines := s.engine.machines.set m.1 q, idCounter := id }
          let found (q : MachineRecord) (id : Nat) (x : Scan) : Prop :=
            from_ (m.1 + 1) fun at_ b => goes x at_ b [.engine] fun t => t.engine = becomes q id
          let locked (q : MachineRecord) (id : Nat) (x : Scan) : Prop := s.supervisor.log.length < 80 →
            from_ (m.1 + 1) fun at_ b => records { s.supervisor with
                log := s.supervisor.log ++ [record (.machine m) .restoredLockout .lockout
                  (match q.session with | some y => .session y.id | none => .none)]
                counter := n, locking := s.supervisor.locking.set m.1 (some n) } x at_ b [.engine] fun t =>
              t.engine = becomes q id
          let kept (y : Slot) : Scan := { x0 with slots := x0.slots ++ [(m, y)] }
          let recovering (copy : SlotCopy) (after : AfterSettle) : MachineRecord := { r with
            state := .recovering
            session := some { newSession copy.id copy.programme copy.mode 0 copy.units (copy.parts.map SlotPart.part) with
              elapsed := copy.elapsed, paused := copy.paused, startDay := s.clock.day, startMinute := s.clock.minute }
            afterSettle := after }
          (s.fram.slot m = none → goes x0 (.slotRepair m) (.writeSlot m ⟨some .restoredLockout, none⟩) [] fun _ => True) ∧
          ∀ y, s.fram.slot m = some y →
            (y.copy = none → y.lockout = none → found { r with state := .offline } s.engine.idCounter x0) ∧
            (y.copy = none → ∀ code, y.lockout = some code →
              (r.session = none → locked { r with state := .lockedOut, lockout := some code } s.engine.idCounter x0)) ∧
            ∀ copy, y.copy = some copy → let id := max s.engine.idCounter copy.id
              (y.lockout = none → found (recovering copy .done) id (kept y)) ∧
              (∀ code, y.lockout = some code → locked (recovering copy (.lockedOut code)) id (kept y))) ∧
        let shut (m : MachineNo) : MachineRecord :=
          { s.machine m with state := .lockedOut, lockout := some .restoredLockout }
        (∀ m, x0.at_ = .slotRepair m → (s.machine m).session = none → look s.supervisor.enables 6 = false →
          s.supervisor.log.length < 80 →
            from_ (m.1 + 1) fun at_ b => records { s.supervisor with
                log := s.supervisor.log ++ [record (.machine m) .restoredLockout .lockout .none]
                counter := n, locking := s.supervisor.locking.set m.1 (some n) } x0 at_ b [.engine, .fram] fun t =>
              t.fram = (s.fram.perform a).2 ∧ t.engine = { s.engine with machines := s.engine.machines.set m.1 (shut m) }) ∧
        (∀ m, x0.at_ = .slotRepair m → (s.machine m).session = none → look s.supervisor.enables 6 = true →
          s.supervisor.log.length < 79 → let after := (n + 1) % 4294967296
            from_ (m.1 + 1) fun at_ b => records { s.supervisor with
                log := s.supervisor.log ++ [record .part .storeDamaged .note (.machine m),
                  { record (.machine m) .restoredLockout .lockout .none with sequence := after }]
                counter := after, locking := s.supervisor.locking.set m.1 (some after) } x0 at_ b [.engine, .fram] fun t =>
              t.fram = (s.fram.perform a).2 ∧ t.engine = { s.engine with machines := s.engine.machines.set m.1 (shut m) }) ∧
        -- the account pass: after account k the next is read, and after the last the slots changed are written, lowest first
        let writes (into : Scan → ScanAt → Access → Prop) (last : Prop) : Prop :=
          (∀ m y, m ∈ x0.changed → (∀ j ∈ x0.changed, m ≤ j) → x0.slots.find? (fun z => z.1 == m) = some (m, y) →
            into { x0 with changed := x0.changed.filter fun j => j != m } (.slotWrite m) (.writeSlot m y)) ∧
          (x0.changed = [] → last)
        let passes (k : AccountNo) (into : Scan → ScanAt → Access → Prop) (last : Prop) : Prop :=
          (∀ j : AccountNo, j.1 = k.1 + 1 → into x0 (.account j) (.readAccount j)) ∧ (k.1 = 1023 → writes into last)
        let performed (t : State) : Prop := t.fram = (s.fram.perform a).2
        (∀ k : AccountNo, x0.at_ = .account k → a = .readAccount k →
          (∀ x, s.fram.account k = some x →
            let sum := heldIn k x0.slots
            (x.held = sum → passes k (fun x at_ b => goes x at_ b [] fun _ => True)
              (completes s.supervisor [] fun _ => True)) ∧
            (sum < x.held → goes x0 (.accountWrite k) (.writeAccount k { x with held := sum }) [] fun _ => True) ∧
            (x.held < sum → (x0.slots.map Prod.fst).Nodup →
              ∃ left, Detached k x.held x0.slots left ∧
              (heldIn k left ≤ x.held ∨ ∀ p ∈ partsOf left, p.part.payer = some k → p.mark = false) ∧
              let marks := ((x0.slots.zip left).filter fun y => y.1 != y.2).map fun y => y.1.1
              goes { x0 with slots := left, changed := x0.changed ++ marks.filter fun m => !x0.changed.contains m }
                (.accountWrite k) (.writeAccount k { x with held := heldIn k left }) [.engine] fun t =>
                  t.engine = { s.engine with machines := t.engine.machines } ∧
                  ∀ m, t.machine m = match (left.find? fun y => y.1 == m).bind fun y => y.2.copy with
                    | some copy => { s.machine m with
                        session := (s.machine m).session.map fun z => { z with parts := copy.parts.map SlotPart.part } }
                    | none => s.machine m)) ∧
          (s.fram.account k = none → s.supervisor.log.length < 80 →
            let v := noted 6 .storeDamaged (.account k)
            let listed (t : State) : Prop := t.payment = { s.payment with damaged := joinDamaged s.payment.damaged k }
            passes k (fun x at_ b => records v x at_ b [.payment] listed) (completes v [.payment] listed))) ∧
        (∀ k, x0.at_ = .accountWrite k → s.supervisor.log.length < 80 → let v := noted 7 .storeRepair (.account k)
          passes k (fun x at_ b => records v x at_ b [.fram] performed) (completes v [.fram] performed)) ∧
        (∀ m, x0.at_ = .slotWrite m →
          writes (fun x at_ b => goes x at_ b [.fram] performed) (completes s.supervisor [.fram] performed)))

/-! ## The tariff -/

/-- Stage 2: the gross is (B × F + 500) div 1000 for a washer, and for a dryer (n × I × F + 500) div 1000 on the whole part; it lies
between 0 and 15,000, and a price of 0 gives 0 (R130). Stage 3: the discount is (G × d) div 1000, rounded down, and the net is G less it,
between 0 and G: G with d = 0, and 0 with d = 1000 (R131). The manual's examples come out as it gives them. -/
def Obligations.GrossAndNetAreRounded : Prop :=
  ∀ (t : Tariff) (q : PriceRequest) (f gross : Nat) (g : Fin 8),
    let b := (look t.washers q.programme).price
    let i := (look t.dryers q.programme).price
    let d := look t.discounts g
    let washer := { q with cls := .washer }
    let dryer := { q with cls := .dryer }
    t.gross washer f = (b * f + 500) / 1000 ∧ t.gross dryer f = (q.count * i * f + 500) / 1000 ∧
    (b = 125 → f = 1100 → t.gross washer f = 138) ∧ (b = 350 → f = 1300 → t.gross washer f = 455) ∧
    (q.count = 4 → i = 33 → f = 1150 → t.gross dryer f = 152) ∧
    (b ≤ 2000 → f ≤ 2500 → b * f ≤ 5000000 ∧ t.gross washer f ≤ 15000) ∧
    (q.count ≤ 12 → i ≤ 500 → f ≤ 2500 → q.count * i * f ≤ 15000000 ∧ t.gross dryer f ≤ 15000) ∧
    (b = 0 → t.gross washer f = 0) ∧ (i = 0 → t.gross dryer f = 0) ∧
    (d ≤ 1000 →
      (t.net gross g : Int) = gross - (gross * d / 1000 : Nat) ∧ t.net gross g ≤ gross ∧
      (d = 0 → t.net gross g = gross) ∧ (d = 1000 → gross * d / 1000 = gross ∧ t.net gross g = 0) ∧
      (gross ≤ 15000 → gross * d ≤ 15000000)) ∧
    (gross = 455 → d = 150 → gross * d = 68250 ∧ gross * d / 1000 = 68 ∧ t.net gross g = 387)

/-- The band in force is band 0 with the clock unset; otherwise the latest start at or before the minute, or of all four where none is,
the higher-numbered of equal starts (R124). A PRICE step refuses a dryer's count outside 1 to M, takes the factor with the surcharge of a
demand limit that the card is not exempt from, and gives 0 for a FREE window and never more than the cap (R125, R128, R129, R132). The
captured charge follows the end cause and the delay credit and never exceeds the price (R134 to R137). -/
def Obligations.PriceAndChargeAreBounded : Prop :=
  (∀ (t : Tariff) (clock : Timebase), let b := t.bandInForce clock
    let start (k : Fin 4) := (look t.bands k).start
    (clock.clockSet = false → b = 0) ∧
    (clock.clockSet = true →
      ((∃ k, start k ≤ clock.minute) →
        start b ≤ clock.minute ∧ ∀ k, start k ≤ clock.minute → start k < start b ∨ (start k = start b ∧ k ≤ b)) ∧
      ((∀ k, clock.minute < start k) → ∀ k, start k < start b ∨ (start k = start b ∧ k ≤ b)))) ∧
  (∀ (t : Tariff) (clock : Timebase) (demand : Bool) (q : PriceRequest),
    let within := q.cls = .washer ∨ (1 ≤ q.count ∧ q.count ≤ (look t.dryers q.programme).maximum)
    let b := t.bandInForce clock
    let surcharged := demand && !q.peakExempt
    let factor := max 500 (min 2500 ((look t.bands b).factor + if surcharged then t.surcharge else 0))
    (¬ within → t.priceOf clock demand q = none) ∧
    (within → ∃ z, t.priceOf clock demand q = some z ∧ z.factor = factor ∧ z.band = b ∧ z.surcharged = surcharged ∧
      z.price ≤ t.cap ∧ (q.free = true → z.price = 0) ∧
      (q.free = false → z.price = min (t.net (t.gross q factor) q.group) t.cap) ∧
      z.units = if q.cls = .washer then (look t.washers q.programme).duration
        else q.count * (look t.dryers q.programme).length)) ∧
  ∀ (t : Tariff) (e : Ending) (p : Part),
    let credit (n : Nat) := if e.rules.allowance < e.paused then n - n * e.rules.credit / 1000 else n
    let l := (look t.dryers e.programme).length
    let early := e.cause = .aborted ∨ ∃ k, e.cause = .fault k
    t.charge e p ≤ p.price ∧ (e.cause = .completed → t.charge e p = credit p.price) ∧
    (e.cause = .armExpired → t.charge e p = 0) ∧ (early → e.elapsed < e.rules.grace → t.charge e p = 0) ∧
    (early → e.rules.grace ≤ e.elapsed →
      (e.cls = .washer → p.start = 0 → t.charge e p = credit (p.price * min e.elapsed p.units / p.units)) ∧
      (e.cls = .dryer → e.elapsed ≤ p.start → t.charge e p = 0) ∧
      (e.cls = .dryer → p.start < e.elapsed → t.charge e p =
        credit (p.price * min p.units (l * ((e.elapsed - p.start + l - 1) / l)) / p.units)))
end

