-- ==== Sys2Proof/Laws/State.lean ====
section
/-! SUPPORT. One lemma per field per update of State: what an update leaves of every field it does not touch. -/
namespace Sys2Proof.Machine.State

variable (s : State)

@[simp] theorem modMachine_powered (m : MachineNo) (f : MachineRecord → MachineRecord) : (s.modMachine m f).powered = s.powered := rfl
@[simp] theorem modMachine_startUp (m : MachineNo) (f : MachineRecord → MachineRecord) : (s.modMachine m f).startUp = s.startUp := rfl
@[simp] theorem modMachine_clock (m : MachineNo) (f : MachineRecord → MachineRecord) : (s.modMachine m f).clock = s.clock := rfl
@[simp] theorem modMachine_host (m : MachineNo) (f : MachineRecord → MachineRecord) : (s.modMachine m f).host = s.host := rfl
@[simp] theorem modMachine_line (m : MachineNo) (f : MachineRecord → MachineRecord) : (s.modMachine m f).line = s.line := rfl
@[simp] theorem modMachine_directory (m : MachineNo) (f : MachineRecord → MachineRecord) : (s.modMachine m f).directory = s.directory := rfl
@[simp] theorem modMachine_cache (m : MachineNo) (f : MachineRecord → MachineRecord) : (s.modMachine m f).cache = s.cache := rfl
@[simp] theorem modMachine_payment (m : MachineNo) (f : MachineRecord → MachineRecord) : (s.modMachine m f).payment = s.payment := rfl
@[simp] theorem modMachine_tariff (m : MachineNo) (f : MachineRecord → MachineRecord) : (s.modMachine m f).tariff = s.tariff := rfl
@[simp] theorem modMachine_feeder (m : MachineNo) (f : MachineRecord → MachineRecord) : (s.modMachine m f).feeder = s.feeder := rfl
@[simp] theorem modMachine_supervisor (m : MachineNo) (f : MachineRecord → MachineRecord) : (s.modMachine m f).supervisor = s.supervisor := rfl
@[simp] theorem modMachine_lamps (m : MachineNo) (f : MachineRecord → MachineRecord) : (s.modMachine m f).lamps = s.lamps := rfl
@[simp] theorem modMachine_store (m : MachineNo) (f : MachineRecord → MachineRecord) : (s.modMachine m f).store = s.store := rfl
@[simp] theorem modMachine_scan (m : MachineNo) (f : MachineRecord → MachineRecord) : (s.modMachine m f).scan = s.scan := rfl
@[simp] theorem modMachine_fram (m : MachineNo) (f : MachineRecord → MachineRecord) : (s.modMachine m f).fram = s.fram := rfl
@[simp] theorem modMachine_freeIndex (m : MachineNo) (f : MachineRecord → MachineRecord) : (s.modMachine m f).freeIndex = s.freeIndex := rfl
@[simp] theorem modMachine_pending (m : MachineNo) (f : MachineRecord → MachineRecord) : (s.modMachine m f).pending = s.pending := rfl

@[simp] theorem modSession_powered (m : MachineNo) (f : Session → Session) : (s.modSession m f).powered = s.powered := rfl
@[simp] theorem modSession_startUp (m : MachineNo) (f : Session → Session) : (s.modSession m f).startUp = s.startUp := rfl
@[simp] theorem modSession_clock (m : MachineNo) (f : Session → Session) : (s.modSession m f).clock = s.clock := rfl
@[simp] theorem modSession_host (m : MachineNo) (f : Session → Session) : (s.modSession m f).host = s.host := rfl
@[simp] theorem modSession_line (m : MachineNo) (f : Session → Session) : (s.modSession m f).line = s.line := rfl
@[simp] theorem modSession_directory (m : MachineNo) (f : Session → Session) : (s.modSession m f).directory = s.directory := rfl
@[simp] theorem modSession_cache (m : MachineNo) (f : Session → Session) : (s.modSession m f).cache = s.cache := rfl
@[simp] theorem modSession_payment (m : MachineNo) (f : Session → Session) : (s.modSession m f).payment = s.payment := rfl
@[simp] theorem modSession_tariff (m : MachineNo) (f : Session → Session) : (s.modSession m f).tariff = s.tariff := rfl
@[simp] theorem modSession_feeder (m : MachineNo) (f : Session → Session) : (s.modSession m f).feeder = s.feeder := rfl
@[simp] theorem modSession_supervisor (m : MachineNo) (f : Session → Session) : (s.modSession m f).supervisor = s.supervisor := rfl
@[simp] theorem modSession_lamps (m : MachineNo) (f : Session → Session) : (s.modSession m f).lamps = s.lamps := rfl
@[simp] theorem modSession_store (m : MachineNo) (f : Session → Session) : (s.modSession m f).store = s.store := rfl
@[simp] theorem modSession_scan (m : MachineNo) (f : Session → Session) : (s.modSession m f).scan = s.scan := rfl
@[simp] theorem modSession_fram (m : MachineNo) (f : Session → Session) : (s.modSession m f).fram = s.fram := rfl
@[simp] theorem modSession_freeIndex (m : MachineNo) (f : Session → Session) : (s.modSession m f).freeIndex = s.freeIndex := rfl
@[simp] theorem modSession_pending (m : MachineNo) (f : Session → Session) : (s.modSession m f).pending = s.pending := rfl

@[simp] theorem modLink_powered (m : MachineNo) (f : Link → Link) : (s.modLink m f).powered = s.powered := rfl
@[simp] theorem modLink_startUp (m : MachineNo) (f : Link → Link) : (s.modLink m f).startUp = s.startUp := rfl
@[simp] theorem modLink_clock (m : MachineNo) (f : Link → Link) : (s.modLink m f).clock = s.clock := rfl
@[simp] theorem modLink_host (m : MachineNo) (f : Link → Link) : (s.modLink m f).host = s.host := rfl
@[simp] theorem modLink_engine (m : MachineNo) (f : Link → Link) : (s.modLink m f).engine = s.engine := rfl
@[simp] theorem modLink_directory (m : MachineNo) (f : Link → Link) : (s.modLink m f).directory = s.directory := rfl
@[simp] theorem modLink_cache (m : MachineNo) (f : Link → Link) : (s.modLink m f).cache = s.cache := rfl
@[simp] theorem modLink_payment (m : MachineNo) (f : Link → Link) : (s.modLink m f).payment = s.payment := rfl
@[simp] theorem modLink_tariff (m : MachineNo) (f : Link → Link) : (s.modLink m f).tariff = s.tariff := rfl
@[simp] theorem modLink_feeder (m : MachineNo) (f : Link → Link) : (s.modLink m f).feeder = s.feeder := rfl
@[simp] theorem modLink_supervisor (m : MachineNo) (f : Link → Link) : (s.modLink m f).supervisor = s.supervisor := rfl
@[simp] theorem modLink_lamps (m : MachineNo) (f : Link → Link) : (s.modLink m f).lamps = s.lamps := rfl
@[simp] theorem modLink_store (m : MachineNo) (f : Link → Link) : (s.modLink m f).store = s.store := rfl
@[simp] theorem modLink_scan (m : MachineNo) (f : Link → Link) : (s.modLink m f).scan = s.scan := rfl
@[simp] theorem modLink_fram (m : MachineNo) (f : Link → Link) : (s.modLink m f).fram = s.fram := rfl
@[simp] theorem modLink_freeIndex (m : MachineNo) (f : Link → Link) : (s.modLink m f).freeIndex = s.freeIndex := rfl
@[simp] theorem modLink_pending (m : MachineNo) (f : Link → Link) : (s.modLink m f).pending = s.pending := rfl

@[simp] theorem modGuard_powered (r : RoomNo) (f : RoomGuard → RoomGuard) : (s.modGuard r f).powered = s.powered := rfl
@[simp] theorem modGuard_startUp (r : RoomNo) (f : RoomGuard → RoomGuard) : (s.modGuard r f).startUp = s.startUp := rfl
@[simp] theorem modGuard_clock (r : RoomNo) (f : RoomGuard → RoomGuard) : (s.modGuard r f).clock = s.clock := rfl
@[simp] theorem modGuard_host (r : RoomNo) (f : RoomGuard → RoomGuard) : (s.modGuard r f).host = s.host := rfl
@[simp] theorem modGuard_line (r : RoomNo) (f : RoomGuard → RoomGuard) : (s.modGuard r f).line = s.line := rfl
@[simp] theorem modGuard_engine (r : RoomNo) (f : RoomGuard → RoomGuard) : (s.modGuard r f).engine = s.engine := rfl
@[simp] theorem modGuard_directory (r : RoomNo) (f : RoomGuard → RoomGuard) : (s.modGuard r f).directory = s.directory := rfl
@[simp] theorem modGuard_cache (r : RoomNo) (f : RoomGuard → RoomGuard) : (s.modGuard r f).cache = s.cache := rfl
@[simp] theorem modGuard_payment (r : RoomNo) (f : RoomGuard → RoomGuard) : (s.modGuard r f).payment = s.payment := rfl
@[simp] theorem modGuard_tariff (r : RoomNo) (f : RoomGuard → RoomGuard) : (s.modGuard r f).tariff = s.tariff := rfl
@[simp] theorem modGuard_feeder (r : RoomNo) (f : RoomGuard → RoomGuard) : (s.modGuard r f).feeder = s.feeder := rfl
@[simp] theorem modGuard_lamps (r : RoomNo) (f : RoomGuard → RoomGuard) : (s.modGuard r f).lamps = s.lamps := rfl
@[simp] theorem modGuard_store (r : RoomNo) (f : RoomGuard → RoomGuard) : (s.modGuard r f).store = s.store := rfl
@[simp] theorem modGuard_scan (r : RoomNo) (f : RoomGuard → RoomGuard) : (s.modGuard r f).scan = s.scan := rfl
@[simp] theorem modGuard_fram (r : RoomNo) (f : RoomGuard → RoomGuard) : (s.modGuard r f).fram = s.fram := rfl
@[simp] theorem modGuard_freeIndex (r : RoomNo) (f : RoomGuard → RoomGuard) : (s.modGuard r f).freeIndex = s.freeIndex := rfl
@[simp] theorem modGuard_pending (r : RoomNo) (f : RoomGuard → RoomGuard) : (s.modGuard r f).pending = s.pending := rfl

@[simp] theorem modContext_powered (c : ContextNo) (f : Context → Context) : (s.modContext c f).powered = s.powered := rfl
@[simp] theorem modContext_startUp (c : ContextNo) (f : Context → Context) : (s.modContext c f).startUp = s.startUp := rfl
@[simp] theorem modContext_clock (c : ContextNo) (f : Context → Context) : (s.modContext c f).clock = s.clock := rfl
@[simp] theorem modContext_host (c : ContextNo) (f : Context → Context) : (s.modContext c f).host = s.host := rfl
@[simp] theorem modContext_line (c : ContextNo) (f : Context → Context) : (s.modContext c f).line = s.line := rfl
@[simp] theorem modContext_engine (c : ContextNo) (f : Context → Context) : (s.modContext c f).engine = s.engine := rfl
@[simp] theorem modContext_directory (c : ContextNo) (f : Context → Context) : (s.modContext c f).directory = s.directory := rfl
@[simp] theorem modContext_cache (c : ContextNo) (f : Context → Context) : (s.modContext c f).cache = s.cache := rfl
@[simp] theorem modContext_tariff (c : ContextNo) (f : Context → Context) : (s.modContext c f).tariff = s.tariff := rfl
@[simp] theorem modContext_feeder (c : ContextNo) (f : Context → Context) : (s.modContext c f).feeder = s.feeder := rfl
@[simp] theorem modContext_supervisor (c : ContextNo) (f : Context → Context) : (s.modContext c f).supervisor = s.supervisor := rfl
@[simp] theorem modContext_lamps (c : ContextNo) (f : Context → Context) : (s.modContext c f).lamps = s.lamps := rfl
@[simp] theorem modContext_store (c : ContextNo) (f : Context → Context) : (s.modContext c f).store = s.store := rfl
@[simp] theorem modContext_scan (c : ContextNo) (f : Context → Context) : (s.modContext c f).scan = s.scan := rfl
@[simp] theorem modContext_fram (c : ContextNo) (f : Context → Context) : (s.modContext c f).fram = s.fram := rfl
@[simp] theorem modContext_freeIndex (c : ContextNo) (f : Context → Context) : (s.modContext c f).freeIndex = s.freeIndex := rfl
@[simp] theorem modContext_pending (c : ContextNo) (f : Context → Context) : (s.modContext c f).pending = s.pending := rfl

@[simp] theorem stage_powered (c : ContextNo) (g : Stage) : (s.stage c g).powered = s.powered := rfl
@[simp] theorem stage_startUp (c : ContextNo) (g : Stage) : (s.stage c g).startUp = s.startUp := rfl
@[simp] theorem stage_clock (c : ContextNo) (g : Stage) : (s.stage c g).clock = s.clock := rfl
@[simp] theorem stage_host (c : ContextNo) (g : Stage) : (s.stage c g).host = s.host := rfl
@[simp] theorem stage_line (c : ContextNo) (g : Stage) : (s.stage c g).line = s.line := rfl
@[simp] theorem stage_engine (c : ContextNo) (g : Stage) : (s.stage c g).engine = s.engine := rfl
@[simp] theorem stage_directory (c : ContextNo) (g : Stage) : (s.stage c g).directory = s.directory := rfl
@[simp] theorem stage_cache (c : ContextNo) (g : Stage) : (s.stage c g).cache = s.cache := rfl
@[simp] theorem stage_tariff (c : ContextNo) (g : Stage) : (s.stage c g).tariff = s.tariff := rfl
@[simp] theorem stage_feeder (c : ContextNo) (g : Stage) : (s.stage c g).feeder = s.feeder := rfl
@[simp] theorem stage_supervisor (c : ContextNo) (g : Stage) : (s.stage c g).supervisor = s.supervisor := rfl
@[simp] theorem stage_lamps (c : ContextNo) (g : Stage) : (s.stage c g).lamps = s.lamps := rfl
@[simp] theorem stage_store (c : ContextNo) (g : Stage) : (s.stage c g).store = s.store := rfl
@[simp] theorem stage_scan (c : ContextNo) (g : Stage) : (s.stage c g).scan = s.scan := rfl
@[simp] theorem stage_fram (c : ContextNo) (g : Stage) : (s.stage c g).fram = s.fram := rfl
@[simp] theorem stage_freeIndex (c : ContextNo) (g : Stage) : (s.stage c g).freeIndex = s.freeIndex := rfl
@[simp] theorem stage_pending (c : ContextNo) (g : Stage) : (s.stage c g).pending = s.pending := rfl

@[simp] theorem freeContext_powered (c : ContextNo) : (s.freeContext c).powered = s.powered := rfl
@[simp] theorem freeContext_startUp (c : ContextNo) : (s.freeContext c).startUp = s.startUp := rfl
@[simp] theorem freeContext_clock (c : ContextNo) : (s.freeContext c).clock = s.clock := rfl
@[simp] theorem freeContext_host (c : ContextNo) : (s.freeContext c).host = s.host := rfl
@[simp] theorem freeContext_line (c : ContextNo) : (s.freeContext c).line = s.line := rfl
@[simp] theorem freeContext_engine (c : ContextNo) : (s.freeContext c).engine = s.engine := rfl
@[simp] theorem freeContext_directory (c : ContextNo) : (s.freeContext c).directory = s.directory := rfl
@[simp] theorem freeContext_cache (c : ContextNo) : (s.freeContext c).cache = s.cache := rfl
@[simp] theorem freeContext_tariff (c : ContextNo) : (s.freeContext c).tariff = s.tariff := rfl
@[simp] theorem freeContext_feeder (c : ContextNo) : (s.freeContext c).feeder = s.feeder := rfl
@[simp] theorem freeContext_supervisor (c : ContextNo) : (s.freeContext c).supervisor = s.supervisor := rfl
@[simp] theorem freeContext_lamps (c : ContextNo) : (s.freeContext c).lamps = s.lamps := rfl
@[simp] theorem freeContext_store (c : ContextNo) : (s.freeContext c).store = s.store := rfl
@[simp] theorem freeContext_scan (c : ContextNo) : (s.freeContext c).scan = s.scan := rfl
@[simp] theorem freeContext_fram (c : ContextNo) : (s.freeContext c).fram = s.fram := rfl
@[simp] theorem freeContext_freeIndex (c : ContextNo) : (s.freeContext c).freeIndex = s.freeIndex := rfl
@[simp] theorem freeContext_pending (c : ContextNo) : (s.freeContext c).pending = s.pending := rfl

@[simp] theorem enqueue_powered (q : PayRequest) : (s.enqueue q).powered = s.powered := rfl
@[simp] theorem enqueue_startUp (q : PayRequest) : (s.enqueue q).startUp = s.startUp := rfl
@[simp] theorem enqueue_clock (q : PayRequest) : (s.enqueue q).clock = s.clock := rfl
@[simp] theorem enqueue_host (q : PayRequest) : (s.enqueue q).host = s.host := rfl
@[simp] theorem enqueue_line (q : PayRequest) : (s.enqueue q).line = s.line := rfl
@[simp] theorem enqueue_engine (q : PayRequest) : (s.enqueue q).engine = s.engine := rfl
@[simp] theorem enqueue_directory (q : PayRequest) : (s.enqueue q).directory = s.directory := rfl
@[simp] theorem enqueue_cache (q : PayRequest) : (s.enqueue q).cache = s.cache := rfl
@[simp] theorem enqueue_tariff (q : PayRequest) : (s.enqueue q).tariff = s.tariff := rfl
@[simp] theorem enqueue_feeder (q : PayRequest) : (s.enqueue q).feeder = s.feeder := rfl
@[simp] theorem enqueue_supervisor (q : PayRequest) : (s.enqueue q).supervisor = s.supervisor := rfl
@[simp] theorem enqueue_lamps (q : PayRequest) : (s.enqueue q).lamps = s.lamps := rfl
@[simp] theorem enqueue_store (q : PayRequest) : (s.enqueue q).store = s.store := rfl
@[simp] theorem enqueue_scan (q : PayRequest) : (s.enqueue q).scan = s.scan := rfl
@[simp] theorem enqueue_fram (q : PayRequest) : (s.enqueue q).fram = s.fram := rfl
@[simp] theorem enqueue_freeIndex (q : PayRequest) : (s.enqueue q).freeIndex = s.freeIndex := rfl
@[simp] theorem enqueue_pending (q : PayRequest) : (s.enqueue q).pending = s.pending := rfl

@[simp] theorem issue_powered (i : Issuer) (a : Access) : (s.issue i a).powered = s.powered := rfl
@[simp] theorem issue_startUp (i : Issuer) (a : Access) : (s.issue i a).startUp = s.startUp := rfl
@[simp] theorem issue_clock (i : Issuer) (a : Access) : (s.issue i a).clock = s.clock := rfl
@[simp] theorem issue_host (i : Issuer) (a : Access) : (s.issue i a).host = s.host := rfl
@[simp] theorem issue_line (i : Issuer) (a : Access) : (s.issue i a).line = s.line := rfl
@[simp] theorem issue_engine (i : Issuer) (a : Access) : (s.issue i a).engine = s.engine := rfl
@[simp] theorem issue_directory (i : Issuer) (a : Access) : (s.issue i a).directory = s.directory := rfl
@[simp] theorem issue_cache (i : Issuer) (a : Access) : (s.issue i a).cache = s.cache := rfl
@[simp] theorem issue_payment (i : Issuer) (a : Access) : (s.issue i a).payment = s.payment := rfl
@[simp] theorem issue_tariff (i : Issuer) (a : Access) : (s.issue i a).tariff = s.tariff := rfl
@[simp] theorem issue_feeder (i : Issuer) (a : Access) : (s.issue i a).feeder = s.feeder := rfl
@[simp] theorem issue_supervisor (i : Issuer) (a : Access) : (s.issue i a).supervisor = s.supervisor := rfl
@[simp] theorem issue_lamps (i : Issuer) (a : Access) : (s.issue i a).lamps = s.lamps := rfl
@[simp] theorem issue_scan (i : Issuer) (a : Access) : (s.issue i a).scan = s.scan := rfl
@[simp] theorem issue_fram (i : Issuer) (a : Access) : (s.issue i a).fram = s.fram := rfl
@[simp] theorem issue_freeIndex (i : Issuer) (a : Access) : (s.issue i a).freeIndex = s.freeIndex := rfl
@[simp] theorem issue_pending (i : Issuer) (a : Access) : (s.issue i a).pending = s.pending := rfl

@[simp] theorem useFree_powered : (s.useFree).powered = s.powered := rfl
@[simp] theorem useFree_startUp : (s.useFree).startUp = s.startUp := rfl
@[simp] theorem useFree_clock : (s.useFree).clock = s.clock := rfl
@[simp] theorem useFree_host : (s.useFree).host = s.host := rfl
@[simp] theorem useFree_line : (s.useFree).line = s.line := rfl
@[simp] theorem useFree_engine : (s.useFree).engine = s.engine := rfl
@[simp] theorem useFree_directory : (s.useFree).directory = s.directory := rfl
@[simp] theorem useFree_cache : (s.useFree).cache = s.cache := rfl
@[simp] theorem useFree_payment : (s.useFree).payment = s.payment := rfl
@[simp] theorem useFree_tariff : (s.useFree).tariff = s.tariff := rfl
@[simp] theorem useFree_feeder : (s.useFree).feeder = s.feeder := rfl
@[simp] theorem useFree_supervisor : (s.useFree).supervisor = s.supervisor := rfl
@[simp] theorem useFree_lamps : (s.useFree).lamps = s.lamps := rfl
@[simp] theorem useFree_store : (s.useFree).store = s.store := rfl
@[simp] theorem useFree_scan : (s.useFree).scan = s.scan := rfl
@[simp] theorem useFree_fram : (s.useFree).fram = s.fram := rfl
@[simp] theorem useFree_pending : (s.useFree).pending = s.pending := rfl

@[simp] theorem notify_powered (n : Notice) : (s.notify n).powered = s.powered := rfl
@[simp] theorem notify_startUp (n : Notice) : (s.notify n).startUp = s.startUp := rfl
@[simp] theorem notify_clock (n : Notice) : (s.notify n).clock = s.clock := rfl
@[simp] theorem notify_line (n : Notice) : (s.notify n).line = s.line := rfl
@[simp] theorem notify_engine (n : Notice) : (s.notify n).engine = s.engine := rfl
@[simp] theorem notify_directory (n : Notice) : (s.notify n).directory = s.directory := rfl
@[simp] theorem notify_cache (n : Notice) : (s.notify n).cache = s.cache := rfl
@[simp] theorem notify_payment (n : Notice) : (s.notify n).payment = s.payment := rfl
@[simp] theorem notify_tariff (n : Notice) : (s.notify n).tariff = s.tariff := rfl
@[simp] theorem notify_feeder (n : Notice) : (s.notify n).feeder = s.feeder := rfl
@[simp] theorem notify_supervisor (n : Notice) : (s.notify n).supervisor = s.supervisor := rfl
@[simp] theorem notify_lamps (n : Notice) : (s.notify n).lamps = s.lamps := rfl
@[simp] theorem notify_store (n : Notice) : (s.notify n).store = s.store := rfl
@[simp] theorem notify_scan (n : Notice) : (s.notify n).scan = s.scan := rfl
@[simp] theorem notify_fram (n : Notice) : (s.notify n).fram = s.fram := rfl
@[simp] theorem notify_freeIndex (n : Notice) : (s.notify n).freeIndex = s.freeIndex := rfl
@[simp] theorem notify_pending (n : Notice) : (s.notify n).pending = s.pending := rfl

@[simp] theorem withQueue_powered (q : List Transaction) : (s.withQueue q).powered = s.powered := rfl
@[simp] theorem withQueue_startUp (q : List Transaction) : (s.withQueue q).startUp = s.startUp := rfl
@[simp] theorem withQueue_clock (q : List Transaction) : (s.withQueue q).clock = s.clock := rfl
@[simp] theorem withQueue_host (q : List Transaction) : (s.withQueue q).host = s.host := rfl
@[simp] theorem withQueue_line (q : List Transaction) : (s.withQueue q).line = s.line := rfl
@[simp] theorem withQueue_engine (q : List Transaction) : (s.withQueue q).engine = s.engine := rfl
@[simp] theorem withQueue_directory (q : List Transaction) : (s.withQueue q).directory = s.directory := rfl
@[simp] theorem withQueue_cache (q : List Transaction) : (s.withQueue q).cache = s.cache := rfl
@[simp] theorem withQueue_payment (q : List Transaction) : (s.withQueue q).payment = s.payment := rfl
@[simp] theorem withQueue_tariff (q : List Transaction) : (s.withQueue q).tariff = s.tariff := rfl
@[simp] theorem withQueue_feeder (q : List Transaction) : (s.withQueue q).feeder = s.feeder := rfl
@[simp] theorem withQueue_supervisor (q : List Transaction) : (s.withQueue q).supervisor = s.supervisor := rfl
@[simp] theorem withQueue_lamps (q : List Transaction) : (s.withQueue q).lamps = s.lamps := rfl
@[simp] theorem withQueue_scan (q : List Transaction) : (s.withQueue q).scan = s.scan := rfl
@[simp] theorem withQueue_fram (q : List Transaction) : (s.withQueue q).fram = s.fram := rfl
@[simp] theorem withQueue_freeIndex (q : List Transaction) : (s.withQueue q).freeIndex = s.freeIndex := rfl
@[simp] theorem withQueue_pending (q : List Transaction) : (s.withQueue q).pending = s.pending := rfl

@[simp] theorem transmit_powered : (s.transmit).powered = s.powered := rfl
@[simp] theorem transmit_startUp : (s.transmit).startUp = s.startUp := rfl
@[simp] theorem transmit_clock : (s.transmit).clock = s.clock := rfl
@[simp] theorem transmit_line : (s.transmit).line = s.line := rfl
@[simp] theorem transmit_engine : (s.transmit).engine = s.engine := rfl
@[simp] theorem transmit_directory : (s.transmit).directory = s.directory := rfl
@[simp] theorem transmit_cache : (s.transmit).cache = s.cache := rfl
@[simp] theorem transmit_payment : (s.transmit).payment = s.payment := rfl
@[simp] theorem transmit_tariff : (s.transmit).tariff = s.tariff := rfl
@[simp] theorem transmit_feeder : (s.transmit).feeder = s.feeder := rfl
@[simp] theorem transmit_supervisor : (s.transmit).supervisor = s.supervisor := rfl
@[simp] theorem transmit_lamps : (s.transmit).lamps = s.lamps := rfl
@[simp] theorem transmit_store : (s.transmit).store = s.store := rfl
@[simp] theorem transmit_scan : (s.transmit).scan = s.scan := rfl
@[simp] theorem transmit_fram : (s.transmit).fram = s.fram := rfl
@[simp] theorem transmit_freeIndex : (s.transmit).freeIndex = s.freeIndex := rfl
@[simp] theorem transmit_pending : (s.transmit).pending = s.pending := rfl

@[simp] theorem beginExchange_powered : (s.beginExchange).powered = s.powered := rfl
@[simp] theorem beginExchange_startUp : (s.beginExchange).startUp = s.startUp := rfl
@[simp] theorem beginExchange_clock : (s.beginExchange).clock = s.clock := rfl
@[simp] theorem beginExchange_host : (s.beginExchange).host = s.host := rfl
@[simp] theorem beginExchange_engine : (s.beginExchange).engine = s.engine := rfl
@[simp] theorem beginExchange_directory : (s.beginExchange).directory = s.directory := rfl
@[simp] theorem beginExchange_cache : (s.beginExchange).cache = s.cache := rfl
@[simp] theorem beginExchange_payment : (s.beginExchange).payment = s.payment := rfl
@[simp] theorem beginExchange_tariff : (s.beginExchange).tariff = s.tariff := rfl
@[simp] theorem beginExchange_feeder : (s.beginExchange).feeder = s.feeder := rfl
@[simp] theorem beginExchange_supervisor : (s.beginExchange).supervisor = s.supervisor := rfl
@[simp] theorem beginExchange_lamps : (s.beginExchange).lamps = s.lamps := rfl
@[simp] theorem beginExchange_store : (s.beginExchange).store = s.store := rfl
@[simp] theorem beginExchange_scan : (s.beginExchange).scan = s.scan := rfl
@[simp] theorem beginExchange_fram : (s.beginExchange).fram = s.fram := rfl
@[simp] theorem beginExchange_freeIndex : (s.beginExchange).freeIndex = s.freeIndex := rfl
@[simp] theorem beginExchange_pending : (s.beginExchange).pending = s.pending := rfl

@[simp] theorem arbitrate_powered : (s.arbitrate).powered = s.powered := rfl
@[simp] theorem arbitrate_startUp : (s.arbitrate).startUp = s.startUp := rfl
@[simp] theorem arbitrate_clock : (s.arbitrate).clock = s.clock := rfl
@[simp] theorem arbitrate_host : (s.arbitrate).host = s.host := rfl
@[simp] theorem arbitrate_line : (s.arbitrate).line = s.line := rfl
@[simp] theorem arbitrate_engine : (s.arbitrate).engine = s.engine := rfl
@[simp] theorem arbitrate_directory : (s.arbitrate).directory = s.directory := rfl
@[simp] theorem arbitrate_payment : (s.arbitrate).payment = s.payment := rfl
@[simp] theorem arbitrate_tariff : (s.arbitrate).tariff = s.tariff := rfl
@[simp] theorem arbitrate_feeder : (s.arbitrate).feeder = s.feeder := rfl
@[simp] theorem arbitrate_supervisor : (s.arbitrate).supervisor = s.supervisor := rfl
@[simp] theorem arbitrate_lamps : (s.arbitrate).lamps = s.lamps := rfl
@[simp] theorem arbitrate_store : (s.arbitrate).store = s.store := rfl
@[simp] theorem arbitrate_scan : (s.arbitrate).scan = s.scan := rfl
@[simp] theorem arbitrate_fram : (s.arbitrate).fram = s.fram := rfl
@[simp] theorem arbitrate_freeIndex : (s.arbitrate).freeIndex = s.freeIndex := rfl
@[simp] theorem arbitrate_pending : (s.arbitrate).pending = s.pending := rfl

@[simp] theorem setLocking_powered (m : MachineNo) (q : Option Nat) : (s.setLocking m q).powered = s.powered := rfl
@[simp] theorem setLocking_startUp (m : MachineNo) (q : Option Nat) : (s.setLocking m q).startUp = s.startUp := rfl
@[simp] theorem setLocking_clock (m : MachineNo) (q : Option Nat) : (s.setLocking m q).clock = s.clock := rfl
@[simp] theorem setLocking_host (m : MachineNo) (q : Option Nat) : (s.setLocking m q).host = s.host := rfl
@[simp] theorem setLocking_line (m : MachineNo) (q : Option Nat) : (s.setLocking m q).line = s.line := rfl
@[simp] theorem setLocking_engine (m : MachineNo) (q : Option Nat) : (s.setLocking m q).engine = s.engine := rfl
@[simp] theorem setLocking_directory (m : MachineNo) (q : Option Nat) : (s.setLocking m q).directory = s.directory := rfl
@[simp] theorem setLocking_cache (m : MachineNo) (q : Option Nat) : (s.setLocking m q).cache = s.cache := rfl
@[simp] theorem setLocking_payment (m : MachineNo) (q : Option Nat) : (s.setLocking m q).payment = s.payment := rfl
@[simp] theorem setLocking_tariff (m : MachineNo) (q : Option Nat) : (s.setLocking m q).tariff = s.tariff := rfl
@[simp] theorem setLocking_feeder (m : MachineNo) (q : Option Nat) : (s.setLocking m q).feeder = s.feeder := rfl
@[simp] theorem setLocking_lamps (m : MachineNo) (q : Option Nat) : (s.setLocking m q).lamps = s.lamps := rfl
@[simp] theorem setLocking_store (m : MachineNo) (q : Option Nat) : (s.setLocking m q).store = s.store := rfl
@[simp] theorem setLocking_scan (m : MachineNo) (q : Option Nat) : (s.setLocking m q).scan = s.scan := rfl
@[simp] theorem setLocking_fram (m : MachineNo) (q : Option Nat) : (s.setLocking m q).fram = s.fram := rfl
@[simp] theorem setLocking_freeIndex (m : MachineNo) (q : Option Nat) : (s.setLocking m q).freeIndex = s.freeIndex := rfl
@[simp] theorem setLocking_pending (m : MachineNo) (q : Option Nat) : (s.setLocking m q).pending = s.pending := rfl

@[simp] theorem setEnding_powered (m : MachineNo) (q : Option Nat) : (s.setEnding m q).powered = s.powered := rfl
@[simp] theorem setEnding_startUp (m : MachineNo) (q : Option Nat) : (s.setEnding m q).startUp = s.startUp := rfl
@[simp] theorem setEnding_clock (m : MachineNo) (q : Option Nat) : (s.setEnding m q).clock = s.clock := rfl
@[simp] theorem setEnding_host (m : MachineNo) (q : Option Nat) : (s.setEnding m q).host = s.host := rfl
@[simp] theorem setEnding_line (m : MachineNo) (q : Option Nat) : (s.setEnding m q).line = s.line := rfl
@[simp] theorem setEnding_engine (m : MachineNo) (q : Option Nat) : (s.setEnding m q).engine = s.engine := rfl
@[simp] theorem setEnding_directory (m : MachineNo) (q : Option Nat) : (s.setEnding m q).directory = s.directory := rfl
@[simp] theorem setEnding_cache (m : MachineNo) (q : Option Nat) : (s.setEnding m q).cache = s.cache := rfl
@[simp] theorem setEnding_payment (m : MachineNo) (q : Option Nat) : (s.setEnding m q).payment = s.payment := rfl
@[simp] theorem setEnding_tariff (m : MachineNo) (q : Option Nat) : (s.setEnding m q).tariff = s.tariff := rfl
@[simp] theorem setEnding_feeder (m : MachineNo) (q : Option Nat) : (s.setEnding m q).feeder = s.feeder := rfl
@[simp] theorem setEnding_lamps (m : MachineNo) (q : Option Nat) : (s.setEnding m q).lamps = s.lamps := rfl
@[simp] theorem setEnding_store (m : MachineNo) (q : Option Nat) : (s.setEnding m q).store = s.store := rfl
@[simp] theorem setEnding_scan (m : MachineNo) (q : Option Nat) : (s.setEnding m q).scan = s.scan := rfl
@[simp] theorem setEnding_fram (m : MachineNo) (q : Option Nat) : (s.setEnding m q).fram = s.fram := rfl
@[simp] theorem setEnding_freeIndex (m : MachineNo) (q : Option Nat) : (s.setEnding m q).freeIndex = s.freeIndex := rfl
@[simp] theorem setEnding_pending (m : MachineNo) (q : Option Nat) : (s.setEnding m q).pending = s.pending := rfl

@[simp] theorem markLockout_powered (m : MachineNo) : (s.markLockout m).powered = s.powered := rfl
@[simp] theorem markLockout_startUp (m : MachineNo) : (s.markLockout m).startUp = s.startUp := rfl
@[simp] theorem markLockout_clock (m : MachineNo) : (s.markLockout m).clock = s.clock := rfl
@[simp] theorem markLockout_host (m : MachineNo) : (s.markLockout m).host = s.host := rfl
@[simp] theorem markLockout_line (m : MachineNo) : (s.markLockout m).line = s.line := rfl
@[simp] theorem markLockout_engine (m : MachineNo) : (s.markLockout m).engine = s.engine := rfl
@[simp] theorem markLockout_directory (m : MachineNo) : (s.markLockout m).directory = s.directory := rfl
@[simp] theorem markLockout_cache (m : MachineNo) : (s.markLockout m).cache = s.cache := rfl
@[simp] theorem markLockout_payment (m : MachineNo) : (s.markLockout m).payment = s.payment := rfl
@[simp] theorem markLockout_tariff (m : MachineNo) : (s.markLockout m).tariff = s.tariff := rfl
@[simp] theorem markLockout_feeder (m : MachineNo) : (s.markLockout m).feeder = s.feeder := rfl
@[simp] theorem markLockout_supervisor (m : MachineNo) : (s.markLockout m).supervisor = s.supervisor := rfl
@[simp] theorem markLockout_lamps (m : MachineNo) : (s.markLockout m).lamps = s.lamps := rfl
@[simp] theorem markLockout_scan (m : MachineNo) : (s.markLockout m).scan = s.scan := rfl
@[simp] theorem markLockout_fram (m : MachineNo) : (s.markLockout m).fram = s.fram := rfl
@[simp] theorem markLockout_freeIndex (m : MachineNo) : (s.markLockout m).freeIndex = s.freeIndex := rfl
@[simp] theorem markLockout_pending (m : MachineNo) : (s.markLockout m).pending = s.pending := rfl

@[simp] theorem takeId_powered : (s.takeId).powered = s.powered := rfl
@[simp] theorem takeId_startUp : (s.takeId).startUp = s.startUp := rfl
@[simp] theorem takeId_clock : (s.takeId).clock = s.clock := rfl
@[simp] theorem takeId_host : (s.takeId).host = s.host := rfl
@[simp] theorem takeId_line : (s.takeId).line = s.line := rfl
@[simp] theorem takeId_directory : (s.takeId).directory = s.directory := rfl
@[simp] theorem takeId_cache : (s.takeId).cache = s.cache := rfl
@[simp] theorem takeId_payment : (s.takeId).payment = s.payment := rfl
@[simp] theorem takeId_tariff : (s.takeId).tariff = s.tariff := rfl
@[simp] theorem takeId_feeder : (s.takeId).feeder = s.feeder := rfl
@[simp] theorem takeId_supervisor : (s.takeId).supervisor = s.supervisor := rfl
@[simp] theorem takeId_lamps : (s.takeId).lamps = s.lamps := rfl
@[simp] theorem takeId_store : (s.takeId).store = s.store := rfl
@[simp] theorem takeId_scan : (s.takeId).scan = s.scan := rfl
@[simp] theorem takeId_fram : (s.takeId).fram = s.fram := rfl
@[simp] theorem takeId_freeIndex : (s.takeId).freeIndex = s.freeIndex := rfl
@[simp] theorem takeId_pending : (s.takeId).pending = s.pending := rfl

@[simp] theorem endExchange_powered (x : Exchange) : (s.endExchange x).powered = s.powered := rfl
@[simp] theorem endExchange_startUp (x : Exchange) : (s.endExchange x).startUp = s.startUp := rfl
@[simp] theorem endExchange_clock (x : Exchange) : (s.endExchange x).clock = s.clock := rfl
@[simp] theorem endExchange_host (x : Exchange) : (s.endExchange x).host = s.host := rfl
@[simp] theorem endExchange_engine (x : Exchange) : (s.endExchange x).engine = s.engine := rfl
@[simp] theorem endExchange_directory (x : Exchange) : (s.endExchange x).directory = s.directory := rfl
@[simp] theorem endExchange_cache (x : Exchange) : (s.endExchange x).cache = s.cache := rfl
@[simp] theorem endExchange_payment (x : Exchange) : (s.endExchange x).payment = s.payment := rfl
@[simp] theorem endExchange_tariff (x : Exchange) : (s.endExchange x).tariff = s.tariff := rfl
@[simp] theorem endExchange_feeder (x : Exchange) : (s.endExchange x).feeder = s.feeder := rfl
@[simp] theorem endExchange_supervisor (x : Exchange) : (s.endExchange x).supervisor = s.supervisor := rfl
@[simp] theorem endExchange_lamps (x : Exchange) : (s.endExchange x).lamps = s.lamps := rfl
@[simp] theorem endExchange_store (x : Exchange) : (s.endExchange x).store = s.store := rfl
@[simp] theorem endExchange_scan (x : Exchange) : (s.endExchange x).scan = s.scan := rfl
@[simp] theorem endExchange_fram (x : Exchange) : (s.endExchange x).fram = s.fram := rfl
@[simp] theorem endExchange_freeIndex (x : Exchange) : (s.endExchange x).freeIndex = s.freeIndex := rfl
@[simp] theorem endExchange_pending (x : Exchange) : (s.endExchange x).pending = s.pending := rfl

@[simp] theorem receive_powered (r : Receiver) : (s.receive r).powered = s.powered := rfl
@[simp] theorem receive_startUp (r : Receiver) : (s.receive r).startUp = s.startUp := rfl
@[simp] theorem receive_clock (r : Receiver) : (s.receive r).clock = s.clock := rfl
@[simp] theorem receive_line (r : Receiver) : (s.receive r).line = s.line := rfl
@[simp] theorem receive_engine (r : Receiver) : (s.receive r).engine = s.engine := rfl
@[simp] theorem receive_directory (r : Receiver) : (s.receive r).directory = s.directory := rfl
@[simp] theorem receive_cache (r : Receiver) : (s.receive r).cache = s.cache := rfl
@[simp] theorem receive_payment (r : Receiver) : (s.receive r).payment = s.payment := rfl
@[simp] theorem receive_tariff (r : Receiver) : (s.receive r).tariff = s.tariff := rfl
@[simp] theorem receive_feeder (r : Receiver) : (s.receive r).feeder = s.feeder := rfl
@[simp] theorem receive_supervisor (r : Receiver) : (s.receive r).supervisor = s.supervisor := rfl
@[simp] theorem receive_lamps (r : Receiver) : (s.receive r).lamps = s.lamps := rfl
@[simp] theorem receive_store (r : Receiver) : (s.receive r).store = s.store := rfl
@[simp] theorem receive_scan (r : Receiver) : (s.receive r).scan = s.scan := rfl
@[simp] theorem receive_fram (r : Receiver) : (s.receive r).fram = s.fram := rfl
@[simp] theorem receive_freeIndex (r : Receiver) : (s.receive r).freeIndex = s.freeIndex := rfl
@[simp] theorem receive_pending (r : Receiver) : (s.receive r).pending = s.pending := rfl

/-! ## A reply touches the host link alone -/

@[simp] theorem reply_powered (st : Status) (r : List Byte) : (s.reply st r).powered = s.powered := by
  unfold reply; split <;> rfl
@[simp] theorem refuse_powered (st : Status) : (s.refuse st).powered = s.powered := reply_powered s st []
@[simp] theorem reply_startUp (st : Status) (r : List Byte) : (s.reply st r).startUp = s.startUp := by
  unfold reply; split <;> rfl
@[simp] theorem refuse_startUp (st : Status) : (s.refuse st).startUp = s.startUp := reply_startUp s st []
@[simp] theorem reply_clock (st : Status) (r : List Byte) : (s.reply st r).clock = s.clock := by
  unfold reply; split <;> rfl
@[simp] theorem refuse_clock (st : Status) : (s.refuse st).clock = s.clock := reply_clock s st []
@[simp] theorem reply_line (st : Status) (r : List Byte) : (s.reply st r).line = s.line := by
  unfold reply; split <;> rfl
@[simp] theorem refuse_line (st : Status) : (s.refuse st).line = s.line := reply_line s st []
@[simp] theorem reply_engine (st : Status) (r : List Byte) : (s.reply st r).engine = s.engine := by
  unfold reply; split <;> rfl
@[simp] theorem refuse_engine (st : Status) : (s.refuse st).engine = s.engine := reply_engine s st []
@[simp] theorem reply_directory (st : Status) (r : List Byte) : (s.reply st r).directory = s.directory := by
  unfold reply; split <;> rfl
@[simp] theorem refuse_directory (st : Status) : (s.refuse st).directory = s.directory := reply_directory s st []
@[simp] theorem reply_cache (st : Status) (r : List Byte) : (s.reply st r).cache = s.cache := by
  unfold reply; split <;> rfl
@[simp] theorem refuse_cache (st : Status) : (s.refuse st).cache = s.cache := reply_cache s st []
@[simp] theorem reply_payment (st : Status) (r : List Byte) : (s.reply st r).payment = s.payment := by
  unfold reply; split <;> rfl
@[simp] theorem refuse_payment (st : Status) : (s.refuse st).payment = s.payment := reply_payment s st []
@[simp] theorem reply_tariff (st : Status) (r : List Byte) : (s.reply st r).tariff = s.tariff := by
  unfold reply; split <;> rfl
@[simp] theorem refuse_tariff (st : Status) : (s.refuse st).tariff = s.tariff := reply_tariff s st []
@[simp] theorem reply_feeder (st : Status) (r : List Byte) : (s.reply st r).feeder = s.feeder := by
  unfold reply; split <;> rfl
@[simp] theorem refuse_feeder (st : Status) : (s.refuse st).feeder = s.feeder := reply_feeder s st []
@[simp] theorem reply_supervisor (st : Status) (r : List Byte) : (s.reply st r).supervisor = s.supervisor := by
  unfold reply; split <;> rfl
@[simp] theorem refuse_supervisor (st : Status) : (s.refuse st).supervisor = s.supervisor := reply_supervisor s st []
@[simp] theorem reply_lamps (st : Status) (r : List Byte) : (s.reply st r).lamps = s.lamps := by
  unfold reply; split <;> rfl
@[simp] theorem refuse_lamps (st : Status) : (s.refuse st).lamps = s.lamps := reply_lamps s st []
@[simp] theorem reply_store (st : Status) (r : List Byte) : (s.reply st r).store = s.store := by
  unfold reply; split <;> rfl
@[simp] theorem refuse_store (st : Status) : (s.refuse st).store = s.store := reply_store s st []
@[simp] theorem reply_scan (st : Status) (r : List Byte) : (s.reply st r).scan = s.scan := by
  unfold reply; split <;> rfl
@[simp] theorem refuse_scan (st : Status) : (s.refuse st).scan = s.scan := reply_scan s st []
@[simp] theorem reply_fram (st : Status) (r : List Byte) : (s.reply st r).fram = s.fram := by
  unfold reply; split <;> rfl
@[simp] theorem refuse_fram (st : Status) : (s.refuse st).fram = s.fram := reply_fram s st []
@[simp] theorem reply_freeIndex (st : Status) (r : List Byte) : (s.reply st r).freeIndex = s.freeIndex := by
  unfold reply; split <;> rfl
@[simp] theorem refuse_freeIndex (st : Status) : (s.refuse st).freeIndex = s.freeIndex := reply_freeIndex s st []
@[simp] theorem reply_pending (st : Status) (r : List Byte) : (s.reply st r).pending = s.pending := by
  unfold reply; split <;> rfl
@[simp] theorem refuse_pending (st : Status) : (s.refuse st).pending = s.pending := reply_pending s st []

/-! ## Reading what was written -/

/-- The entry just changed. -/
theorem look_update_self {α : Type} {n : Nat} (v : Vector α n) (i : Fin n) (f : α → α) :
    look (update v i f) i = f (look v i) := by simp [look, update]

/-- Every other entry stays. -/
theorem look_update_other {α : Type} {n : Nat} (v : Vector α n) (i j : Fin n) (f : α → α) (h : i ≠ j) :
    look (update v i f) j = look v j := by
  have h : i.1 ≠ j.1 := fun e => h (Fin.ext e)
  simp [look, update, h]

@[simp] theorem modMachine_machine_self (m : MachineNo) (f : MachineRecord → MachineRecord) :
    (s.modMachine m f).machine m = f (s.machine m) := look_update_self _ _ _

theorem modMachine_machine_other (m k : MachineNo) (f : MachineRecord → MachineRecord) (h : m ≠ k) :
    (s.modMachine m f).machine k = s.machine k := look_update_other _ _ _ _ h

@[simp] theorem modLink_link_self (m : MachineNo) (f : Link → Link) : (s.modLink m f).link m = f (s.link m) :=
  look_update_self _ _ _

theorem modLink_link_other (m k : MachineNo) (f : Link → Link) (h : m ≠ k) : (s.modLink m f).link k = s.link k :=
  look_update_other _ _ _ _ h

@[simp] theorem modGuard_guard_self (r : RoomNo) (f : RoomGuard → RoomGuard) :
    (s.modGuard r f).guard r = f (s.guard r) := look_update_self _ _ _

theorem modGuard_guard_other (r k : RoomNo) (f : RoomGuard → RoomGuard) (h : r ≠ k) :
    (s.modGuard r f).guard k = s.guard k := look_update_other _ _ _ _ h

@[simp] theorem modContext_context_self (c : ContextNo) (f : Context → Context) :
    (s.modContext c f).context c = f (s.context c) := look_update_self _ _ _

theorem modContext_context_other (c k : ContextNo) (f : Context → Context) (h : c ≠ k) :
    (s.modContext c f).context k = s.context k := look_update_other _ _ _ _ h

end Sys2Proof.Machine.State
end

