-- ==== Sys2Proof/Laws/Still.lean ====
section
/-! SUPPORT. What no operation of the blocks touches: power, the waiting commands, the store's records, the timebase and the rule
lock. One lemma per operation; the operations that carry out a store transaction, reset the part, or serve a host request that
may change one of these are left out. -/
namespace Sys2Proof.Machine

/-- Power, the waiting commands, the store's records, the timebase and the rule lock. -/
def State.still (s : State) : Bool × List Instr × Fram × Timebase × Bool :=
  (s.powered, s.pending, s.fram, s.clock, s.supervisor.ruleLock)

@[simp] theorem State.still_mk (a b c d e f g h i j k l m n o p q r) :
    (State.mk a b c d e f g h i j k l m n o p q r).still = (a, r, p, c, l.ruleLock) := rfl

@[simp] theorem State.still_fold (s : State) :
    (s.powered, s.pending, s.fram, s.clock, s.supervisor.ruleLock) = s.still := rfl

@[simp] theorem Supervisor.makeRoom_ruleLock (v : Supervisor) : v.makeRoom.ruleLock = v.ruleLock := by
  unfold Supervisor.makeRoom
  (repeat' split) <;> rfl

@[simp] theorem State.still_ite {c : Prop} [Decidable c] (a b : State) :
    (if c then a else b).still = if c then a.still else b.still := by
  split <;> rfl

theorem forEach_still {α : Type} (f : α → State → State) (h : ∀ a t, (f a t).still = t.still) (xs : List α) (s : State) :
    (forEach xs f s).still = s.still := by
  unfold forEach
  induction xs generalizing s with
  | nil => rfl
  | cons x xs ih => simp [ih, h]

theorem foldl_still {α : Type} (f : State → α → State) (h : ∀ a t, (f t a).still = t.still) (xs : List α) (s : State) :
    (xs.foldl f s).still = s.still := by
  induction xs generalizing s with
  | nil => rfl
  | cons x xs ih => simp [ih, h]

@[simp] theorem State.modMachine_still (s : State) (m : MachineNo) (f : MachineRecord → MachineRecord) :
    (s.modMachine m f).still = s.still := by
  simp [State.modMachine]

@[simp] theorem State.modSession_still (s : State) (m : MachineNo) (f : Session → Session) :
    (s.modSession m f).still = s.still := by
  simp [State.modSession]

@[simp] theorem State.modLink_still (s : State) (m : MachineNo) (f : Link → Link) :
    (s.modLink m f).still = s.still := by
  simp [State.modLink]

@[simp] theorem State.modGuard_still (s : State) (r : RoomNo) (f : RoomGuard → RoomGuard) :
    (s.modGuard r f).still = s.still := by
  simp [State.modGuard]

@[simp] theorem State.modContext_still (s : State) (c : ContextNo) (f : Context → Context) :
    (s.modContext c f).still = s.still := by
  simp [State.modContext]

@[simp] theorem State.stage_still (s : State) (c : ContextNo) (g : Stage) : (s.stage c g).still = s.still := by
  simp [State.stage]

@[simp] theorem State.freeContext_still (s : State) (c : ContextNo) : (s.freeContext c).still = s.still := by
  simp [State.freeContext]

@[simp] theorem State.enqueue_still (s : State) (q : PayRequest) : (s.enqueue q).still = s.still := by
  simp [State.enqueue]

@[simp] theorem State.issue_still (s : State) (i : Issuer) (a : Access) : (s.issue i a).still = s.still := by
  simp [State.issue]

@[simp] theorem State.useFree_still (s : State) : s.useFree.still = s.still := by
  simp [State.useFree]

@[simp] theorem State.notify_still (s : State) (n : Notice) : (s.notify n).still = s.still := by
  simp [State.notify]

@[simp] theorem State.reply_still (s : State) (status : Status) (results : List Byte) :
    (s.reply status results).still = s.still := by
  unfold State.reply
  (repeat' split) <;> simp

@[simp] theorem State.refuse_still (s : State) (status : Status) : (s.refuse status).still = s.still := by
  simp [State.refuse]

@[simp] theorem State.transmit_still (s : State) : s.transmit.still = s.still := by
  simp [State.transmit]

@[simp] theorem State.send_still (s : State) (m : MachineNo) (c : NodeCommand) :
    (s.send m c).still = s.still := by
  simp [State.send]

@[simp] theorem State.sendLamp_still (s : State) (m : MachineNo) (l : Lamp) :
    (s.sendLamp m l).still = s.still := by
  simp [State.sendLamp]

@[simp] theorem State.relamp_still (s : State) (m : MachineNo) : (s.relamp m).still = s.still := by
  unfold State.relamp
  (repeat' split) <;> simp

@[simp] theorem State.resyncLamp_still (s : State) (m : MachineNo) : (s.resyncLamp m).still = s.still := by
  unfold State.resyncLamp
  (repeat' split) <;> simp

@[simp] theorem State.relampAll_still (s : State) : s.relampAll.still = s.still := by
  simp [State.relampAll, forEach_still]

@[simp] theorem State.endRecovering_still (s : State) : s.endRecovering.still = s.still := by
  simp [State.endRecovering]

@[simp] theorem State.enter_still (s : State) (m : MachineNo) (st : MachineState) :
    (s.enter m st).still = s.still := by
  simp [State.enter]

@[simp] theorem State.setHeat_still (s : State) (m : MachineNo) (h : HeatState) :
    (s.setHeat m h).still = s.still := by
  simp [State.setHeat]

@[simp] theorem State.enterOffline_still (s : State) (m : MachineNo) : (s.enterOffline m).still = s.still := by
  simp [State.enterOffline]

@[simp] theorem State.markLockout_still (s : State) (m : MachineNo) : (s.markLockout m).still = s.still := by
  simp [State.markLockout]

@[simp] theorem State.enterLockedOut_still (s : State) (m : MachineNo) (code : FaultCode) :
    (s.enterLockedOut m code).still = s.still := by
  simp [State.enterLockedOut]

@[simp] theorem State.startProbing_still (s : State) (m : MachineNo) : (s.startProbing m).still = s.still := by
  simp [State.startProbing]

@[simp] theorem State.disableLink_still (s : State) (m : MachineNo) : (s.disableLink m).still = s.still := by
  simp [State.disableLink]

@[simp] theorem State.endExchange_still (s : State) (x : Exchange) : (s.endExchange x).still = s.still := by
  simp [State.endExchange]

@[simp] theorem State.beginExchange_still (s : State) : s.beginExchange.still = s.still := by
  simp [State.beginExchange]

@[simp] theorem State.takeGrant_still (s : State) (m : MachineNo) : (s.takeGrant m).still = s.still := by
  unfold State.takeGrant
  (repeat' split) <;> simp

@[simp] theorem State.takeWithdrawal_still (s : State) (m : MachineNo) :
    (s.takeWithdrawal m).still = s.still := by
  unfold State.takeWithdrawal
  (repeat' split) <;> simp

@[simp] theorem State.takeHold_still (s : State) (m : MachineNo) : (s.takeHold m).still = s.still := by
  unfold State.takeHold
  (repeat' split) <;> simp

@[simp] theorem State.runPass_still (s : State) : s.runPass.1.still = s.still := by
  unfold State.runPass
  dsimp only
  (repeat' split) <;> (try simp) <;> (repeat' split) <;> simp [forEach_still]

@[simp] theorem State.runShedding_still (s : State) : s.runShedding.1.still = s.still := by
  unfold State.runShedding
  dsimp only
  (repeat' split) <;> (try simp) <;> (repeat' split) <;> simp [forEach_still]

@[simp] theorem State.judgeBacklog_still (s : State) : s.judgeBacklog.still = s.still := by
  simp [State.judgeBacklog]

@[simp] theorem State.dropClaim_still (s : State) (m : MachineNo) : (s.dropClaim m).still = s.still := by
  simp [State.dropClaim]

@[simp] theorem State.releaseHeat_still (s : State) (m : MachineNo) : (s.releaseHeat m).still = s.still := by
  simp [State.releaseHeat]

@[simp] theorem State.claimHeat_still (s : State) (m : MachineNo) (load : Nat) :
    (s.claimHeat m load).still = s.still := by
  simp [State.claimHeat]

@[simp] theorem State.requestHeat_still (s : State) (m : MachineNo) : (s.requestHeat m).still = s.still := by
  unfold State.requestHeat
  (repeat' split) <;> simp

@[simp] theorem State.rebalance_still (s : State) : s.rebalance.1.still = s.still := by
  simp [State.rebalance]

@[simp] theorem State.placeSettle_still (s : State) (m : MachineNo) (e : Nat) :
    (s.placeSettle m e).still = s.still := by
  unfold State.placeSettle
  (repeat' split) <;> simp

@[simp] theorem State.endCommands_still (s : State) (m : MachineNo) (was : MachineState) (cause : EndCause) (id : Nat) :
    (s.endCommands m was cause id).still = s.still := by
  unfold State.endCommands
  (repeat' split) <;> simp

@[simp] theorem State.endSessionWith_still (s : State) (m : MachineNo) (cause : EndCause) (after : AfterSettle) (e : Nat) :
    (s.endSessionWith m cause after e).still = s.still := by
  unfold State.endSessionWith
  (repeat' split) <;> simp

@[simp] theorem State.endSession_still (s : State) (m : MachineNo) (cause : EndCause) (after : AfterSettle) :
    (s.endSession m cause after).still = s.still := by
  simp [State.endSession]

@[simp] theorem State.writeCharge_still (s : State) (m : MachineNo) (total : Nat) :
    (s.writeCharge m total).still = s.still := by
  unfold State.writeCharge
  (repeat' split) <;> simp

@[simp] theorem State.enterAfter_still (s : State) (m : MachineNo) (slotCode : Option (Option FaultCode)) :
    (s.enterAfter m slotCode).still = s.still := by
  unfold State.enterAfter
  (repeat' split) <;> simp

@[simp] theorem State.completeSettlement_still (s : State) (m : MachineNo) (parts : List Part) (slotCode : Option (Option FaultCode)) :
    (s.completeSettlement m parts slotCode).still = s.still := by
  unfold State.completeSettlement
  (repeat' split) <;> simp

@[simp] theorem State.completeIfEmpty_still (s : State) (m : MachineNo) :
    (s.completeIfEmpty m).still = s.still := by
  unfold State.completeIfEmpty
  (repeat' split) <;> simp

@[simp] theorem State.abandon_still (s : State) (m : MachineNo) (a : Abandonment) :
    (s.abandon m a).still = s.still := by
  simp [State.abandon]

@[simp] theorem State.takeId_still (s : State) : s.takeId.still = s.still := by
  simp [State.takeId]

@[simp] theorem State.arm_still (s : State) (m : MachineNo) (price : Nat) :
    (s.arm m price).still = s.still := by
  unfold State.arm
  (repeat' split) <;> simp

@[simp] theorem State.goRunning_still (s : State) (m : MachineNo) : (s.goRunning m).still = s.still := by
  unfold State.goRunning
  (repeat' split) <;> simp

@[simp] theorem State.takeStart_still (s : State) (m : MachineNo) : (s.takeStart m).still = s.still := by
  unfold State.takeStart
  (repeat' split) <;> simp

@[simp] theorem State.endHeat_still (s : State) (m : MachineNo) : (s.endHeat m).still = s.still := by
  simp [State.endHeat]

@[simp] theorem State.finish_still (s : State) (m : MachineNo) : (s.finish m).still = s.still := by
  unfold State.finish
  (repeat' split) <;> simp

@[simp] theorem State.strand_still (s : State) (m : MachineNo) (origin : StrandedFrom) :
    (s.strand m origin).still = s.still := by
  simp [State.strand]

@[simp] theorem State.complete_still (s : State) (m : MachineNo) : (s.complete m).still = s.still := by
  simp [State.complete]

@[simp] theorem State.refuseCard_still (s : State) (m : MachineNo) (card : CardId) (why : Reason) :
    (s.refuseCard m card why).still = s.still := by
  simp [State.refuseCard]

@[simp] theorem State.writeRecord_still (s : State) (source : Source) (code : FaultCode) (severity : Severity) (ref : Reference) :
    (s.writeRecord source code severity ref).still = s.still := by
  simp [State.writeRecord]

@[simp] theorem State.faultNotice_still (s : State) : s.faultNotice.still = s.still := by
  unfold State.faultNotice
  (repeat' split) <;> simp

@[simp] theorem State.setLocking_still (s : State) (m : MachineNo) (q : Option Nat) :
    (s.setLocking m q).still = s.still := by
  simp [State.setLocking]

@[simp] theorem State.setEnding_still (s : State) (m : MachineNo) (q : Option Nat) :
    (s.setEnding m q).still = s.still := by
  simp [State.setEnding]

@[simp] theorem State.stopOrder_still (s : State) (m : MachineNo) (code : FaultCode) :
    (s.stopOrder m code).still = s.still := by
  unfold State.stopOrder
  (repeat' split) <;> simp

@[simp] theorem State.lockoutOrder_still (s : State) (m : MachineNo) (code : FaultCode) :
    (s.lockoutOrder m code).still = s.still := by
  unfold State.lockoutOrder
  (repeat' split) <;> simp

@[simp] theorem State.carryOut_still (s : State) (m : MachineNo) (code : FaultCode) (z : Order) :
    (s.carryOut m code z).still = s.still := by
  unfold State.carryOut
  (repeat' split) <;> simp

@[simp] theorem State.linkRecord_still (s : State) (m : MachineNo) (o : Order) :
    (s.linkRecord m o).still = s.still := by
  simp [State.linkRecord]

@[simp] theorem State.recordReport_still (s : State) (m : MachineNo) (code : FaultCode) (sev : Severity) :
    (s.recordReport m code sev).still = s.still := by
  unfold State.recordReport
  dsimp only
  split <;> simp

@[simp] theorem State.reportFault_still (s : State) (m : MachineNo) (code : FaultCode) :
    (s.reportFault m code).still = s.still := by
  simp [State.reportFault]

@[simp] theorem State.reportEnding_still (s : State) (m : MachineNo) (code : FaultCode) :
    (s.reportEnding m code).still = s.still := by
  simp [State.reportEnding]

@[simp] theorem State.noteNodeLost_still (s : State) (m : MachineNo) (ends : Bool) :
    (s.noteNodeLost m ends).still = s.still := by
  simp [State.noteNodeLost]

@[simp] theorem State.reportRecovery_still (s : State) (m : MachineNo) (code : FaultCode) (e : Nat) :
    (s.reportRecovery m code e).still = s.still := by
  simp [State.reportRecovery]

@[simp] theorem State.reportPart_still (s : State) (code : FaultCode) (ref : Reference) :
    (s.reportPart code ref).still = s.still := by
  simp [State.reportPart]

@[simp] theorem State.leakOrder_still (s : State) (m : MachineNo) : (s.leakOrder m).still = s.still := by
  simp [State.leakOrder]

@[simp] theorem State.relampRoom_still (s : State) (r : RoomNo) : (s.relampRoom r).still = s.still := by
  simp [State.relampRoom, forEach_still]

@[simp] theorem State.closeRoom_still (s : State) (r : RoomNo) : (s.closeRoom r).still = s.still := by
  unfold State.closeRoom
  dsimp only
  (repeat' split) <;> (try simp) <;> (repeat' split) <;> simp [forEach_still]

@[simp] theorem State.takeOnset_still (s : State) (r : RoomNo) : (s.takeOnset r).still = s.still := by
  simp [State.takeOnset]

@[simp] theorem State.takeClear_still (s : State) (r : RoomNo) : (s.takeClear r).still = s.still := by
  simp [State.takeClear]

@[simp] theorem State.rejudgeRoom_still (s : State) (r : RoomNo) : (s.rejudgeRoom r).still = s.still := by
  simp [State.rejudgeRoom]

@[simp] theorem State.startAuthorise_still (s : State) (m : MachineNo) (card : CardId) (p : ProgrammeNo) (count : Nat) :
    (s.startAuthorise m card p count).still = s.still := by
  simp [State.startAuthorise]

@[simp] theorem State.cardAtIdle_still (s : State) (m : MachineNo) (card : CardId) (programme count : Nat) :
    (s.cardAtIdle m card programme count).still = s.still := by
  unfold State.cardAtIdle
  (repeat' split) <;> simp

@[simp] theorem State.cardAtDryer_still (s : State) (m : MachineNo) (card : CardId) (count : Nat) :
    (s.cardAtDryer m card count).still = s.still := by
  unfold State.cardAtDryer
  (repeat' split) <;> simp

@[simp] theorem State.takeCard_still (s : State) (m : MachineNo) (card : CardId) (programme count : Nat) :
    (s.takeCard m card programme count).still = s.still := by
  unfold State.takeCard
  (repeat' split) <;> simp

@[simp] theorem State.takeStartPressed_still (s : State) (m : MachineNo) :
    (s.takeStartPressed m).still = s.still := by
  unfold State.takeStartPressed
  (repeat' split) <;> (try simp) <;> (repeat' split) <;> simp

@[simp] theorem State.takePhase_still (s : State) (m : MachineNo) (p : Phase) :
    (s.takePhase m p).still = s.still := by
  unfold State.takePhase
  (repeat' split) <;> simp

@[simp] theorem State.takeDoor_still (s : State) (m : MachineNo) (opened : Bool) :
    (s.takeDoor m opened).still = s.still := by
  unfold State.takeDoor
  (repeat' split) <;> simp

@[simp] theorem State.foreignRun_still (s : State) (m : MachineNo) (id : Nat) :
    (s.foreignRun m id).still = s.still := by
  unfold State.foreignRun
  (repeat' split) <;> (try simp) <;> (repeat' split) <;> simp

@[simp] theorem State.judgeIdle_still (s : State) (m : MachineNo) (n : Summary) (first : Bool) :
    (s.judgeIdle m n first).still = s.still := by
  unfold State.judgeIdle
  (repeat' split) <;> (try simp) <;> (repeat' split) <;> simp

@[simp] theorem State.delayOver_still (s : State) (m : MachineNo) : (s.delayOver m).still = s.still := by
  simp [State.delayOver]

@[simp] theorem State.judgeArmed_still (s : State) (m : MachineNo) (n : Summary) (x : Session) :
    (s.judgeArmed m n x).still = s.still := by
  unfold State.judgeArmed
  (repeat' split) <;> simp

@[simp] theorem State.judgeRunning_still (s : State) (m : MachineNo) (n : Summary) (x : Session) :
    (s.judgeRunning m n x).still = s.still := by
  unfold State.judgeRunning
  (repeat' split) <;> simp

@[simp] theorem State.judgeStranded_still (s : State) (m : MachineNo) (n : Summary) (x : Session) :
    (s.judgeStranded m n x).still = s.still := by
  unfold State.judgeStranded
  (repeat' split) <;> simp

@[simp] theorem State.resume_still (s : State) (m : MachineNo) (n : Summary) (x : Session) :
    (s.resume m n x).still = s.still := by
  unfold State.resume
  (repeat' split) <;> simp

@[simp] theorem State.judgeRecovering_still (s : State) (m : MachineNo) (n : Summary) (x : Session) :
    (s.judgeRecovering m n x).still = s.still := by
  unfold State.judgeRecovering
  (repeat' split) <;> simp

@[simp] theorem State.judgeSummary_still (s : State) (m : MachineNo) (n : Summary) (first : Bool) :
    (s.judgeSummary m n first).still = s.still := by
  unfold State.judgeSummary
  (repeat' split) <;> (try simp) <;> (repeat' split) <;> simp

@[simp] theorem State.linkLost_still (s : State) (m : MachineNo) : (s.linkLost m).still = s.still := by
  unfold State.linkLost
  (repeat' split) <;> (try simp) <;> (repeat' split) <;> simp

@[simp] theorem State.dryerMinute_still (s : State) (m : MachineNo) : (s.dryerMinute m).still = s.still := by
  unfold State.dryerMinute
  (repeat' split) <;> simp

@[simp] theorem State.checkOverrun_still (s : State) (m : MachineNo) : (s.checkOverrun m).still = s.still := by
  unfold State.checkOverrun
  (repeat' split) <;> simp

@[simp] theorem State.markRefresh_still (s : State) (m : MachineNo) (x : Session) :
    (s.markRefresh m x).still = s.still := by
  simp [State.markRefresh]

@[simp] theorem State.runningMinute_still (s : State) (m : MachineNo) (x : Session) :
    (s.runningMinute m x).still = s.still := by
  unfold State.runningMinute
  (repeat' split) <;> (try simp) <;> (repeat' split) <;> simp

@[simp] theorem State.delayedMinute_still (s : State) (m : MachineNo) (x : Session) :
    (s.delayedMinute m x).still = s.still := by
  simp [State.delayedMinute]

@[simp] theorem State.minuteExpiry_still (s : State) (m : MachineNo) : (s.minuteExpiry m).still = s.still := by
  unfold State.minuteExpiry
  (repeat' split) <;> simp

@[simp] theorem State.armExpiry_still (s : State) (m : MachineNo) : (s.armExpiry m).still = s.still := by
  unfold State.armExpiry
  split <;> simp

@[simp] theorem State.graceExpiry_still (s : State) (m : MachineNo) : (s.graceExpiry m).still = s.still := by
  unfold State.graceExpiry
  (repeat' split) <;> simp

@[simp] theorem State.recoveryExpiry_still (s : State) (m : MachineNo) :
    (s.recoveryExpiry m).still = s.still := by
  unfold State.recoveryExpiry
  split <;> simp

@[simp] theorem State.authorised_still (s : State) (m : MachineNo) (p : Part) :
    (s.authorised m p).still = s.still := by
  unfold State.authorised
  (repeat' split) <;> (try simp) <;> (repeat' split) <;> simp

@[simp] theorem State.authoriseRefused_still (s : State) (m : MachineNo) (card : CardId) (why : Reason) :
    (s.authoriseRefused m card why).still = s.still := by
  unfold State.authoriseRefused
  (repeat' split) <;> (try simp) <;> (repeat' split) <;> simp

@[simp] theorem State.placeHeldBack_still (s : State) (m : MachineNo) :
    (s.placeHeldBack m).still = s.still := by
  simp [State.placeHeldBack]

@[simp] theorem State.extended_still (s : State) (m : MachineNo) (p : Part) (w : Bool) :
    (s.extended m p w).still = s.still := by
  unfold State.extended
  (repeat' split) <;> simp

@[simp] theorem State.extendRefused_still (s : State) (m : MachineNo) (card : CardId) (why : Reason) :
    (s.extendRefused m card why).still = s.still := by
  simp [State.extendRefused]

@[simp] theorem State.partReleased_still (s : State) (m : MachineNo) : (s.partReleased m).still = s.still := by
  simp [State.partReleased]

@[simp] theorem State.markStale_still (s : State) (p : DirPath) : (s.markStale p).still = s.still := by
  unfold State.markStale
  exact foldl_still _ (fun c t => by (repeat' split) <;> simp) _ s

@[simp] theorem State.addDamaged_still (s : State) (a : AccountNo) : (s.addDamaged a).still = s.still := by
  simp [State.addDamaged]

@[simp] theorem State.reportDamaged_still (s : State) (a : AccountNo) :
    (s.reportDamaged a).still = s.still := by
  simp [State.reportDamaged]

@[simp] theorem State.foundDamaged_still (s : State) (a : AccountNo) : (s.foundDamaged a).still = s.still := by
  simp [State.foundDamaged]

@[simp] theorem State.withLocks_still (s : State) (l : List LockEntry) : (s.withLocks l).still = s.still := by
  simp [State.withLocks]

@[simp] theorem State.askLock_still (s : State) (c : ContextNo) (a : AccountNo) :
    (s.askLock c a).1.still = s.still := by
  unfold State.askLock
  (repeat' split) <;> simp

@[simp] theorem State.releaseLock_still (s : State) (a : AccountNo) : (s.releaseLock a).1.still = s.still := by
  unfold State.releaseLock
  (repeat' split) <;> simp

@[simp] theorem State.releaseLocks_still (s : State) (as : List AccountNo) : (s.releaseLocks as).1.still = s.still := by
  unfold State.releaseLocks
  generalize ([] : List ContextNo) = cs
  induction as generalizing s cs with
  | nil => rfl
  | cons a as ih => simp [ih]

@[simp] theorem State.issueFor_still (s : State) (c : ContextNo) (a : Access) :
    (s.issueFor c a).still = s.still := by
  simp [State.issueFor]

@[simp] theorem State.goTo_still (s : State) (c : ContextNo) (g : Stage) (a : Access) :
    (s.goTo c g a).still = s.still := by
  simp [State.goTo]

@[simp] theorem State.replyHost_still (s : State) (c : ContextNo) (st : Status) (results : List Byte) :
    (s.replyHost c st results).still = s.still := by
  simp [State.replyHost]

@[simp] theorem State.refuseVend_still (s : State) (c : ContextNo) (why : Reason) :
    (s.refuseVend c why).still = s.still := by
  simp [State.refuseVend]

@[simp] theorem State.holdSlotStep_still (s : State) (c : ContextNo) (v : Vend) (p : Part) :
    (s.holdSlotStep c v p).still = s.still := by
  simp [State.holdSlotStep]

@[simp] theorem State.priceOnly_still (s : State) (c : ContextNo) (v : Vend) (payer : Option AccountNo) (source : PayerSource) (attrs : Attributes) (free : Bool) :
    (s.priceOnly c v payer source attrs free).still = s.still := by
  unfold State.priceOnly
  (repeat' split) <;> simp

@[simp] theorem State.accountSteps_still (s : State) (c : ContextNo) (v : Vend) (y : Payer) :
    (s.accountSteps c v y).1.still = s.still := by
  unfold State.accountSteps
  (repeat' split) <;> simp

@[simp] theorem State.startWalk_still (s : State) (c : ContextNo) (p : CardPath) (cls : MachineClass) (restarted : Bool) :
    (s.startWalk c p cls restarted).still = s.still := by
  simp [State.startWalk]

@[simp] theorem State.askCache_still (s : State) (c : ContextNo) (p : CardPath) (cls : MachineClass) :
    (s.askCache c p cls).still = s.still := by
  simp [State.askCache]

@[simp] theorem State.resolveVend_still (s : State) (c : ContextNo) (v : Vend) :
    (s.resolveVend c v).1.still = s.still := by
  unfold State.resolveVend
  (repeat' split) <;> simp

@[simp] theorem State.beginVend_still (s : State) (c : ContextNo) (v : Vend) :
    (s.beginVend c v).1.still = s.still := by
  unfold State.beginVend
  (repeat' split) <;> simp

@[simp] theorem State.vendResolved_still (s : State) (c : ContextNo) (v : Vend) (hold : Bool) (a : AccountNo) (attrs : Attributes) :
    (s.vendResolved c v hold a attrs).1.still = s.still := by
  unfold State.vendResolved
  (repeat' split) <;> simp

@[simp] theorem State.probeReply_still (s : State) (c : ContextNo) (r : ProbeResult) :
    (s.probeReply c r).still = s.still := by
  simp [State.probeReply]

@[simp] theorem State.beginProbe_still (s : State) (c : ContextNo) (card : CardId) (cls : MachineClass) :
    (s.beginProbe c card cls).still = s.still := by
  unfold State.beginProbe
  (repeat' split) <;> simp

@[simp] theorem State.lookupDone_still (s : State) (c : ContextNo) (hit : Option CacheEntry) :
    (s.lookupDone c hit).1.still = s.still := by
  unfold State.lookupDone
  (repeat' split) <;> simp

@[simp] theorem State.updateDay_still (s : State) (r : Resolution) : (s.updateDay r).still = s.still := by
  simp [State.updateDay]

@[simp] theorem State.walkResolved_still (s : State) (c : ContextNo) (v : Vend) (r : Resolution) :
    (s.walkResolved c v r).1.still = s.still := by
  unfold State.walkResolved
  (repeat' split) <;> simp

@[simp] theorem State.walkEnd_still (s : State) (c : ContextNo) (e : WalkStep) :
    (s.walkEnd c e).1.still = s.still := by
  unfold State.walkEnd
  (repeat' split) <;> simp

@[simp] theorem State.walkDone_still (s : State) (c : ContextNo) (w : Walk) (r : Result) :
    (s.walkDone c w r).1.still = s.still := by
  unfold State.walkDone
  (repeat' split) <;> simp

@[simp] theorem State.walkFailed_still (s : State) (c : ContextNo) : (s.walkFailed c).still = s.still := by
  unfold State.walkFailed
  (repeat' split) <;> simp

@[simp] theorem State.refuseLocked_still (s : State) (c : ContextNo) (a : AccountNo) (why : Reason) :
    (s.refuseLocked c a why).1.still = s.still := by
  simp [State.refuseLocked]

@[simp] theorem State.holdLocked_still (s : State) (c : ContextNo) (y : Payer) :
    (s.holdLocked c y).1.still = s.still := by
  unfold State.holdLocked
  (repeat' split) <;> simp

@[simp] theorem State.priceStep_still (s : State) (c : ContextNo) (v : Vend) (y : Payer) (x : Account) :
    (s.priceStep c v y x).1.still = s.still := by
  unfold State.priceStep
  (repeat' split) <;> simp

@[simp] theorem State.holdReadDone_still (s : State) (c : ContextNo) (v : Vend) (y : Payer) (r : Result) :
    (s.holdReadDone c v y r).1.still = s.still := by
  unfold State.holdReadDone
  (repeat' split) <;> simp

@[simp] theorem State.holdWriteDone_still (s : State) (c : ContextNo) (v : Vend) (y : Payer) (p : Part) :
    (s.holdWriteDone c v y p).1.still = s.still := by
  simp [State.holdWriteDone]

@[simp] theorem State.withDeferred_still (s : State) (l : List Deferred) :
    (s.withDeferred l).still = s.still := by
  simp [State.withDeferred]

@[simp] theorem State.offerOne_still (s : State) : s.offerOne.still = s.still := by
  unfold State.offerOne
  (repeat' split) <;> simp

theorem State.offers_still (n : Nat) (s : State) : (State.offers n s).still = s.still := by
  induction n generalizing s with
  | zero => rfl
  | succ n ih => simp [State.offers, ih]

@[simp] theorem State.offerDeferred_still (s : State) : s.offerDeferred.still = s.still := by
  unfold State.offerDeferred
  split <;> simp [State.offers_still]

@[simp] theorem State.placeEntry_still (s : State) (c : ContextNo) (h : Handed) (d : Deferred) :
    (s.placeEntry c h d).still = s.still := by
  simp [State.placeEntry]

@[simp] theorem State.placeKept_still (s : State) : s.placeKept.still = s.still := by
  unfold State.placeKept
  (repeat' split) <;> (try simp) <;> (repeat' split) <;> simp

@[simp] theorem State.entryDone_still (s : State) (key : Nat) : (s.entryDone key).still = s.still := by
  simp [State.entryDone]

@[simp] theorem State.modEntry_still (s : State) (key : Nat) (f : Deferred → Deferred) :
    (s.modEntry key f).still = s.still := by
  simp [State.modEntry]

@[simp] theorem State.settleEnd_still (s : State) (c : ContextNo) (j : SettleJob) :
    (s.settleEnd c j).still = s.still := by
  simp [State.settleEnd]

@[simp] theorem State.settleNext_still (s : State) (c : ContextNo) (j : SettleJob) :
    (s.settleNext c j).1.still = s.still := by
  unfold State.settleNext
  (repeat' split) <;> (try simp) <;> (repeat' split) <;> simp

@[simp] theorem State.settlePast_still (s : State) (c : ContextNo) (j : SettleJob) (a : AccountNo) (charge : Nat) :
    (s.settlePast c j a charge).1.still = s.still := by
  simp [State.settlePast]

@[simp] theorem State.settleUnreadable_still (s : State) (c : ContextNo) (j : SettleJob) (a : AccountNo) :
    (s.settleUnreadable c j a).1.still = s.still := by
  unfold State.settleUnreadable
  (repeat' split) <;> simp

@[simp] theorem State.settleLocked_still (s : State) (c : ContextNo) (j : SettleJob) :
    (s.settleLocked c j).1.still = s.still := by
  unfold State.settleLocked
  (repeat' split) <;> simp

@[simp] theorem State.settleReadDone_still (s : State) (c : ContextNo) (j : SettleJob) (r : Result) :
    (s.settleReadDone c j r).1.still = s.still := by
  unfold State.settleReadDone
  (repeat' split) <;> simp

@[simp] theorem State.settleWriteDone_still (s : State) (c : ContextNo) (j : SettleJob) (charge : Nat) :
    (s.settleWriteDone c j charge).1.still = s.still := by
  unfold State.settleWriteDone
  (repeat' split) <;> simp

@[simp] theorem State.settleFromCopy_still (s : State) (c : ContextNo) (j : SettleJob) :
    (s.settleFromCopy c j).1.still = s.still := by
  unfold State.settleFromCopy
  (repeat' split) <;> simp

@[simp] theorem State.settleSlotDone_still (s : State) (c : ContextNo) (m : MachineNo) (id : Nat) (cause : EndCause) (e p : Nat) (rules : CaptureRules) (r : Result) :
    (s.settleSlotDone c m id cause e p rules r).1.still = s.still := by
  unfold State.settleSlotDone
  (repeat' split) <;> simp

@[simp] theorem State.deferSettle_still (s : State) (c : ContextNo) (j : SettleJob) (slotLost : Bool) :
    (s.deferSettle c j slotLost).still = s.still := by
  simp [State.deferSettle]

@[simp] theorem State.beginSettle_still (s : State) (c : ContextNo) (m : MachineNo) (id : Nat) (cause : EndCause) (e p : Nat) :
    (s.beginSettle c m id cause e p).1.still = s.still := by
  unfold State.beginSettle
  (repeat' split) <;> simp

@[simp] theorem State.releaseSlotStep_still (s : State) (c : ContextNo) (m : MachineNo) :
    (s.releaseSlotStep c m).still = s.still := by
  unfold State.releaseSlotStep
  (repeat' split) <;> simp

@[simp] theorem State.beginRelease_still (s : State) (c : ContextNo) (m : MachineNo) (p : Part) :
    (s.beginRelease c m p).still = s.still := by
  unfold State.beginRelease
  split <;> simp

@[simp] theorem State.releaseMarked_still (s : State) (c : ContextNo) (m : MachineNo) (p : Part) :
    (s.releaseMarked c m p).1.still = s.still := by
  unfold State.releaseMarked
  (repeat' split) <;> simp

@[simp] theorem State.releasePast_still (s : State) (c : ContextNo) (m : MachineNo) (a : AccountNo) :
    (s.releasePast c m a).1.still = s.still := by
  simp [State.releasePast]

@[simp] theorem State.releaseLocked_still (s : State) (c : ContextNo) (m : MachineNo) (a : AccountNo) :
    (s.releaseLocked c m a).1.still = s.still := by
  unfold State.releaseLocked
  (repeat' split) <;> simp

@[simp] theorem State.releaseReadDone_still (s : State) (c : ContextNo) (m : MachineNo) (p : Part) (a : AccountNo) (r : Result) :
    (s.releaseReadDone c m p a r).1.still = s.still := by
  unfold State.releaseReadDone
  (repeat' split) <;> simp

@[simp] theorem State.deferRelease_still (s : State) (c : ContextNo) (m : MachineNo) (id number : Nat) (p : Part) (w written : Bool) :
    (s.deferRelease c m id number p w written).still = s.still := by
  simp [State.deferRelease]

@[simp] theorem State.deferredNext_still (s : State) (c : ContextNo) (d : Deferred) :
    (s.deferredNext c d).1.still = s.still := by
  unfold State.deferredNext
  (repeat' split) <;> simp

@[simp] theorem State.beginDeferred_still (s : State) (c : ContextNo) (key : Nat) :
    (s.beginDeferred c key).1.still = s.still := by
  unfold State.beginDeferred
  (repeat' split) <;> (try simp) <;> (repeat' split) <;> simp

@[simp] theorem State.deferredPast_still (s : State) (c : ContextNo) (d : Deferred) (p : DeferredPart) (a : AccountNo) :
    (s.deferredPast c d p a).1.still = s.still := by
  simp [State.deferredPast]

@[simp] theorem State.deferredLocked_still (s : State) (c : ContextNo) (d : Deferred) :
    (s.deferredLocked c d).1.still = s.still := by
  unfold State.deferredLocked
  (repeat' split) <;> simp

@[simp] theorem State.deferredReadDone_still (s : State) (c : ContextNo) (d : Deferred) (r : Result) :
    (s.deferredReadDone c d r).1.still = s.still := by
  unfold State.deferredReadDone
  (repeat' split) <;> simp

@[simp] theorem State.deferredWriteDone_still (s : State) (c : ContextNo) (d : Deferred) :
    (s.deferredWriteDone c d).1.still = s.still := by
  unfold State.deferredWriteDone
  (repeat' split) <;> simp

@[simp] theorem State.deferredSlotDone_still (s : State) (c : ContextNo) (d : Deferred) :
    (s.deferredSlotDone c d).still = s.still := by
  simp [State.deferredSlotDone]

@[simp] theorem State.deferredFailed_still (s : State) (c : ContextNo) (d : Deferred) :
    (s.deferredFailed c d).still = s.still := by
  simp [State.deferredFailed]

@[simp] theorem State.dirReply_still (s : State) (c : ContextNo) (locks : List AccountNo) (st : Status) (results : List Byte) :
    (s.dirReply c locks st results).1.still = s.still := by
  simp [State.dirReply]

@[simp] theorem State.dirPlanStep_still (s : State) (c : ContextNo) (j : DirJob) :
    (s.dirPlanStep c j).1.still = s.still := by
  unfold State.dirPlanStep
  (repeat' split) <;> simp

@[simp] theorem State.dirAccountStep_still (s : State) (c : ContextNo) (j : DirJob) :
    (s.dirAccountStep c j).1.still = s.still := by
  unfold State.dirAccountStep
  (repeat' split) <;> simp

@[simp] theorem State.dirLockStep_still (s : State) (c : ContextNo) (j : DirJob) (wanted : List AccountNo) :
    (s.dirLockStep c j wanted).1.still = s.still := by
  unfold State.dirLockStep
  (repeat' split) <;> simp

@[simp] theorem State.dirGo_still (s : State) (c : ContextNo) (j : DirJob) (n : DirNext) :
    (s.dirGo c j n).1.still = s.still := by
  unfold State.dirGo
  (repeat' split) <;> simp

@[simp] theorem State.beginDirectory_still (s : State) (c : ContextNo) (p : DirPath) (w : Option NewDescriptor) :
    (s.beginDirectory c p w).still = s.still := by
  simp [State.beginDirectory]

@[simp] theorem State.dirReadDone_still (s : State) (c : ContextNo) (j : DirJob) (r : Result) :
    (s.dirReadDone c j r).1.still = s.still := by
  unfold State.dirReadDone
  (repeat' split) <;> simp

@[simp] theorem State.dirLocked_still (s : State) (c : ContextNo) (j : DirJob) (wanted : List AccountNo) :
    (s.dirLocked c j wanted).1.still = s.still := by
  unfold State.dirLocked
  (repeat' split) <;> simp

@[simp] theorem State.dirAccountDone_still (s : State) (c : ContextNo) (j : DirJob) (r : Result) :
    (s.dirAccountDone c j r).1.still = s.still := by
  unfold State.dirAccountDone
  (repeat' split) <;> simp

@[simp] theorem State.requestSweep_still (s : State) (w : Sweep) : (s.requestSweep w).still = s.still := by
  simp [State.requestSweep]

@[simp] theorem State.dirEffect_still (s : State) (x : DirWrites) (e : DirEffect) :
    (s.dirEffect x e).1.1.still = s.still := by
  unfold State.dirEffect
  (repeat' split) <;> simp

@[simp] theorem State.restorePages_still (s : State) (x : DirWrites) : (s.restorePages x).still = s.still := by
  unfold State.restorePages
  split <;> rfl

@[simp] theorem State.dirWriteDone_still (s : State) (c : ContextNo) (x : DirWrites) (r : Result) :
    (s.dirWriteDone c x r).1.still = s.still := by
  unfold State.dirWriteDone
  (repeat' split) <;> simp

@[simp] theorem State.accountReply_still (s : State) (c : ContextNo) (a : AccountNo) (st : Status) (results : List Byte) :
    (s.accountReply c a st results).1.still = s.still := by
  simp [State.accountReply]

@[simp] theorem State.damagedReply_still (s : State) (c : ContextNo) (a : AccountNo) :
    (s.damagedReply c a).1.still = s.still := by
  simp [State.damagedReply]

@[simp] theorem State.accountUnreadable_still (s : State) (c : ContextNo) (a : AccountNo) (op : AccountOp) :
    (s.accountUnreadable c a op).1.still = s.still := by
  unfold State.accountUnreadable
  (repeat' split) <;> simp

@[simp] theorem State.accountVerdict_still (s : State) (c : ContextNo) (a : AccountNo) (x : Account) (v : AccountVerdict) :
    (s.accountVerdict c a x v).1.still = s.still := by
  unfold State.accountVerdict
  (repeat' split) <;> simp

@[simp] theorem State.accountLocked_still (s : State) (c : ContextNo) (a : AccountNo) (op : AccountOp) :
    (s.accountLocked c a op).1.still = s.still := by
  unfold State.accountLocked
  (repeat' split) <;> simp

@[simp] theorem State.accountReadDone_still (s : State) (c : ContextNo) (a : AccountNo) (op : AccountOp) (r : Result) :
    (s.accountReadDone c a op r).1.still = s.still := by
  unfold State.accountReadDone
  (repeat' split) <;> simp

@[simp] theorem State.accountWriteDone_still (s : State) (c : ContextNo) (a : AccountNo) (op : AccountOp) (y : Account) (before : Int) :
    (s.accountWriteDone c a op y before).1.still = s.still := by
  unfold State.accountWriteDone
  (repeat' split) <;> simp

@[simp] theorem State.gotLock_still (s : State) (c : ContextNo) : (s.gotLock c).1.still = s.still := by
  unfold State.gotLock
  (repeat' split) <;> (try simp) <;> (repeat' split) <;> simp

@[simp] theorem State.begin_still (s : State) (c : ContextNo) (z : PayRequest) :
    (s.begin c z).1.still = s.still := by
  unfold State.begin
  (repeat' split) <;> simp

theorem State.goOn_still (n : Nat) (cs : List ContextNo) (s : State) : (State.goOn n cs s).still = s.still := by
  induction n generalizing s cs with
  | zero => rfl
  | succ n ih =>
    cases cs with
    | nil => rfl
    | cons c cs => simp [State.goOn, ih]

@[simp] theorem Flow.run_still (f : Flow) : f.run.still = f.1.still := State.goOn_still _ _ _

@[simp] theorem State.takeRequest_still (s : State) : s.takeRequest.still = s.still := by
  unfold State.takeRequest
  (repeat' split) <;> simp

@[simp] theorem State.contextDone_still (s : State) (c : ContextNo) (r : Result) :
    (s.contextDone c r).1.still = s.still := by
  unfold State.contextDone
  (repeat' split) <;> (try simp) <;> (repeat' split) <;> simp

@[simp] theorem State.holdSlotFailed_still (s : State) (c : ContextNo) (v : Vend) (p : Part) :
    (s.holdSlotFailed c v p).still = s.still := by
  simp [State.holdSlotFailed]

@[simp] theorem State.andRelease_still (s : State) (a : Option AccountNo) :
    (s.andRelease a).1.still = s.still := by
  unfold State.andRelease
  (repeat' split) <;> simp

@[simp] theorem State.contextFailed_still (s : State) (c : ContextNo) :
    (s.contextFailed c).1.still = s.still := by
  unfold State.contextFailed
  (repeat' split) <;> (try simp) <;> (repeat' split) <;> simp

@[simp] theorem State.withQueue_still (s : State) (q : List Transaction) : (s.withQueue q).still = s.still := by
  simp [State.withQueue]

@[simp] theorem State.remark_still (s : State) (m : MachineNo) (lockout : Bool) :
    (s.remark m lockout).still = s.still := by
  simp [State.remark]

@[simp] theorem State.failIssuer_still (s : State) (i : Issuer) : (s.failIssuer i).still = s.still := by
  unfold State.failIssuer
  split <;> simp

theorem State.drain_still (n : Nat) (s : State) : (State.drain n s).still = s.still := by
  induction n generalizing s with
  | zero => simp [State.drain]
  | succ n ih =>
    unfold State.drain
    split <;> simp [ih]

@[simp] theorem State.failIssued_still (s : State) : s.failIssued.still = s.still := by
  unfold State.failIssued
  split <;> simp [State.drain_still]

@[simp] theorem State.storeDown_still (s : State) : s.storeDown.still = s.still := by
  simp [State.storeDown]

@[simp] theorem State.storeReturns_still (s : State) : s.storeReturns.still = s.still := by
  simp [State.storeReturns]

@[simp] theorem State.issueDay_still (s : State) : s.issueDay.still = s.still := by
  unfold State.issueDay
  (repeat' split) <;> simp

@[simp] theorem State.passRefresher_still (s : State) (m : MachineNo) :
    (s.passRefresher m).still = s.still := by
  simp [State.passRefresher]

@[simp] theorem State.issueLockout_still (s : State) (m : MachineNo) : (s.issueLockout m).still = s.still := by
  simp [State.issueLockout]

@[simp] theorem State.issueRefresh_still (s : State) (m : MachineNo) : (s.issueRefresh m).still = s.still := by
  simp [State.issueRefresh]

@[simp] theorem State.refresh_still (s : State) : s.refresh.still = s.still := by
  unfold State.refresh
  (repeat' split) <;> simp

@[simp] theorem State.issueOwn_still (s : State) : s.issueOwn.still = s.still := by
  simp [State.issueOwn]

@[simp] theorem State.saveSegment_still (s : State) (b : ConfigBlock) (k : Fin 4) :
    (s.saveSegment b k).still = s.still := by
  simp [State.saveSegment]

@[simp] theorem State.segmentDone_still (s : State) : s.segmentDone.still = s.still := by
  unfold State.segmentDone
  (repeat' split) <;> simp

@[simp] theorem State.arbitrate_still (s : State) : s.arbitrate.still = s.still := by
  simp [State.arbitrate]

@[simp] theorem State.conclude_still (s : State) : s.conclude.still = s.still := by
  simp [State.conclude]

@[simp] theorem State.modScan_still (s : State) (f : Scan → Scan) : (s.modScan f).still = s.still := by
  simp [State.modScan]

@[simp] theorem State.scanTo_still (s : State) (at_ : ScanAt) (a : Access) :
    (s.scanTo at_ a).still = s.still := by
  simp [State.scanTo]

@[simp] theorem State.sampleRoom_still (s : State) (r : RoomNo) : (s.sampleRoom r).still = s.still := by
  simp [State.sampleRoom]

@[simp] theorem State.startMachine_still (s : State) (m : MachineNo) : (s.startMachine m).still = s.still := by
  simp [State.startMachine]

@[simp] theorem State.endScan_still (s : State) (st : StartUpState) (mask : NoticeMask) :
    (s.endScan st mask).still = s.still := by
  unfold State.endScan
  dsimp only
  (repeat' split) <;> (try simp) <;> (repeat' split) <;> simp [forEach_still]

@[simp] theorem State.discardBuilt_still (s : State) : s.discardBuilt.still = s.still := by
  simp [State.discardBuilt]

@[simp] theorem State.scanNoStore_still (s : State) : s.scanNoStore.still = s.still := by
  simp [State.scanNoStore]

@[simp] theorem State.scanNotConfigured_still (s : State) : s.scanNotConfigured.still = s.still := by
  simp [State.scanNotConfigured]

@[simp] theorem State.raiseCap_still (s : State) : s.raiseCap.still = s.still := by
  simp [State.raiseCap]

@[simp] theorem State.scanComplete_still (s : State) : s.scanComplete.still = s.still := by
  simp [State.scanComplete]

@[simp] theorem State.loadRoom_still (s : State) (c : SegmentOne) (r : RoomNo) :
    (s.loadRoom c r).still = s.still := by
  simp [State.loadRoom]

@[simp] theorem State.loadMachine_still (s : State) (c : SegmentOne) (m : MachineNo) :
    (s.loadMachine c m).still = s.still := by
  simp [State.loadMachine]

@[simp] theorem State.loadThree_still (s : State) (c : SegmentThree) : (s.loadThree c).still = s.still := by
  simp [State.loadThree]

@[simp] theorem State.loadConfig_still (s : State) (c : ConfigBlock) : (s.loadConfig c).still = s.still := by
  unfold State.loadConfig
  dsimp only
  (repeat' split) <;> (try simp) <;> (repeat' split) <;> simp [forEach_still]

@[simp] theorem State.scanSegment_still (s : State) (r : Result) : (s.scanSegment r).still = s.still := by
  unfold State.scanSegment
  (repeat' split) <;> simp

@[simp] theorem State.takeParts_still (s : State) (y : MachineNo × Slot) : (s.takeParts y).still = s.still := by
  unfold State.takeParts
  (repeat' split) <;> simp

@[simp] theorem State.detach_still (s : State) (slots : List (MachineNo × Slot)) :
    (s.detach slots).still = s.still := by
  unfold State.detach
  dsimp only
  (repeat' split) <;> (try simp) <;> (repeat' split) <;> simp [forEach_still]

@[simp] theorem State.scanSlotWrites_still (s : State) : s.scanSlotWrites.still = s.still := by
  unfold State.scanSlotWrites
  (repeat' split) <;> (try simp) <;> (repeat' split) <;> simp

@[simp] theorem State.scanAfterAccount_still (s : State) (a : AccountNo) :
    (s.scanAfterAccount a).still = s.still := by
  unfold State.scanAfterAccount
  (repeat' split) <;> simp

@[simp] theorem State.scanAccount_still (s : State) (a : AccountNo) (r : Result) :
    (s.scanAccount a r).still = s.still := by
  unfold State.scanAccount
  (repeat' split) <;> simp

@[simp] theorem State.scanSlotFrom_still (s : State) (k : Nat) : (s.scanSlotFrom k).still = s.still := by
  unfold State.scanSlotFrom
  (repeat' split) <;> simp

@[simp] theorem State.restoreLockout_still (s : State) (m : MachineNo) :
    (s.restoreLockout m).still = s.still := by
  simp [State.restoreLockout]

@[simp] theorem State.judgeSlot_still (s : State) (m : MachineNo) (x : Slot) :
    (s.judgeSlot m x).still = s.still := by
  unfold State.judgeSlot
  (repeat' split) <;> simp

@[simp] theorem State.scanSlot_still (s : State) (m : MachineNo) (r : Result) :
    (s.scanSlot m r).still = s.still := by
  unfold State.scanSlot
  (repeat' split) <;> simp

@[simp] theorem State.scanSlotRepaired_still (s : State) (m : MachineNo) :
    (s.scanSlotRepaired m).still = s.still := by
  simp [State.scanSlotRepaired]

@[simp] theorem State.buildPools_still (s : State) : s.buildPools.still = s.still := by
  simp [State.buildPools]

@[simp] theorem State.scanPages_still (s : State) (ps : List ScanPage) : (s.scanPages ps).still = s.still := by
  unfold State.scanPages
  (repeat' split) <;> simp

@[simp] theorem State.scanPage_still (s : State) (p : ScanPage) (rest : List ScanPage) (r : Result) :
    (s.scanPage p rest r).still = s.still := by
  unfold State.scanPage
  (repeat' split) <;> simp

@[simp] theorem State.scanFloors_still (s : State) (r : Result) : (s.scanFloors r).still = s.still := by
  unfold State.scanFloors
  (repeat' split) <;> simp

@[simp] theorem State.repaired_still (s : State) (ref : Reference) : (s.repaired ref).still = s.still := by
  simp [State.repaired]

@[simp] theorem State.scanDone_still (s : State) (r : Result) : (s.scanDone r).still = s.still := by
  unfold State.scanDone
  (repeat' split) <;> simp

@[simp] theorem State.accept_still (s : State) : s.accept.still = s.still := by
  simp [State.accept]

@[simp] theorem State.setSite_still (s : State) (code : Nat) : (s.setSite code).still = s.still := by
  simp [State.setSite]

@[simp] theorem State.setRoom_still (s : State) (r : RoomNo) (capacity : Nat) (edge : EdgeSelect) :
    (s.setRoom r capacity edge).still = s.still := by
  simp [State.setRoom]

@[simp] theorem State.assignMachine_still (s : State) (m : MachineNo) (room : RoomNo) (cls : MachineClass) :
    (s.assignMachine m room cls).still = s.still := by
  simp [State.assignMachine]

@[simp] theorem State.unassignMachine_still (s : State) (m : MachineNo) (room : RoomNo) (cls : MachineClass) :
    (s.unassignMachine m room cls).still = s.still := by
  simp [State.unassignMachine]

@[simp] theorem State.setMachine_still (s : State) (m : MachineNo) (room : Nat) (cls : MachineClass) (assigned : Bool) :
    (s.setMachine m room cls assigned).still = s.still := by
  unfold State.setMachine
  (repeat' split) <;> simp

@[simp] theorem State.setWasher_still (s : State) (p : ProgrammeNo) (price duration heat : Nat) :
    (s.setWasher p price duration heat).still = s.still := by
  simp [State.setWasher]

@[simp] theorem State.setDryer_still (s : State) (p : ProgrammeNo) (price length maximum heat : Nat) :
    (s.setDryer p price length maximum heat).still = s.still := by
  simp [State.setDryer]

@[simp] theorem State.setProgramme_still (s : State) (i : ProgrammeItem) :
    (s.setProgramme i).still = s.still := by
  unfold State.setProgramme
  (repeat' split) <;> simp

@[simp] theorem State.setTariff_still (s : State) (t : Tariff) : (s.setTariff t).still = s.still := by
  simp [State.setTariff]

@[simp] theorem State.setBand_still (s : State) (b : Fin 4) (start factor : Nat) :
    (s.setBand b start factor).still = s.still := by
  simp [State.setBand]

@[simp] theorem State.setGroup_still (s : State) (g : Fin 8) (discount : Nat) :
    (s.setGroup g discount).still = s.still := by
  simp [State.setGroup]

@[simp] theorem State.setSurcharge_still (s : State) (n : Nat) : (s.setSurcharge n).still = s.still := by
  simp [State.setSurcharge]

@[simp] theorem State.setCap_still (s : State) (n : Nat) : (s.setCap n).still = s.still := by
  simp [State.setCap]

@[simp] theorem State.setGrace_still (s : State) (n : Nat) : (s.setGrace n).still = s.still := by
  simp [State.setGrace]

@[simp] theorem State.setPause_still (s : State) (a k : Nat) : (s.setPause a k).still = s.still := by
  simp [State.setPause]

@[simp] theorem State.setEngine_still (s : State) (e : SessionEngine) : (s.setEngine e).still = s.still := by
  simp [State.setEngine]

@[simp] theorem State.setArm_still (s : State) (n : Nat) : (s.setArm n).still = s.still := by
  simp [State.setArm]

@[simp] theorem State.setOverrun_still (s : State) (n : Nat) : (s.setOverrun n).still = s.still := by
  simp [State.setOverrun]

@[simp] theorem State.setNodeGrace_still (s : State) (n : Nat) : (s.setNodeGrace n).still = s.still := by
  simp [State.setNodeGrace]

@[simp] theorem State.setWindow_still (s : State) (n : Fin 4) (w : WindowItem) :
    (s.setWindow n w).still = s.still := by
  unfold State.setWindow
  (repeat' split) <;> simp

@[simp] theorem State.setCache_still (s : State) (i : CacheItem) : (s.setCache i).still = s.still := by
  simp [State.setCache]

@[simp] theorem State.setGrant_still (s : State) (mode : Arbitration) (limit high low : Nat) :
    (s.setGrant mode limit high low).still = s.still := by
  simp [State.setGrant]

@[simp] theorem State.setLamps_still (s : State) (k : LampMap) : (s.setLamps k).still = s.still := by
  simp [State.setLamps]

@[simp] theorem State.setMask_still (s : State) (k : NoticeMask) : (s.setMask k).still = s.still := by
  simp [State.setMask]

theorem State.withIndex_still (s : State) (n k : Nat) (f : Fin n → State) (h : ∀ i, (f i).still = s.still) :
    (s.withIndex n k f).still = s.still := by
  unfold State.withIndex
  split <;> simp [h]

@[simp] theorem State.configSet_still (s : State) (i : ConfigItem) : (s.configSet i).still = s.still := by
  unfold State.configSet
  split <;> simp [State.withIndex_still]

@[simp] theorem State.configGet_still (s : State) (code index : Nat) :
    (s.configGet code index).still = s.still := by
  unfold State.configGet
  (repeat' split) <;> simp

@[simp] theorem State.configSave_still (s : State) : s.configSave.still = s.still := by
  simp [State.configSave]

@[simp] theorem State.machineQuery_still (s : State) (m : MachineNo) : (s.machineQuery m).still = s.still := by
  simp [State.machineQuery]

@[simp] theorem State.startService_still (s : State) (m : MachineNo) (p : ProgrammeNo) (count : Nat) :
    (s.startService m p count).still = s.still := by
  simp [State.startService]

@[simp] theorem State.serviceStart_still (s : State) (m : MachineNo) (programme count : Nat) :
    (s.serviceStart m programme count).still = s.still := by
  unfold State.serviceStart
  (repeat' split) <;> (try simp) <;> (repeat' split) <;> simp

@[simp] theorem State.abort_still (s : State) (m : MachineNo) : (s.abort m).still = s.still := by
  unfold State.abort
  (repeat' split) <;> simp

@[simp] theorem State.lock_still (s : State) (m : MachineNo) : (s.lock m).still = s.still := by
  unfold State.lock
  (repeat' split) <;> simp

@[simp] theorem State.lockoutClear_still (s : State) (m : MachineNo) : (s.lockoutClear m).still = s.still := by
  unfold State.lockoutClear
  (repeat' split) <;> simp

@[simp] theorem State.nodeEnable_still (s : State) (m : MachineNo) : (s.nodeEnable m).still = s.still := by
  simp [State.nodeEnable]

@[simp] theorem State.nodeDisable_still (s : State) (m : MachineNo) : (s.nodeDisable m).still = s.still := by
  unfold State.nodeDisable
  (repeat' split) <;> simp

@[simp] theorem State.queueDirectory_still (s : State) (q : PayRequest) :
    (s.queueDirectory q).still = s.still := by
  simp [State.queueDirectory]

@[simp] theorem State.directoryWrite_still (s : State) (p : RawPath) (d : RawDescriptor) :
    (s.directoryWrite p d).still = s.still := by
  unfold State.directoryWrite
  (repeat' split) <;> simp

@[simp] theorem State.directoryRead_still (s : State) (p : RawPath) : (s.directoryRead p).still = s.still := by
  unfold State.directoryRead
  (repeat' split) <;> simp

@[simp] theorem State.cardProbe_still (s : State) (card : CardId) (cls : MachineClass) :
    (s.cardProbe card cls).still = s.still := by
  simp [State.cardProbe]

@[simp] theorem State.queueAccount_still (s : State) (account : Nat) (op : Option AccountOp) :
    (s.queueAccount account op).still = s.still := by
  unfold State.queueAccount
  (repeat' split) <;> simp

@[simp] theorem State.flushNow_still (s : State) (scope : Nat) (gone : CacheEntry → Bool) (c : Cache) :
    (s.flushNow scope gone c).still = s.still := by
  simp [State.flushNow]

@[simp] theorem State.flushSweep_still (s : State) (scope : Nat) (w : Sweep) :
    (s.flushSweep scope w).still = s.still := by
  simp [State.flushSweep]

@[simp] theorem State.cacheFlush_still (s : State) (scope : FlushScope) :
    (s.cacheFlush scope).still = s.still := by
  unfold State.cacheFlush
  (repeat' split) <;> simp

@[simp] theorem State.changeDemand_still (s : State) (limit duration : Nat) :
    (s.changeDemand limit duration).still = s.still := by
  unfold State.changeDemand
  (repeat' split) <;> simp

@[simp] theorem State.demandSet_still (s : State) (limit duration : Nat) :
    (s.demandSet limit duration).still = s.still := by
  simp [State.demandSet]

@[simp] theorem State.demandExpiry_still (s : State) : s.demandExpiry.still = s.still := by
  unfold State.demandExpiry
  (repeat' split) <;> simp

@[simp] theorem State.keepMinutes_still (s : State) : s.keepMinutes.still = s.still := by
  unfold State.keepMinutes
  split <;> rfl

@[simp] theorem State.budgetQuery_still (s : State) : s.budgetQuery.still = s.still := by
  simp [State.budgetQuery]

@[simp] theorem State.faultRead_still (s : State) (start count : Nat) :
    (s.faultRead start count).still = s.still := by
  simp [State.faultRead]

@[simp] theorem State.faultAck_still (s : State) (q : Nat) : (s.faultAck q).still = s.still := by
  unfold State.faultAck
  (repeat' split) <;> simp

@[simp] theorem State.rulesSet_still (s : State) (i : RulesItem) : (s.rulesSet i).still = s.still := by
  unfold State.rulesSet
  dsimp only
  (repeat' split) <;> (try simp) <;> (repeat' split) <;> simp [forEach_still]

@[simp] theorem State.valveOpen_still (s : State) (room : Nat) : (s.valveOpen room).still = s.still := by
  unfold State.valveOpen
  (repeat' split) <;> (try simp) <;> (repeat' split) <;> simp [forEach_still]

@[simp] theorem State.linkReturns_still (s : State) (m : MachineNo) : (s.linkReturns m).still = s.still := by
  unfold State.linkReturns
  (repeat' split) <;> (try simp) <;> (repeat' split) <;> simp

@[simp] theorem State.linkGood_still (s : State) (m : MachineNo) : (s.linkGood m).still = s.still := by
  unfold State.linkGood
  (repeat' split) <;> simp

@[simp] theorem State.setHeaterFault_still (s : State) (m : MachineNo) (b : Bool) :
    (s.setHeaterFault m b).still = s.still := by
  simp [State.setHeaterFault]

@[simp] theorem State.superviseHeater_still (s : State) (m : MachineNo) (heater confirmed : Bool) :
    (s.superviseHeater m heater confirmed).still = s.still := by
  simp [State.superviseHeater]

@[simp] theorem State.handReport_still (s : State) (m : MachineNo) (z : Report) :
    (s.handReport m z).still = s.still := by
  unfold State.handReport
  (repeat' split) <;> simp

@[simp] theorem State.nodeRestarted_still (s : State) (m : MachineNo) :
    (s.nodeRestarted m).still = s.still := by
  simp [State.nodeRestarted]

@[simp] theorem State.takeReport_still (s : State) (m : MachineNo) (r : Report) (toggle : Bool) :
    (s.takeReport m r toggle).still = s.still := by
  unfold State.takeReport
  dsimp only
  (repeat' split) <;> simp

@[simp] theorem State.summaryOf_still (s : State) (m : MachineNo) (n : Summary) (first : Bool) :
    (s.summaryOf m n first).still = s.still := by
  simp [State.summaryOf]

@[simp] theorem State.goodReply_still (s : State) (x : Exchange) (r : NodeReply) :
    (s.goodReply x r).still = s.still := by
  unfold State.goodReply
  (repeat' split) <;> simp

@[simp] theorem State.missed_still (s : State) (x : Exchange) : (s.missed x).still = s.still := by
  simp [State.missed]

@[simp] theorem State.nodeReply_still (s : State) (r : NodeReply) : (s.nodeReply r).still = s.still := by
  unfold State.nodeReply
  (repeat' split) <;> simp

@[simp] theorem State.replyTimeout_still (s : State) : s.replyTimeout.still = s.still := by
  unfold State.replyTimeout
  (repeat' split) <;> simp

@[simp] theorem State.lostExpiry_still (s : State) (m : MachineNo) : (s.lostExpiry m).still = s.still := by
  simp [State.lostExpiry]

@[simp] theorem State.receive_still (s : State) (r : Receiver) : (s.receive r).still = s.still := by
  simp [State.receive]

@[simp] theorem State.linkError_still (s : State) : s.linkError.still = s.still := by
  simp [State.linkError]

@[simp] theorem State.gapExpiry_still (s : State) : s.gapExpiry.still = s.still := by
  unfold State.gapExpiry
  (repeat' split) <;> simp

@[simp] theorem State.setInput_still (s : State) (r : RoomNo) (high : Bool) :
    (s.setInput r high).still = s.still := by
  simp [State.setInput]

@[simp] theorem State.leakInput_still (s : State) (r : RoomNo) (high : Bool) :
    (s.leakInput r high).still = s.still := by
  simp [State.leakInput]

@[simp] theorem State.debounceExpiry_still (s : State) (r : RoomNo) : (s.debounceExpiry r).still = s.still := by
  simp [State.debounceExpiry]

@[simp] theorem State.carryLookup_still (s : State) : s.carryLookup.still = s.still := by
  unfold State.carryLookup
  (repeat' split) <;> simp

@[simp] theorem State.cacheLookup_still (s : State) : s.cacheLookup.still = s.still := by
  simp [State.cacheLookup]

@[simp] theorem State.sweepStep_still (s : State) : s.sweepStep.still = s.still := by
  simp [State.sweepStep]

@[simp] theorem State.takeAuthorise_still (s : State) (m : MachineNo) :
    (s.takeAuthorise m).still = s.still := by
  unfold State.takeAuthorise
  (repeat' split) <;> simp

@[simp] theorem State.takeExtend_still (s : State) (m : MachineNo) : (s.takeExtend m).still = s.still := by
  unfold State.takeExtend
  (repeat' split) <;> simp

@[simp] theorem State.takeSettled_still (s : State) (m : MachineNo) : (s.takeSettled m).still = s.still := by
  unfold State.takeSettled
  (repeat' split) <;> simp

@[simp] theorem State.takeReleased_still (s : State) (m : MachineNo) : (s.takeReleased m).still = s.still := by
  unfold State.takeReleased
  (repeat' split) <;> simp

@[simp] theorem State.probeExpiry_still (s : State) : s.probeExpiry.still = s.still := by
  simp [State.probeExpiry]

@[simp] theorem State.probeDone_still (s : State) (valid : Bool) : (s.probeDone valid).still = s.still := by
  unfold State.probeDone
  (repeat' split) <;> simp

@[simp] theorem State.storeFails_still (s : State) : s.storeFails.still = s.still := by
  unfold State.storeFails
  (repeat' split) <;> simp

end Sys2Proof.Machine
end

