-- ==== Sys2Proof/Laws/Conclude.lean ====
section
/-! SUPPORT. What the end of an event does: a block that the event's effect leaves alone is, after `State.conclude`, unchanged
in the sense of `Block.same`. -/
namespace Sys2Proof.Machine

/-- A transaction issued by nobody fails back: in a settled state nothing does. -/
theorem State.failIssued_settled (s : State) (h : s.Settled) : s.failIssued = s := by
  unfold State.failIssued
  split
  · rfl
  · rename_i hu
    have hq : s.store.queue.filter (fun t => !t.isProbe) = [] := by
      rcases h with h | h
      · exact absurd h hu
      · simp only [List.filter_eq_nil_iff, Bool.not_eq_true', Bool.not_eq_false]
        exact h
    simp [State.drain, hq]

/-- The store port's own issuers change the store port alone. -/
theorem State.issueOwn_eq (s : State) : s.issueOwn = { s with store := s.issueOwn.store } := by
  have day : ∀ t : State, t.issueDay = { t with store := t.issueDay.store } := by
    intro t
    unfold State.issueDay
    (repeat' split) <;> rfl
  have ref : ∀ t : State, t.refresh = { t with store := t.refresh.store } := by
    intro t
    unfold State.refresh
    (repeat' split) <;> rfl
  unfold State.issueOwn
  split
  · have h := ref s.issueDay
    rw [day s] at h
    simpa [← day s] using h
  · rfl

/-- The end of an event in a settled state: four blocks take their arbiter's choice, and no other changes. -/
theorem State.conclude_settled (s : State) (h : s.Settled) :
    s.conclude = { s with
      host := s.host.transmit, line := s.line.begin, cache := s.cache.arbitrate, store := s.issueOwn.store } := by
  rw [State.conclude, State.failIssued_settled s h, s.issueOwn_eq]
  rfl

theorem State.issueDay_store (t u : State) (h : t.store = u.store) : t.issueDay.store = u.issueDay.store := by
  unfold State.issueDay State.hasIssued
  rw [h]
  split
  · exact h
  · split
    · exact h
    · rfl

theorem State.issueDay_engine (t : State) : t.issueDay.engine = t.engine := by
  unfold State.issueDay
  (repeat' split) <;> rfl

theorem State.refresh_store (t u : State) (h : t.store = u.store) (k : t.engine = u.engine) :
    t.refresh.store = u.refresh.store := by
  unfold State.refresh State.hasIssued
  rw [h]
  split
  · exact h
  · split
    · simp only [State.issueLockout, State.passRefresher, State.issue, State.machine, h, k]
    · split
      · simp only [State.issueRefresh, State.passRefresher, State.issue, State.session, State.machine, h, k]
      · exact h

/-- The store port's own issuers look at the store port, the session engine and the scan alone. -/
theorem State.issueOwn_store (t u : State) (h : t.store = u.store) (k : t.engine = u.engine) (l : t.scan = u.scan) :
    t.issueOwn.store = u.issueOwn.store := by
  unfold State.issueOwn State.storeUp
  rw [h, l]
  split
  · exact State.refresh_store _ _ (State.issueDay_store _ _ h) (by simp [State.issueDay_engine, k])
  · exact h

/-! ## Frames -/

/-- A block of `s` is the same in `u`, before the event ends. -/
def Block.kept (s u : State) : Block → Prop
  | .power => u.powered = s.powered
  | .startUp => u.startUp = s.startUp
  | .clock => u.clock = s.clock
  | .host => u.host = s.host
  | .line => u.line = s.line
  | .engine => u.engine = s.engine
  | .directory => u.directory = s.directory
  | .cache => u.cache = s.cache
  | .payment => u.payment = s.payment
  | .tariff => u.tariff = s.tariff
  | .feeder => u.feeder = s.feeder
  | .supervisor => u.supervisor = s.supervisor
  | .lamps => u.lamps = s.lamps
  | .store => u.store = s.store
  | .scan => u.scan = s.scan
  | .fram => u.fram = s.fram
  | .free => u.freeIndex = s.freeIndex

/-- Every block but those listed is the same in `u`, before the event ends, and so are the commands that wait. -/
def Kept (changed : List Block) (s u : State) : Prop := u.pending = s.pending ∧ ∀ b, b ∉ changed → b.kept s u

/-- What an event's effect left alone is unchanged when the event has ended. -/
theorem Kept.conclude {xs : List Block} {s u : State} (h : Kept xs s u) (k : u.Settled) : Unchanged xs s u.conclude := by
  rw [u.conclude_settled k]
  refine ⟨h.1, fun b hb => ?_⟩
  have hb := h.2 b hb
  cases b <;> simp only [Block.kept, Block.same] at hb ⊢ <;> first | exact hb | skip
  · rw [hb]
  · rw [hb]
  · rw [hb]
  · unfold State.StoreFrom
    exact State.issueOwn_store _ _ hb rfl rfl

/-- The conclusion of an event of a powered part. -/
theorem leads_act {f : State → State} {s : State} {xs : List Block} {holds : State → Prop} (hp : s.powered = true)
    (h : Kept xs s (f s)) (k : (f s).Settled) (hh : holds (f s).conclude) : Leads (act f s) s xs holds :=
  ⟨(f s).conclude, by simp [act, hp], h.conclude k, hh⟩

end Sys2Proof.Machine
end

