-- ==== Sys2Proof/Laws/Detach.lean ====
section
/-! SUPPORT. What the account pass's detaching of parts does: slot by slot it is the detaching of their parts laid end to end, and that
is said part by part (R190). -/
namespace Sys2Proof.Machine

/-! ## Part by part -/

/-- Whether R190 detaches the part from account `a` while the sum still exceeds what is held. -/
def SlotPart.due (a : AccountNo) (p : SlotPart) : Bool := p.part.payer == some a && p.mark

/-- A part that has lost its payer. -/
def SlotPart.freed (p : SlotPart) : SlotPart := { p with part := { p.part with payer := none } }

/-- The H of the parts that are due. -/
def dueIn (a : AccountNo) (xs : List SlotPart) : Nat := ((xs.filter (SlotPart.due a)).map fun z => z.part.hold).sum

/-- The H of the parts that name account `a`. -/
def namedIn (a : AccountNo) (xs : List SlotPart) : Nat :=
  (xs.filterMap fun p => if p.part.payer = some a then some p.part.hold else none).sum

/-- `Detached`, of one list of parts. -/
def PartsDetached (a : AccountNo) (held sum : Nat) (xs ys : List SlotPart) : Prop :=
  ys.length = xs.length ∧ ∀ before p after, xs = before ++ p :: after →
    ys[before.length]? = some (if p.due a = true ∧ held + dueIn a before < sum then p.freed else p)

theorem SlotPart.due_iff (a : AccountNo) (p : SlotPart) : p.due a = true ↔ p.part.payer = some a ∧ p.mark = true := by
  simp [SlotPart.due]

theorem namedIn_cons (a : AccountNo) (p : SlotPart) (xs : List SlotPart) :
    namedIn a (p :: xs) = (if p.part.payer = some a then p.part.hold else 0) + namedIn a xs := by
  unfold namedIn
  by_cases h : p.part.payer = some a <;> simp [h]

theorem detachPart_due {a : AccountNo} {held sum : Nat} {p : SlotPart} (h : p.due a = true) (hl : held < sum) :
    detachPart a held sum p = (p.freed, sum - p.part.hold) :=
  if_pos ⟨((p.due_iff a).mp h).1, ((p.due_iff a).mp h).2, hl⟩

theorem detachPart_kept {a : AccountNo} {held sum : Nat} {p : SlotPart} (h : ¬ (p.due a = true ∧ held < sum)) :
    detachPart a held sum p = (p, sum) :=
  if_neg fun e => h ⟨(p.due_iff a).mpr ⟨e.1, e.2.1⟩, e.2.2⟩

theorem detachParts_enough {a : AccountNo} {held sum : Nat} (xs : List SlotPart) (h : sum ≤ held) :
    detachParts a held sum xs = (xs, sum) := by
  induction xs with
  | nil => rfl
  | cons p r ih => simp [detachParts, detachPart_kept (p := p) fun e => Nat.not_lt.mpr h e.2, ih]

theorem PartsDetached.enough {a : AccountNo} {held sum : Nat} (xs : List SlotPart) (h : sum ≤ held) :
    PartsDetached a held sum xs xs :=
  ⟨rfl, fun b p af e => by rw [if_neg (by omega), e]; simp⟩

theorem PartsDetached.keep {a : AccountNo} {held sum : Nat} {p : SlotPart} {xs ys : List SlotPart} (hd : ¬ p.due a = true)
    (h : PartsDetached a held sum xs ys) : PartsDetached a held sum (p :: xs) (p :: ys) := by
  refine ⟨by simp [h.1], fun b q af e => ?_⟩
  cases b with
  | nil =>
    obtain ⟨rfl, rfl⟩ : p = q ∧ xs = af := by simpa using e
    simp [hd]
  | cons c b =>
    obtain ⟨rfl, hr⟩ : p = c ∧ xs = b ++ q :: af := by simpa using e
    have e1 : dueIn a (p :: b) = dueIn a b := by simp [dueIn, hd]
    simp only [List.length_cons, List.getElem?_cons_succ, h.2 b q af hr, e1]

theorem PartsDetached.free {a : AccountNo} {held sum : Nat} {p : SlotPart} {xs ys : List SlotPart} (hd : p.due a = true)
    (hs : held < sum) (hle : p.part.hold ≤ sum) (h : PartsDetached a held (sum - p.part.hold) xs ys) :
    PartsDetached a held sum (p :: xs) (p.freed :: ys) := by
  refine ⟨by simp [h.1], fun b q af e => ?_⟩
  cases b with
  | nil =>
    obtain ⟨rfl, rfl⟩ : p = q ∧ xs = af := by simpa using e
    simp [hd, hs, dueIn]
  | cons c b =>
    obtain ⟨rfl, hr⟩ : p = c ∧ xs = b ++ q :: af := by simpa using e
    have e1 : dueIn a (p :: b) = p.part.hold + dueIn a b := by simp [dueIn, hd]
    have e2 : held + dueIn a b < sum - p.part.hold ↔ held + (p.part.hold + dueIn a b) < sum := by omega
    simp only [List.length_cons, List.getElem?_cons_succ, h.2 b q af hr, e1, e2]

/-- What detaching makes of a list of parts whose sum is counted in `sum`: which parts lose their payer, the sum left, and that it stops
only at what is held or where no marked part names the account any more. -/
theorem detachParts_detached (a : AccountNo) (held : Nat) (xs : List SlotPart) : ∀ sum, namedIn a xs ≤ sum →
    let d := detachParts a held sum xs
    PartsDetached a held sum xs d.1 ∧ d.2 + namedIn a xs = sum + namedIn a d.1 ∧
      (d.2 ≤ held ∨ ∀ p ∈ d.1, p.part.payer = some a → p.mark = false) := by
  induction xs with
  | nil => exact fun sum _ => ⟨⟨rfl, fun b p af e => by simp at e⟩, by simp [detachParts], .inr (by simp [detachParts])⟩
  | cons p r ih =>
    intro sum hs
    rw [namedIn_cons] at hs
    by_cases hd : p.due a = true
    · have hp := ((p.due_iff a).mp hd).1
      rw [if_pos hp] at hs
      by_cases hl : held < sum
      · obtain ⟨h1, h2, h3⟩ := ih (sum - p.part.hold) (by omega)
        simp only [detachParts, detachPart_due hd hl]
        refine ⟨h1.free hd hl (by omega), ?_, h3.imp_right fun h q hq => ?_⟩
        · rw [namedIn_cons, namedIn_cons, if_pos hp, if_neg (by simp [SlotPart.freed])]
          omega
        · rcases List.mem_cons.mp hq with rfl | hq
          · simp [SlotPart.freed]
          · exact h q hq
      · rw [detachParts_enough _ (by omega)]
        exact ⟨.enough _ (by omega), rfl, .inl (by simpa using hl)⟩
    · obtain ⟨h1, h2, h3⟩ := ih sum (by omega)
      simp only [detachParts, detachPart_kept (p := p) fun e => hd e.1]
      refine ⟨h1.keep hd, ?_, h3.imp_right fun h q hq => ?_⟩
      · rw [namedIn_cons, namedIn_cons]
        omega
      · rcases List.mem_cons.mp hq with rfl | hq
        · intro hp
          simpa [SlotPart.due, hp] using hd
        · exact h q hq

/-! ## Slot by slot -/

theorem detachParts_append (a : AccountNo) (held : Nat) (xs ys : List SlotPart) (sum : Nat) :
    detachParts a held sum (xs ++ ys) = ((detachParts a held sum xs).1 ++ (detachParts a held (detachParts a held sum xs).2 ys).1,
      (detachParts a held (detachParts a held sum xs).2 ys).2) := by
  induction xs generalizing sum with
  | nil => rfl
  | cons p r ih => simp [detachParts, ih]

/-- The slots are detached as their parts laid end to end are. -/
theorem detachSlots_flat (a : AccountNo) (held : Nat) (xs : List (MachineNo × Slot)) : ∀ sum,
    (partsOf (detachSlots a held sum xs).1, (detachSlots a held sum xs).2) = detachParts a held sum (partsOf xs) := by
  induction xs with
  | nil => exact fun sum => rfl
  | cons y r ih =>
    intro sum
    obtain ⟨m, x⟩ := y
    unfold detachSlots
    split
    · rename_i h
      have : partsOf ((m, x) :: r) = partsOf r := by simp [partsOf, h]
      rw [this, ← ih sum]
      simp [partsOf, h]
    · rename_i c h
      have : partsOf ((m, x) :: r) = c.parts ++ partsOf r := by simp [partsOf, h]
      rw [this, detachParts_append, ← ih]
      simp [partsOf]

theorem detachParts_length (a : AccountNo) (held : Nat) (xs : List SlotPart) : ∀ sum,
    (detachParts a held sum xs).1.length = xs.length := by
  induction xs with
  | nil => exact fun _ => rfl
  | cons p r ih => exact fun _ => by simp [detachParts, ih]

end Sys2Proof.Machine
end

