-- ==== Sys2Proof/Laws/Encoding.lean ====
section
/-! SUPPORT. Numbers, codes and bitmaps of 10.5 read back: what is sent is what is read. -/
namespace Sys2Proof.Machine

theorem byte_toNat (n : Nat) : (Byte.ofNat n).toNat = n % 256 := by simp [Byte.ofNat]

theorem get16_u16 (n : Nat) (h : n < 65536) : get16 (n / 256 % 256) (n % 256) = n := by
  unfold get16
  omega

theorem get32_u32 (n : Nat) (h : n < 4294967296) :
    get32 (n / 16777216 % 256) (n / 65536 % 256) (n / 256 % 256) (n % 256) = n := by
  unfold get32
  omega

theorem getI32_i32 (z : Int) (h : -2147483648 ≤ z) (h' : z < 2147483648) :
    getI32 ((z % 4294967296).toNat / 16777216 % 256) ((z % 4294967296).toNat / 65536 % 256)
      ((z % 4294967296).toNat / 256 % 256) ((z % 4294967296).toNat % 256) = z := by
  unfold getI32
  rw [get32_u32 _ (by omega)]
  dsimp only
  split <;> omega

theorem getYesNo_yesNo (b : Bool) : getYesNo (b.toNat % 256) = some b := by cases b <;> rfl

theorem bit_ofBits (l : List Bool) (i : Nat) : bit (ofBits l) i = l.getD i false := by
  unfold bit
  induction l generalizing i with
  | nil => simp [ofBits]
  | cons b rest ih =>
    cases i with
    | zero => cases b <;> simp [ofBits]
    | succ i =>
      have : (b.toNat + 2 * ofBits rest) / 2 ^ (i + 1) = ofBits rest / 2 ^ i := by
        rw [Nat.pow_succ', ← Nat.div_div_eq_div_mul]
        congr 1
        cases b <;> simp <;> omega
      simpa [ofBits, this] using ih i

theorem ofBits_lt (l : List Bool) : ofBits l < 2 ^ l.length := by
  induction l with
  | nil => simp [ofBits]
  | cons b rest ih =>
    simp only [ofBits, List.length_cons, Nat.pow_succ]
    cases b <;> simp <;> omega

theorem anyOf_anyByte (o : Option Nat) (h : isByteOrAny o = true) : anyOf (o.getD 255 % 256) = o := by
  cases o with
  | none => rfl
  | some n =>
    simp [isByteOrAny] at h
    simp [anyOf, Nat.mod_eq_of_lt (show n < 256 by omega)]
    omega

theorem arbitration_ofCode_code (x : Arbitration) : Arbitration.ofCode (x.code % 256) = some x := by cases x <;> rfl

theorem cls_ofCode_code (x : MachineClass) : MachineClass.ofCode (x.code % 256) = some x := by cases x <;> rfl

theorem edge_ofCode_code (x : EdgeSelect) : EdgeSelect.ofCode (x.code % 256) = some x := by cases x <;> rfl

theorem filter_ofCode_code (x : ClassFilter) : ClassFilter.ofCode (x.code % 256) = some x := by cases x <;> rfl

theorem replacement_ofCode_code (x : Replacement) : Replacement.ofCode (x.code % 256) = some x := by cases x <;> rfl

theorem level_ofCode_code (x : Level) : Level.ofCode (x.code % 256) = some x := by cases x <;> rfl

theorem kind_ofCode_code (x : DescriptorKind) : DescriptorKind.ofCode (x.code % 256) = some x := by cases x <;> rfl

theorem accountState_ofCode_code (x : AccountState) : AccountState.ofCode (x.code % 256) = some x := by cases x <;> rfl

theorem severity_ofCode_code (x : Severity) : Severity.ofCode (x.code % 256) = some x := by cases x <;> rfl

theorem pattern_ofCode_code (x : LampPattern) : LampPattern.ofCode (x.code % 256) = some x := by cases x <;> rfl

theorem attributesOf_bits (a : Attributes) : attributesOf (attributeBits a % 256) = some a := by
  obtain ⟨a, b, c, d⟩ := a
  cases a <;> cases b <;> cases c <;> cases d <;> rfl

/-- A request's frame is parsed by its code and its payload's bytes. -/
theorem parse_requestFrame (tag : Byte) (q : Request) :
    (requestFrame tag q).parse = parseFields (q.code % 256) ((requestPayload q).map BitVec.toNat) := by
  simp [Frame.parse, requestFrame, byte_toNat]

end Sys2Proof.Machine
end

