-- ==== Sys2Proof/Laws/FaultLog.lean ====
section
/-! SUPPORT. What a full fault log discards (R166). -/
namespace Sys2Proof.Machine

/-- A search finds the first element with its property. -/
theorem find?_first {α : Type} {p : α → Bool} {before after : List α} {x : α} (hp : p x = true) (hb : ∀ y ∈ before, p y = false) :
    (before ++ x :: after).find? p = some x := by
  rw [List.find?_append, List.find?_eq_none.mpr (by simpa using hb)]
  simp [hp]

/-- Erasing an element takes its first occurrence out. -/
theorem erase_first {α : Type} [DecidableEq α] {before after : List α} {x : α} (h : x ∉ before) :
    (before ++ x :: after).erase x = before ++ after := by
  rw [List.erase_append_right _ h]
  simp

/-- A protected sequence number is that of a machine's locking record or of a room's closing record. -/
theorem Supervisor.isProtected_iff (v : Supervisor) (q : Nat) :
    v.isProtected q = true ↔ (∃ m, look v.locking m = some q) ∨ ∃ r, (look v.rooms r).closing = some q := by
  simp [Supervisor.isProtected, indexes]

theorem Supervisor.makeRoom_room (v : Supervisor) (h : v.log.length < 80) : v.makeRoom = v := if_pos h

/-- A full log loses the record that the search names, wherever it first stands. -/
theorem Supervisor.makeRoom_discards (v : Supervisor) {before after : List FaultRecord} {x : FaultRecord} (h : 80 ≤ v.log.length)
    (hd : v.toDiscard = some x) (hl : v.log = before ++ x :: after) (hb : x ∉ before) :
    v.makeRoom = { v with log := before ++ after } := by
  unfold Supervisor.makeRoom
  rw [if_neg (show ¬ v.log.length < Config.faultLogSize from Nat.not_lt.mpr h), hd]
  simp only
  rw [hl, erase_first hb]

/-- A log with no record to discard stays as it is. -/
theorem Supervisor.makeRoom_none (v : Supervisor) (hd : v.toDiscard = none) : v.makeRoom = v := by
  unfold Supervisor.makeRoom
  split
  · rfl
  · rw [hd]

end Sys2Proof.Machine
end

