-- ==== Sys2Proof/Laws/Feeder.lean ====
section
/-! SUPPORT. What the feeder budget unit's operations can do, each said once: the head that fits, a visit, a grant, a withdrawal, a
release, and the judgement of the backlog. -/
namespace Sys2Proof.Machine

/-- The model's fitting head is the queue head that fits. -/
theorem Feeder.fittingHead_eq_some (f : Feeder) (r : RoomNo) (q : Turn) (c : Claim) :
    f.fittingHead r q = some c ↔ f.HeadFits r q c := by
  unfold Feeder.fittingHead Feeder.HeadFits Feeder.fits
  cases (look f.rooms r).queue q with
  | nil => simp
  | cons d rest =>
    by_cases h : f.granted r + d.load ≤ (look f.rooms r).capacity ∧ f.total + d.load ≤ f.effectiveLimit
    · simp only [h.1, h.2, decide_true, Bool.and_self, if_true, Option.some.injEq, List.head?_cons]
      exact ⟨fun e => ⟨e, e ▸ h.1, e ▸ h.2⟩, fun e => e.1⟩
    · simp only [Bool.and_eq_true, decide_eq_true_eq, if_neg h, List.head?_cons, Option.some.injEq]
      exact ⟨nofun, fun ⟨e, a, b⟩ => absurd ⟨e ▸ a, e ▸ b⟩ h⟩

/-- No queue head fits exactly where no room has a fitting head in either queue. -/
theorem Feeder.drained_iff (f : Feeder) :
    f.Drained ↔ ∀ r ∈ indexes 4, f.fittingHead r .new = none ∧ f.fittingHead r .resume = none := by
  constructor
  · intro h r _
    exact ⟨Option.eq_none_iff_forall_not_mem.mpr fun c e => h r .new c ((f.fittingHead_eq_some r .new c).mp e),
      Option.eq_none_iff_forall_not_mem.mpr fun c e => h r .resume c ((f.fittingHead_eq_some r .resume c).mp e)⟩
  · intro h r q c e
    have e := (f.fittingHead_eq_some r q c).mpr e
    have := h r (List.mem_finRange r)
    cases q
    · exact absurd (this.1.symm.trans e) nofun
    · exact absurd (this.2.symm.trans e) nofun

/-- The model's grant of a head is the grant a visit makes. -/
theorem Feeder.grantHead_eq_afterGrant (f : Feeder) (r : RoomNo) (q : Turn) (c : Claim) :
    f.grantHead r q c = f.afterGrant r q c := by
  cases hm : f.mode <;> cases q <;>
    simp [Feeder.grantHead, Feeder.afterGrant, Feeder.addGrant, Feeder.modRoom, update, look, RoomFeeder.dropHead, hm]

/-- The model's withdrawal is the withdrawal shedding makes. -/
theorem Feeder.withdraw_eq_afterWithdrawal (f : Feeder) (r : RoomNo) (c : Claim) : f.withdraw r c = f.afterWithdrawal r c := rfl

/-- A visit that grants nothing finds no head that fits, and one that grants does it as R148 says. -/
theorem Feeder.visit_cases (f : Feeder) (r : RoomNo) :
    (f.visit r = none ∧ ∀ q c, ¬ f.HeadFits r q c) ∨
      ∃ q c, f.VisitGrants r q c ∧ f.visit r = some (f.afterGrant r q c, c.machine) := by
  have grants (q : Turn) (c : Claim) : f.VisitGrants r q c ↔
      f.HeadFits r q c ∧ (q = f.firstChoice r ∨ ∀ d, ¬ f.HeadFits r (f.firstChoice r) d) := Iff.rfl
  simp only [grants, Feeder.visit]
  generalize f.firstChoice r = q
  cases h : f.fittingHead r q with
  | some c =>
    exact .inr ⟨q, c, ⟨(f.fittingHead_eq_some r q c).mp h, .inl rfl⟩, by simp [f.grantHead_eq_afterGrant]⟩
  | none =>
    have none1 : ∀ d, ¬ f.HeadFits r q d := fun d e => absurd (((f.fittingHead_eq_some r q d).mpr e).symm.trans h) nofun
    cases h2 : f.fittingHead r q.other with
    | some c =>
      exact .inr ⟨q.other, c, ⟨(f.fittingHead_eq_some r q.other c).mp h2, .inr none1⟩,
        by simp [f.grantHead_eq_afterGrant]⟩
    | none =>
      have none2 : ∀ d, ¬ f.HeadFits r q.other d := fun d e =>
        absurd (((f.fittingHead_eq_some r q.other d).mpr e).symm.trans h2) nofun
      refine .inl ⟨rfl, fun p c e => ?_⟩
      cases q <;> cases p
      · exact none1 c e
      · exact none2 c e
      · exact none2 c e
      · exact none1 c e

/-- A release's removal in the model is the removal of R144. -/
theorem Feeder.remove_eq_without (f : Feeder) (m : MachineNo) : f.remove m = f.without m := by
  have rooms (g : RoomFeeder → RoomFeeder) :
      (indexes 4).foldl (fun h r => h.modRoom r g) f = { f with rooms := f.rooms.map g } := by
    have four : indexes 4 = [0, 1, 2, 3] := rfl
    simp only [four, List.foldl, Feeder.modRoom, update, look]
    congr 1
    ext1 i h
    match i, h with
    | 0, _ | 1, _ | 2, _ | 3, _ => simp
  unfold Feeder.remove Feeder.without
  rw [rooms]

/-- The judgement of the backlog changes the unit and offers its notice, and nothing else. -/
theorem State.judgeBacklog_eq (s : State) :
    s.judgeBacklog = { s with feeder := s.feeder.judged.1, host := s.host.offered s.feeder.judged.2 } := by
  unfold State.judgeBacklog Feeder.judged
  cases s.feeder.backlog
  · by_cases h : s.feeder.high ≤ s.feeder.waiting <;> simp [h, State.notify, HostLink.offered]
  · by_cases h : s.feeder.waiting ≤ s.feeder.low <;> simp [h, State.notify, HostLink.offered]

/-- A judgement leaves the backlog settled where the marks are in order. -/
theorem Feeder.judged_settled (f : Feeder) (h : f.low < f.high) : f.judged.1.BacklogSettled := by
  unfold Feeder.judged Feeder.BacklogSettled
  have waiting (b : Bool) : ({ f with backlog := b } : Feeder).waiting = f.waiting := rfl
  cases hb : f.backlog
  · by_cases hh : f.high ≤ f.waiting
    · simpa [hh, waiting] using Nat.lt_of_lt_of_le h hh
    · simpa [hh, hb] using Nat.lt_of_not_le hh
  · by_cases hl : f.waiting ≤ f.low
    · simpa [hl, waiting] using Nat.lt_of_le_of_lt hl h
    · simpa [hl, hb] using Nat.lt_of_not_le hl

/-- A release, but for the judgement of the backlog, is the removal of R144 with its pass, the grants told in grant order. -/
theorem State.dropClaim_eq (s : State) (m : MachineNo) :
    s.dropClaim m = forEach (s.feeder.released m).2 (fun k t => t.takeGrant k) { s with feeder := (s.feeder.released m).1 } := by
  unfold State.dropClaim Feeder.released
  by_cases h : s.feeder.holdsGrant m = true ∨ s.feeder.queued m = true
  · simp only [Bool.or_eq_true, h, if_true, Feeder.remove_eq_without]
    rfl
  · simp only [Bool.or_eq_true, h, if_false]
    rfl

end Sys2Proof.Machine
end

