-- ==== Sys2Proof/Laws/Follows.lean ====
section
/-! SUPPORT. What every event leaves of power, the waiting commands, the timebase's range and the rule lock: the operations that
serve a host request, and those that reset the part or carry out a store transaction. -/
namespace Sys2Proof.Machine

/-- From `s` to `t` power, the waiting commands and the store's records are the same, the minute of day has stayed in range and
the rule lock has not been cleared (R161, R207). -/
def State.Follows (s t : State) : Prop :=
  t.powered = s.powered ∧ t.pending = s.pending ∧ t.fram = s.fram ∧ (s.clock.minute ≤ 1439 → t.clock.minute ≤ 1439) ∧
    (s.supervisor.ruleLock = true → t.supervisor.ruleLock = true)

theorem State.follows_of_still {s t : State} (h : t.still = s.still) : s.Follows t := by
  simp only [State.still, Prod.mk.injEq] at h
  obtain ⟨h1, h2, h3, h4, h5⟩ := h
  exact ⟨h1, h2, h3, by rw [h4]; exact id, by rw [h5]; exact id⟩

theorem State.Follows.trans {s t u : State} (h : s.Follows t) (k : t.Follows u) : s.Follows u :=
  ⟨k.1.trans h.1, k.2.1.trans h.2.1, k.2.2.1.trans h.2.2.1, fun x => k.2.2.2.1 (h.2.2.2.1 x),
    fun x => k.2.2.2.2 (h.2.2.2.2 x)⟩

theorem State.Follows.then {s t u : State} (h : s.Follows t) (k : u.still = t.still) : s.Follows u :=
  h.trans (State.follows_of_still k)

theorem State.Follows.after {s t u : State} (k : t.still = s.still) (h : t.Follows u) : s.Follows u :=
  (State.follows_of_still k).trans h

/-! ## Host requests -/

theorem State.withMachine_still (s : State) (m : Nat) (f : MachineNo → State) (h : ∀ i, (f i).still = s.still) :
    (s.withMachine m f).still = s.still := by
  unfold State.withMachine
  split <;> simp [h]

theorem State.clockSet_follows (s : State) (minute day : Nat) : s.Follows (s.clockSet minute day) := by
  unfold State.clockSet
  split
  · exact State.follows_of_still (by simp)
  · rename_i h
    refine State.Follows.then (t := { s with clock := ⟨minute, day, true⟩ }) ⟨rfl, rfl, rfl, fun _ => ?_, id⟩ (by simp)
    exact Nat.le_of_not_lt h

theorem State.rulesLock_follows (s : State) : s.Follows s.rulesLock := by
  unfold State.rulesLock
  exact State.Follows.then (t := { s with supervisor := { s.supervisor with ruleLock := true } })
    ⟨rfl, rfl, rfl, id, fun _ => rfl⟩ (by simp)

/-- A request at its owner. -/
theorem State.own_follows (s : State) (q : Request) : s.Follows (s.own q) := by
  cases q with
  | clockSet m d => exact s.clockSet_follows m d
  | rulesLock => exact s.rulesLock_follows
  | _ => exact State.follows_of_still (by simp [State.own, State.withMachine_still])

theorem State.serve_follows (s : State) (q : Request) : s.Follows (s.serve q) := by
  unfold State.serve
  split
  · exact State.follows_of_still (by simp)
  · split
    · exact State.follows_of_still (by simp)
    · exact s.own_follows q

theorem State.dispatch_follows (s : State) : s.Follows s.dispatch := by
  unfold State.dispatch
  split
  · exact State.follows_of_still rfl
  · split
    · exact State.follows_of_still (by simp)
    · exact State.follows_of_still (by simp)
    · exact s.serve_follows _

theorem State.offerFrame_follows (s : State) (f : Frame) (g : State → State) (h : ∀ t : State, t.Follows (g t)) :
    s.Follows (s.offerFrame f g) := by
  unfold State.offerFrame
  split
  · exact State.Follows.after (t := { s with host := { s.host with buffer := [f] } }) rfl (h _)
  · exact State.follows_of_still rfl
  · exact State.follows_of_still rfl

/-- A host request's row. -/
theorem State.request_follows (s : State) (tag : Byte) (q : Request) : s.Follows (s.request tag q) :=
  s.offerFrame_follows _ _ fun t => t.serve_follows q

/-- A byte at the receiver. -/
theorem State.hostByte_follows (s : State) (b : Byte) : s.Follows (s.hostByte b) := by
  unfold State.hostByte
  split
  · split <;> exact State.follows_of_still (by simp)
  · split <;> exact State.follows_of_still (by simp)
  · split
    · exact State.follows_of_still (by simp)
    · unfold State.frameEnds
      split
      · split
        · exact State.Follows.after (by simp) (State.offerFrame_follows _ _ _ State.dispatch_follows)
        · exact State.follows_of_still (by simp)
      · exact State.follows_of_still (by simp)

theorem State.nextRequest_follows (s : State) : s.Follows s.nextRequest :=
  State.Follows.after (t := { s with host := { s.host with buffer := s.host.buffer.tail } }) rfl (State.dispatch_follows _)

end Sys2Proof.Machine
end

