-- ==== Sys2Proof/Laws/Issue.lean ====
section
/-! SUPPORT. What a search from a pointer finds, and what the slot refresher issues (R181). -/
namespace Sys2Proof.Machine

theorem finSub_of_le {k p : Fin 64} (h : p ≤ k) : (k - p).1 = k.1 - p.1 := Fin.sub_val_of_le h

theorem finSub_of_lt {k p : Fin 64} (h : k < p) : (k - p).1 = 64 + k.1 - p.1 := Fin.coe_sub_iff_lt.mpr h

/-- Before the first of a rising list that a search finds, it finds none. -/
theorem find?_rising {l : List (Fin 64)} (hs : l.Pairwise (· < ·)) {q : Fin 64 → Bool} {m : Fin 64} (h : l.find? q = some m) :
    ∀ k ∈ l, k < m → q k = false := by
  induction l with
  | nil => simp at h
  | cons a l ih =>
    rw [List.pairwise_cons] at hs
    rw [List.find?_cons] at h
    split at h
    · cases h
      intro k hk hlt
      rcases List.mem_cons.mp hk with rfl | e
      · exact absurd hlt (lt_irrefl _)
      · exact absurd hlt (not_lt.mpr (le_of_lt (hs.1 k e)))
    · rename_i ha
      intro k hk hlt
      rcases List.mem_cons.mp hk with rfl | e
      · simpa using ha
      · exact ih hs.2 h k e hlt

theorem indexes_rising : (indexes 64).Pairwise (· < ·) := List.pairwise_lt_finRange 64

/-- A search from `p` finds none only where there is none. -/
theorem firstFrom_none (p : Fin 64) (q : Fin 64 → Bool) : firstFrom p q = none ↔ ∀ k, q k = false := by
  simp only [firstFrom, List.find?_eq_none, List.mem_append, List.mem_filter, decide_eq_true_eq]
  refine ⟨fun h k => ?_, fun h k _ => by simp [h k]⟩
  simpa using h k ((le_or_gt p k).imp (fun e => ⟨List.mem_finRange k, e⟩) fun e => ⟨List.mem_finRange k, e⟩)

/-- A search from `p` finds the first at or after `p`, counting upward with 63 followed by 0. -/
theorem firstFrom_first {p m : Fin 64} {q : Fin 64 → Bool} (h : firstFrom p q = some m) :
    q m = true ∧ ∀ k : Fin 64, (k - p).1 < (m - p).1 → q k = false := by
  refine ⟨List.find?_some h, fun k hk => ?_⟩
  unfold firstFrom at h
  rw [List.find?_append] at h
  cases h1 : (List.filter (fun x => decide (p ≤ x)) (indexes 64)).find? q with
  | some y =>
    obtain rfl : y = m := by simpa [h1] using h
    have hm : p ≤ y := by simpa using (List.mem_filter.mp (List.mem_of_find?_eq_some h1)).2
    have hp : p ≤ k := by
      by_contra hc
      rw [finSub_of_le hm, finSub_of_lt (not_le.mp hc)] at hk
      omega
    rw [finSub_of_le hm, finSub_of_le hp] at hk
    refine find?_rising (indexes_rising.filter _) h1 k (by simp [indexes, hp]) ?_
    have : p.1 ≤ k.1 := hp
    have : p.1 ≤ y.1 := hm
    show k.1 < y.1
    omega
  | none =>
    simp only [h1, Option.none_or] at h
    have hm : m < p := by simpa using (List.mem_filter.mp (List.mem_of_find?_eq_some h)).2
    by_cases hp : p ≤ k
    · simpa using List.find?_eq_none.mp h1 k (by simp [indexes, hp])
    · rw [finSub_of_lt hm, finSub_of_lt (not_le.mp hp)] at hk
      refine find?_rising (indexes_rising.filter _) h k (by simp [indexes, not_le.mp hp]) ?_
      show k.1 < m.1
      omega

/-- The first at or after `p` is what a search from `p` finds. -/
theorem firstFrom_some {p m : Fin 64} {q : Fin 64 → Bool} (h : q m = true)
    (hb : ∀ k : Fin 64, (k - p).1 < (m - p).1 → q k = false) : firstFrom p q = some m := by
  cases hf : firstFrom p q with
  | none => exact absurd ((firstFrom_none p q).mp hf m) (by simp [h])
  | some j =>
    have hj := firstFrom_first hf
    have h1 : ¬ (j - p).1 < (m - p).1 := fun e => by simpa [hj.1] using hb j e
    have h2 : ¬ (m - p).1 < (j - p).1 := fun e => by simpa [h] using hj.2 m e
    rw [sub_left_injective (Fin.ext (show (j - p).1 = (m - p).1 by omega))]

theorem next_eq (m : MachineNo) : next m = m + 1 := by revert m; decide

theorem State.hasIssued_day (s : State) : s.hasIssued (· == .dayList) = true ↔ s.store.DayQueued := by
  simp [State.hasIssued, StorePort.DayQueued]

theorem State.hasIssued_refresher (s : State) : s.hasIssued Issuer.isRefresher = true ↔ s.store.RefresherQueued := by
  simp only [State.hasIssued, StorePort.RefresherQueued, List.any_eq_true]
  constructor
  · rintro ⟨t, ht, h⟩
    refine ⟨t, ht, ?_⟩
    cases hi : t.issuer <;> simp [hi, Issuer.isRefresher] at h ⊢
  · rintro ⟨t, ht, m, b, h⟩
    exact ⟨t, ht, by rw [h]; rfl⟩

/-- What the slot refresher issues (R181). -/
theorem State.refresh_issued (s : State) : s.RefreshIssued s.store s.refresh.store := by
  unfold State.refresh
  refine ⟨fun h => by rw [if_pos (s.hasIssued_refresher.mpr h)], fun h => ?_⟩
  rw [if_neg fun e => h (s.hasIssued_refresher.mp e)]
  refine ⟨fun m hm => ?_, fun hl => ⟨fun m hm => ?_, fun hr => ?_⟩⟩
  · rw [firstFrom_some hm.1 hm.2]
    simp [State.issueLockout, State.passRefresher, State.issue, next_eq, update]
  · rw [(firstFrom_none _ _).mpr hl, firstFrom_some hm.1 hm.2]
    cases h : (s.machine m).session <;>
      simp [State.issueRefresh, State.passRefresher, State.issue, next_eq, update, State.session, h]
  · rw [(firstFrom_none _ _).mpr hl, (firstFrom_none _ _).mpr hr]

end Sys2Proof.Machine
end

