-- ==== Sys2Proof/Laws/Memory.lean ====
section
/-! SUPPORT. The store: its record maps (a read after a write, other places left alone), its check bytes, the records (a read after
a write, other records left alone), and the canonical form kept by every access and by a write cut short. -/
namespace Sys2Proof.Machine

variable {α : Type}

theorem RecordMap.read_write_same (m : RecordMap α) (k : Nat) (v : α) : (m.write k v).read k = some v := by
  induction m with
  | nil => simp [RecordMap.write, RecordMap.read]
  | cons p rest ih =>
    obtain ⟨j, x⟩ := p
    unfold RecordMap.write
    split
    · simp [RecordMap.read]
    · split
      · simp [RecordMap.read]
      · rename_i h
        have : j ≠ k := fun e => h e.symm
        simp [RecordMap.read, this, ih]

theorem RecordMap.read_write_other (m : RecordMap α) {k i : Nat} (v : α) (h : i ≠ k) :
    (m.write k v).read i = m.read i := by
  have h' : k ≠ i := fun e => h e.symm
  induction m with
  | nil => simp [RecordMap.write, RecordMap.read, h']
  | cons p rest ih =>
    obtain ⟨j, x⟩ := p
    unfold RecordMap.write
    split
    · simp [RecordMap.read, h']
    · split
      · rename_i e
        subst e
        simp [RecordMap.read, h']
      · by_cases e : j = i <;> simp [RecordMap.read, e, ih]

/-- The canonical form, as every number of the rest above the first. -/
theorem RecordMap.wf_cons (j : Nat) (x : α) (m : RecordMap α) :
    RecordMap.wf ((j, x) :: m) = true ↔ (∀ p ∈ m, j < p.1) ∧ RecordMap.wf m = true := by
  induction m generalizing j x with
  | nil => simp [RecordMap.wf]
  | cons p rest ih =>
    obtain ⟨k, y⟩ := p
    simp only [RecordMap.wf, Bool.and_eq_true, decide_eq_true_eq, List.mem_cons, forall_eq_or_imp]
    constructor
    · rintro ⟨h, w⟩
      exact ⟨⟨h, fun p hp => Nat.lt_trans h (((ih k y).mp w).1 p hp)⟩, w⟩
    · rintro ⟨⟨h, -⟩, w⟩
      exact ⟨h, w⟩

theorem RecordMap.mem_write {m : RecordMap α} {k : Nat} {v : α} {p : Nat × α} (h : p ∈ m.write k v) :
    p = (k, v) ∨ p ∈ m := by
  induction m with
  | nil => simpa [RecordMap.write] using h
  | cons q rest ih =>
    obtain ⟨j, x⟩ := q
    unfold RecordMap.write at h
    split at h
    · simpa using h
    · split at h
      · rcases List.mem_cons.mp h with e | e
        · exact .inl e
        · exact .inr (List.mem_cons_of_mem _ e)
      · rcases List.mem_cons.mp h with e | e
        · exact .inr (by simp [e])
        · rcases ih e with e | e
          · exact .inl e
          · exact .inr (List.mem_cons_of_mem _ e)

theorem RecordMap.write_wf (m : RecordMap α) (k : Nat) (v : α) (h : m.wf = true) : (m.write k v).wf = true := by
  induction m with
  | nil => rfl
  | cons p rest ih =>
    obtain ⟨j, x⟩ := p
    have hr := (RecordMap.wf_cons j x rest).mp h
    unfold RecordMap.write
    split
    · rename_i hk
      refine (RecordMap.wf_cons k v _).mpr ⟨fun p hp => ?_, h⟩
      rcases List.mem_cons.mp hp with e | e
      · rw [e]; exact hk
      · exact Nat.lt_trans hk (hr.1 p e)
    · split
      · rename_i e
        subst e
        exact (RecordMap.wf_cons k v rest).mpr hr
      · rename_i h1 h2
        refine (RecordMap.wf_cons j x _).mpr ⟨fun p hp => ?_, ih hr.2⟩
        rcases RecordMap.mem_write hp with e | e
        · rw [e]; show j < k; omega
        · exact hr.1 p e

theorem RecordMap.mem_damage {m : RecordMap α} {k : Nat} {p : Nat × α} (h : p ∈ m.damage k) : p ∈ m := by
  induction m with
  | nil => exact h
  | cons q rest ih =>
    obtain ⟨j, x⟩ := q
    unfold RecordMap.damage at h
    split at h
    · exact List.mem_cons_of_mem _ h
    · rcases List.mem_cons.mp h with e | e
      · simp [e]
      · exact List.mem_cons_of_mem _ (ih e)

theorem RecordMap.damage_wf (m : RecordMap α) (k : Nat) (h : m.wf = true) : (m.damage k).wf = true := by
  induction m with
  | nil => rfl
  | cons p rest ih =>
    obtain ⟨j, x⟩ := p
    have hr := (RecordMap.wf_cons j x rest).mp h
    unfold RecordMap.damage
    split
    · exact hr.2
    · exact (RecordMap.wf_cons j x _).mpr ⟨fun p hp => hr.1 p (RecordMap.mem_damage hp), ih hr.2⟩

/-- A damaged record fails its check. -/
theorem RecordMap.read_damage_same (m : RecordMap α) (k : Nat) (h : m.wf = true) : (m.damage k).read k = none := by
  have none_of (l : RecordMap α) (hl : ∀ p ∈ l, k < p.1) : l.read k = none := by
    induction l with
    | nil => rfl
    | cons p rest ih =>
      obtain ⟨j, x⟩ := p
      have hj : k < j := hl (j, x) (by simp)
      simp [RecordMap.read, Nat.ne_of_gt hj, ih fun p hp => hl p (List.mem_cons_of_mem _ hp)]
  induction m with
  | nil => rfl
  | cons p rest ih =>
    obtain ⟨j, x⟩ := p
    have hr := (RecordMap.wf_cons j x rest).mp h
    unfold RecordMap.damage
    split
    · rename_i e
      subst e
      exact none_of rest hr.1
    · rename_i e
      simp [RecordMap.read, e, ih hr.2]

theorem RecordMap.read_damage_other (m : RecordMap α) {k i : Nat} (h : i ≠ k) : (m.damage k).read i = m.read i := by
  induction m with
  | nil => rfl
  | cons p rest ih =>
    obtain ⟨j, x⟩ := p
    unfold RecordMap.damage
    split
    · rename_i e
      subst e
      simp [RecordMap.read, Ne.symm h]
    · by_cases e : j = i <;> simp [RecordMap.read, e, ih]

/-! ## Check bytes -/

@[simp] theorem Stored.passes_make (n : RecordName) (x : α) : (Stored.make n x).passes n = true := by
  simp [Stored.passes, Stored.make]

/-- A record read at the place it was written for is what was written. -/
@[simp] theorem checked_make (n : RecordName) (x : α) : checked n (some (.make n x)) = some x := by
  simp [checked]; rfl

/-- A record written for another place fails its check where it is read, when the two check bytes differ (R177). -/
theorem checked_elsewhere {n k : RecordName} (x : α) (h : recordCheck k x ≠ recordCheck n x) :
    checked n (some (.make k x)) = none := by
  have : (Stored.make k x).passes n = false := by simpa [Stored.passes, Stored.make] using h
  simp [checked, this]

theorem RecordMap.sound_write {name : Nat → RecordName} (m : RecordMap (Stored α)) (k : Nat) (x : α)
    (h : RecordMap.sound name m = true) : RecordMap.sound name (m.write k (.make (name k) x)) = true := by
  simp only [RecordMap.sound, Bool.and_eq_true, List.all_eq_true] at h ⊢
  refine ⟨RecordMap.write_wf _ _ _ h.1, fun p hp => ?_⟩
  rcases RecordMap.mem_write hp with rfl | e
  · simp
  · exact h.2 p e

theorem RecordMap.sound_damage {name : Nat → RecordName} (m : RecordMap (Stored α)) (k : Nat)
    (h : RecordMap.sound name m = true) : RecordMap.sound name (m.damage k) = true := by
  simp only [RecordMap.sound, Bool.and_eq_true, List.all_eq_true] at h ⊢
  exact ⟨RecordMap.damage_wf _ _ h.1, fun p hp => h.2 p (RecordMap.mem_damage hp)⟩

/-! ## A read after a write -/

variable (f : Fram)

@[simp] theorem Fram.floorTable_setFloors (t : FloorTable) : (f.setFloors t).floorTable = some t := checked_make _ _

@[simp] theorem Fram.flatPage_setFlatPage (p : FlatPageNo) (c : FlatPage) : (f.setFlatPage p c).flatPage p = some c := by
  simp [Fram.flatPage, Fram.setFlatPage, RecordMap.read_write_same]

theorem Fram.flatPage_setFlatPage_other {p q : FlatPageNo} (c : FlatPage) (h : q ≠ p) :
    (f.setFlatPage p c).flatPage q = f.flatPage q := by
  simp [Fram.flatPage, Fram.setFlatPage, RecordMap.read_write_other _ _ (Fin.val_ne_of_ne h)]

@[simp] theorem Fram.cardPage_setCardPage (p : CardPageNo) (c : CardPage) : (f.setCardPage p c).cardPage p = some c := by
  simp [Fram.cardPage, Fram.setCardPage, RecordMap.read_write_same]

theorem Fram.cardPage_setCardPage_other {p q : CardPageNo} (c : CardPage) (h : q ≠ p) :
    (f.setCardPage p c).cardPage q = f.cardPage q := by
  simp [Fram.cardPage, Fram.setCardPage, RecordMap.read_write_other _ _ (Fin.val_ne_of_ne h)]

@[simp] theorem Fram.account_setAccount (a : AccountNo) (c : Account) : (f.setAccount a c).account a = some c := by
  simp [Fram.account, Fram.setAccount, RecordMap.read_write_same]

theorem Fram.account_setAccount_other {a b : AccountNo} (c : Account) (h : b ≠ a) :
    (f.setAccount a c).account b = f.account b := by
  simp [Fram.account, Fram.setAccount, RecordMap.read_write_other _ _ (Fin.val_ne_of_ne h)]

@[simp] theorem Fram.slot_setSlot (m : MachineNo) (c : Slot) : (f.setSlot m c).slot m = some c := by
  simp [Fram.slot, Fram.setSlot, RecordMap.read_write_same]

theorem Fram.slot_setSlot_other {m k : MachineNo} (c : Slot) (h : k ≠ m) : (f.setSlot m c).slot k = f.slot k := by
  simp [Fram.slot, Fram.setSlot, RecordMap.read_write_other _ _ (Fin.val_ne_of_ne h)]

/-! ## The canonical form of the whole store -/

theorem Fram.wf_iff : f.wf = true ↔
    passesAt (.segment 0) f.one = true ∧ passesAt (.segment 1) f.two = true ∧ passesAt (.segment 2) f.three = true ∧
      passesAt (.segment 3) f.four = true ∧ passesAt .floors f.floors = true ∧
      RecordMap.sound .flatPage f.flatPages = true ∧ RecordMap.sound .cardPage f.cardPages = true ∧
      RecordMap.sound .account f.accounts = true ∧ RecordMap.sound .slot f.slots = true := by
  simp [Fram.wf, and_assoc]

@[simp] theorem passesAt_make (n : RecordName) (x : α) : passesAt n (some (.make n x)) = true := by simp [passesAt]

@[simp] theorem passesAt_none (n : RecordName) : passesAt n (none : Option (Stored α)) = true := rfl

variable {f}

theorem Fram.setFloors_wf (t : FloorTable) (h : f.wf = true) : (f.setFloors t).wf = true := by
  rw [Fram.wf_iff] at h ⊢
  exact ⟨h.1, h.2.1, h.2.2.1, h.2.2.2.1, passesAt_make _ _, h.2.2.2.2.2⟩

theorem Fram.setFlatPage_wf (p : FlatPageNo) (c : FlatPage) (h : f.wf = true) : (f.setFlatPage p c).wf = true := by
  rw [Fram.wf_iff] at h ⊢
  obtain ⟨h1, h2, h3, h4, h5, h6, h7⟩ := h
  exact ⟨h1, h2, h3, h4, h5, RecordMap.sound_write _ _ _ h6, h7⟩

theorem Fram.setCardPage_wf (p : CardPageNo) (c : CardPage) (h : f.wf = true) : (f.setCardPage p c).wf = true := by
  rw [Fram.wf_iff] at h ⊢
  obtain ⟨h1, h2, h3, h4, h5, h6, h7, h8⟩ := h
  exact ⟨h1, h2, h3, h4, h5, h6, RecordMap.sound_write _ _ _ h7, h8⟩

theorem Fram.setAccount_wf (a : AccountNo) (c : Account) (h : f.wf = true) : (f.setAccount a c).wf = true := by
  rw [Fram.wf_iff] at h ⊢
  obtain ⟨h1, h2, h3, h4, h5, h6, h7, h8, h9⟩ := h
  exact ⟨h1, h2, h3, h4, h5, h6, h7, RecordMap.sound_write _ _ _ h8, h9⟩

theorem Fram.setSlot_wf (m : MachineNo) (c : Slot) (h : f.wf = true) : (f.setSlot m c).wf = true := by
  rw [Fram.wf_iff] at h ⊢
  obtain ⟨h1, h2, h3, h4, h5, h6, h7, h8, h9⟩ := h
  exact ⟨h1, h2, h3, h4, h5, h6, h7, h8, RecordMap.sound_write _ _ _ h9⟩

theorem Fram.updateSlot_wf (m : MachineNo) (g : Slot → Slot) (h : f.wf = true) : (f.updateSlot m g).2.wf = true := by
  unfold Fram.updateSlot
  split
  · exact h
  · exact Fram.setSlot_wf _ _ h

theorem Fram.updateCopyIf_wf (m : MachineNo) (id : Nat) (g : SlotCopy → Option SlotCopy) (h : f.wf = true) :
    (f.updateCopyIf m id g).2.wf = true := by
  unfold Fram.updateCopyIf
  (repeat' split) <;> first | exact h | exact Fram.setSlot_wf _ _ h

theorem Fram.dayUpdate_wf (u : DayUpdate) (h : f.wf = true) : (f.dayUpdate u).2.wf = true := by
  unfold Fram.dayUpdate
  (repeat' split) <;> first | exact h | exact Fram.setCardPage_wf _ _ h

/-- Carrying out any access keeps the canonical form. -/
theorem Fram.perform_wf (f : Fram) (a : Access) (h : f.wf = true) : (f.perform a).2.wf = true := by
  unfold Fram.perform
  split
  case h_5 | h_6 | h_7 | h_8 =>
    rw [Fram.wf_iff] at h ⊢
    obtain ⟨h1, h2, h3, h4, h5⟩ := h
    exact ⟨by first | exact h1 | exact passesAt_make _ _, by first | exact h2 | exact passesAt_make _ _,
      by first | exact h3 | exact passesAt_make _ _, by first | exact h4 | exact passesAt_make _ _, h5⟩
  all_goals (try split) <;> (try dsimp only [Fram.updateCopy]) <;> with_reducible first
    | exact h
    | exact Fram.setFloors_wf _ h
    | exact Fram.setFlatPage_wf _ _ h
    | exact Fram.setCardPage_wf _ _ h
    | exact Fram.setAccount_wf _ _ h
    | exact Fram.setSlot_wf _ _ h
    | exact Fram.updateSlot_wf _ _ h
    | exact Fram.updateCopyIf_wf _ _ _ h
    | exact Fram.dayUpdate_wf _ h

/-- A write cut short keeps the canonical form. -/
theorem Fram.cutShort_wf (f : Fram) (a : Access) (h : f.wf = true) : (f.cutShort a).wf = true := by
  have h' := (Fram.wf_iff f).mp h
  obtain ⟨h1, h2, h3, h4, h5, h6, h7, h8, h9⟩ := h'
  unfold Fram.cutShort
  split <;> (repeat' split) <;> first
    | with_reducible exact h
    | (rw [Fram.wf_iff]
       first
        | exact ⟨rfl, h2, h3, h4, h5, h6, h7, h8, h9⟩
        | exact ⟨h1, rfl, h3, h4, h5, h6, h7, h8, h9⟩
        | exact ⟨h1, h2, rfl, h4, h5, h6, h7, h8, h9⟩
        | exact ⟨h1, h2, h3, rfl, h5, h6, h7, h8, h9⟩
        | exact ⟨h1, h2, h3, h4, rfl, h6, h7, h8, h9⟩
        | exact ⟨h1, h2, h3, h4, h5, RecordMap.sound_damage _ _ h6, h7, h8, h9⟩
        | exact ⟨h1, h2, h3, h4, h5, h6, RecordMap.sound_damage _ _ h7, h8, h9⟩
        | exact ⟨h1, h2, h3, h4, h5, h6, h7, RecordMap.sound_damage _ _ h8, h9⟩
        | exact ⟨h1, h2, h3, h4, h5, h6, h7, h8, RecordMap.sound_damage _ _ h9⟩)

theorem State.cutFram_wf (s : State) (cut : PowerCut) (h : s.fram.wf = true) : (s.cutFram cut).wf = true := by
  unfold State.cutFram
  (repeat' split) <;> with_reducible first | exact h | exact Fram.cutShort_wf _ _ h | exact Fram.perform_wf _ _ h

end Sys2Proof.Machine
end

