-- ==== Sys2Proof/Laws/PerInstr.lean ====
section
/-! SUPPORT. What holds of every command as syntax, command by command: the frame of a host request has its tag, a type without the
reply mark, and a payload that fits a frame (R193, R197), so that its owner can be reached; and an event of the part carries no
frame. -/
namespace Sys2Proof.Machine

theorem requestPayload_length (q : Request) : (requestPayload q).length ≤ 248 := by
  cases q with
  | configSet i =>
    cases i with
    | programme p => cases p <;> simp [requestPayload, itemBytes, u8, u16]
    | window n w => cases h : w.action <;> simp [requestPayload, itemBytes, anyByte, actionBytes, yesNo, u8, u16, h]
    | _ => simp [requestPayload, itemBytes, lampBytes, yesNo, u8, u16]
  | cacheFlush sc => cases sc <;> simp [requestPayload, scopeBytes, u8]
  | _ =>
    simp [requestPayload, controlBytes, rawPathBytes, rawDescriptorBytes, cardBytes, accountSetBytes, accountSetAllBytes,
      rulesBytes, severities7, yesNo, u8, u16, u32, i32]

theorem requestFrame_type (tag : Byte) (q : Request) : (requestFrame tag q).type.msb = false := by
  cases q <;> simp [requestFrame, Request.code, Byte.ofNat] <;> decide

theorem requestFrame_tag (tag : Byte) (q : Request) : (requestFrame tag q).tag = tag := rfl

end Sys2Proof.Machine

namespace Sys2Proof.Laws

/-- A command that is a host request has a frame that can carry it: its tag, a type without the reply mark, a payload of at most 248
bytes (R193, R197). -/
def Shape.Statement (i : Instr) : Prop :=
  ∀ tag q, i.request? = some (tag, q) →
    (Machine.requestFrame tag q).tag = tag ∧ (Machine.requestFrame tag q).type.msb = false ∧
      (Machine.requestFrame tag q).payload.length ≤ 248

theorem Shape.of_request (i : Instr) : Shape.Statement i := fun tag q _ =>
  ⟨Machine.requestFrame_tag tag q, Machine.requestFrame_type tag q, Machine.requestPayload_length q⟩

theorem Shape.powerOnReset : Shape.Statement .powerOnReset := Shape.of_request _

theorem Shape.softReset : Shape.Statement (.softReset) := Shape.of_request _

theorem Shape.hostByteReceived (x0) : Shape.Statement (.hostByteReceived x0) := Shape.of_request _

theorem Shape.gapTimerExpiry : Shape.Statement (.gapTimerExpiry) := Shape.of_request _

theorem Shape.hostFrameSent : Shape.Statement (.hostFrameSent) := Shape.of_request _

theorem Shape.identify (x0) : Shape.Statement (.identify x0) := Shape.of_request _

theorem Shape.configSetSite (x0 x1) : Shape.Statement (.configSetSite x0 x1) := Shape.of_request _

theorem Shape.configSetRoom (x0 x1 x2 x3) : Shape.Statement (.configSetRoom x0 x1 x2 x3) := Shape.of_request _

theorem Shape.configSetMachine (x0 x1 x2 x3 x4) : Shape.Statement (.configSetMachine x0 x1 x2 x3 x4) := Shape.of_request _

theorem Shape.configSetProgramme (x0 x1) : Shape.Statement (.configSetProgramme x0 x1) := Shape.of_request _

theorem Shape.configSetBand (x0 x1 x2 x3) : Shape.Statement (.configSetBand x0 x1 x2 x3) := Shape.of_request _

theorem Shape.configSetTariffGroup (x0 x1 x2) : Shape.Statement (.configSetTariffGroup x0 x1 x2) := Shape.of_request _

theorem Shape.configSetSurcharge (x0 x1) : Shape.Statement (.configSetSurcharge x0 x1) := Shape.of_request _

theorem Shape.configSetCap (x0 x1) : Shape.Statement (.configSetCap x0 x1) := Shape.of_request _

theorem Shape.configSetGrace (x0 x1) : Shape.Statement (.configSetGrace x0 x1) := Shape.of_request _

theorem Shape.configSetPause (x0 x1 x2) : Shape.Statement (.configSetPause x0 x1 x2) := Shape.of_request _

theorem Shape.configSetArm (x0 x1) : Shape.Statement (.configSetArm x0 x1) := Shape.of_request _

theorem Shape.configSetOverrun (x0 x1) : Shape.Statement (.configSetOverrun x0 x1) := Shape.of_request _

theorem Shape.configSetNodeGrace (x0 x1) : Shape.Statement (.configSetNodeGrace x0 x1) := Shape.of_request _

theorem Shape.configSetWindow (x0 x1 x2) : Shape.Statement (.configSetWindow x0 x1 x2) := Shape.of_request _

theorem Shape.configSetCache (x0 x1) : Shape.Statement (.configSetCache x0 x1) := Shape.of_request _

theorem Shape.configSetGrant (x0 x1 x2 x3 x4) : Shape.Statement (.configSetGrant x0 x1 x2 x3 x4) := Shape.of_request _

theorem Shape.configSetLamp (x0 x1) : Shape.Statement (.configSetLamp x0 x1) := Shape.of_request _

theorem Shape.configSetNoticeMask (x0 x1) : Shape.Statement (.configSetNoticeMask x0 x1) := Shape.of_request _

theorem Shape.configGet (x0 x1 x2) : Shape.Statement (.configGet x0 x1 x2) := Shape.of_request _

theorem Shape.configSave (x0) : Shape.Statement (.configSave x0) := Shape.of_request _

theorem Shape.configSegmentWriteDone : Shape.Statement (.configSegmentWriteDone) := Shape.of_request _

theorem Shape.clockSet (x0 x1 x2) : Shape.Statement (.clockSet x0 x1 x2) := Shape.of_request _

theorem Shape.reset (x0) : Shape.Statement (.reset x0) := Shape.of_request _

theorem Shape.machineQuery (x0 x1) : Shape.Statement (.machineQuery x0 x1) := Shape.of_request _

theorem Shape.serviceStart (x0 x1 x2 x3) : Shape.Statement (.serviceStart x0 x1 x2 x3) := Shape.of_request _

theorem Shape.abort (x0 x1) : Shape.Statement (.abort x0 x1) := Shape.of_request _

theorem Shape.lock (x0 x1) : Shape.Statement (.lock x0 x1) := Shape.of_request _

theorem Shape.lockoutClear (x0 x1) : Shape.Statement (.lockoutClear x0 x1) := Shape.of_request _

theorem Shape.nodeEnable (x0 x1) : Shape.Statement (.nodeEnable x0 x1) := Shape.of_request _

theorem Shape.nodeDisable (x0 x1) : Shape.Statement (.nodeDisable x0 x1) := Shape.of_request _

theorem Shape.directoryWrite (x0 x1 x2) : Shape.Statement (.directoryWrite x0 x1 x2) := Shape.of_request _

theorem Shape.directoryRead (x0 x1) : Shape.Statement (.directoryRead x0 x1) := Shape.of_request _

theorem Shape.cardProbe (x0 x1 x2) : Shape.Statement (.cardProbe x0 x1 x2) := Shape.of_request _

theorem Shape.accountOpen (x0 x1 x2 x3) : Shape.Statement (.accountOpen x0 x1 x2 x3) := Shape.of_request _

theorem Shape.accountRead (x0 x1) : Shape.Statement (.accountRead x0 x1) := Shape.of_request _

theorem Shape.accountSet (x0 x1 x2 x3 x4) : Shape.Statement (.accountSet x0 x1 x2 x3 x4) := Shape.of_request _

theorem Shape.accountSetEveryField (x0 x1 x2) : Shape.Statement (.accountSetEveryField x0 x1 x2) := Shape.of_request _

theorem Shape.accountCredit (x0 x1 x2) : Shape.Statement (.accountCredit x0 x1 x2) := Shape.of_request _

theorem Shape.accountAdjust (x0 x1 x2) : Shape.Statement (.accountAdjust x0 x1 x2) := Shape.of_request _

theorem Shape.accountClose (x0 x1) : Shape.Statement (.accountClose x0 x1) := Shape.of_request _

theorem Shape.cacheFlushAll (x0) : Shape.Statement (.cacheFlushAll x0) := Shape.of_request _

theorem Shape.cacheFlushResidents (x0) : Shape.Statement (.cacheFlushResidents x0) := Shape.of_request _

theorem Shape.cacheFlushFloor (x0 x1) : Shape.Statement (.cacheFlushFloor x0 x1) := Shape.of_request _

theorem Shape.cacheFlushFlat (x0 x1 x2) : Shape.Statement (.cacheFlushFlat x0 x1 x2) := Shape.of_request _

theorem Shape.demandSet (x0 x1 x2) : Shape.Statement (.demandSet x0 x1 x2) := Shape.of_request _

theorem Shape.budgetQuery (x0) : Shape.Statement (.budgetQuery x0) := Shape.of_request _

theorem Shape.faultRead (x0 x1 x2) : Shape.Statement (.faultRead x0 x1 x2) := Shape.of_request _

theorem Shape.faultAck (x0 x1) : Shape.Statement (.faultAck x0 x1) := Shape.of_request _

theorem Shape.rulesSet (x0 x1) : Shape.Statement (.rulesSet x0 x1) := Shape.of_request _

theorem Shape.rulesLock (x0) : Shape.Statement (.rulesLock x0) := Shape.of_request _

theorem Shape.valveOpen (x0 x1) : Shape.Statement (.valveOpen x0 x1) := Shape.of_request _

theorem Shape.nodeReply (x0) : Shape.Statement (.nodeReply x0) := Shape.of_request _

theorem Shape.replyTimeout : Shape.Statement (.replyTimeout) := Shape.of_request _

theorem Shape.slowTimerExpiry (x0) : Shape.Statement (.slowTimerExpiry x0) := Shape.of_request _

theorem Shape.lostTimerExpiry (x0) : Shape.Statement (.lostTimerExpiry x0) := Shape.of_request _

theorem Shape.armTimerExpiry (x0) : Shape.Statement (.armTimerExpiry x0) := Shape.of_request _

theorem Shape.minuteTimerExpiry (x0) : Shape.Statement (.minuteTimerExpiry x0) := Shape.of_request _

theorem Shape.graceTimerExpiry (x0) : Shape.Statement (.graceTimerExpiry x0) := Shape.of_request _

theorem Shape.recoveryWindowExpiry (x0) : Shape.Statement (.recoveryWindowExpiry x0) := Shape.of_request _

theorem Shape.authoriseResult (x0) : Shape.Statement (.authoriseResult x0) := Shape.of_request _

theorem Shape.extendResult (x0) : Shape.Statement (.extendResult x0) := Shape.of_request _

theorem Shape.settleComplete (x0) : Shape.Statement (.settleComplete x0) := Shape.of_request _

theorem Shape.partReleaseComplete (x0) : Shape.Statement (.partReleaseComplete x0) := Shape.of_request _

theorem Shape.contextTakeRequest : Shape.Statement (.contextTakeRequest) := Shape.of_request _

theorem Shape.cacheLookup : Shape.Statement (.cacheLookup) := Shape.of_request _

theorem Shape.sweepStep : Shape.Statement (.sweepStep) := Shape.of_request _

theorem Shape.walkReadDone : Shape.Statement (.walkReadDone) := Shape.of_request _

theorem Shape.accountReadDone : Shape.Statement (.accountReadDone) := Shape.of_request _

theorem Shape.accountWriteDone : Shape.Statement (.accountWriteDone) := Shape.of_request _

theorem Shape.slotReadDone : Shape.Statement (.slotReadDone) := Shape.of_request _

theorem Shape.slotWriteDone : Shape.Statement (.slotWriteDone) := Shape.of_request _

theorem Shape.directoryStoreWriteDone : Shape.Statement (.directoryStoreWriteDone) := Shape.of_request _

theorem Shape.demandTimerExpiry : Shape.Statement (.demandTimerExpiry) := Shape.of_request _

theorem Shape.leakInputChange (x0 x1) : Shape.Statement (.leakInputChange x0 x1) := Shape.of_request _

theorem Shape.debounceExpiry (x0) : Shape.Statement (.debounceExpiry x0) := Shape.of_request _

theorem Shape.storeFailure : Shape.Statement (.storeFailure) := Shape.of_request _

theorem Shape.probeTimerExpiry : Shape.Statement (.probeTimerExpiry) := Shape.of_request _

theorem Shape.probeComplete (x0) : Shape.Statement (.probeComplete x0) := Shape.of_request _

theorem Shape.dayUpdateDone : Shape.Statement (.dayUpdateDone) := Shape.of_request _

theorem Shape.slotRefreshDone : Shape.Statement (.slotRefreshDone) := Shape.of_request _

theorem Shape.scanTransactionDone : Shape.Statement (.scanTransactionDone) := Shape.of_request _

theorem Shape.timebaseMinute : Shape.Statement (.timebaseMinute) := Shape.of_request _

theorem Shape.powerLoss (x0) : Shape.Statement (.powerLoss x0) := Shape.of_request _

end Sys2Proof.Laws
end

