-- ==== Sys2Proof/Laws/Records.lean ====
section
/-! SUPPORT. What one access does with the records of the store: every record but the one it writes reads as before. -/
namespace Sys2Proof.Machine

theorem Fram.sameAt_refl (f : Fram) (n : RecordName) : f.SameAt f n := by
  cases n with
  | segment k => unfold Fram.SameAt; split <;> first | rfl | trivial
  | floors => rfl
  | _ => exact fun _ _ => rfl

/-! ## One record written -/

theorem Fram.setFloors_sameAt (f : Fram) (t : FloorTable) (n : RecordName) (h : n ≠ .floors) : f.SameAt (f.setFloors t) n := by
  cases n with
  | floors => exact absurd rfl h
  | segment k => unfold Fram.SameAt; split <;> first | rfl | trivial
  | _ => exact fun _ _ => rfl

theorem Fram.setFlatPage_sameAt (f : Fram) (p : FlatPageNo) (x : FlatPage) (n : RecordName) (h : n ≠ .flatPage p.1) :
    f.SameAt (f.setFlatPage p x) n := by
  cases n with
  | flatPage k => exact fun q e => Fram.flatPage_setFlatPage_other _ _ fun i => h (by rw [← e, i])
  | segment k => unfold Fram.SameAt; split <;> first | rfl | trivial
  | floors => rfl
  | _ => exact fun _ _ => rfl

theorem Fram.setCardPage_sameAt (f : Fram) (p : CardPageNo) (x : CardPage) (n : RecordName) (h : n ≠ .cardPage p.1) :
    f.SameAt (f.setCardPage p x) n := by
  cases n with
  | cardPage k => exact fun q e => Fram.cardPage_setCardPage_other _ _ fun i => h (by rw [← e, i])
  | segment k => unfold Fram.SameAt; split <;> first | rfl | trivial
  | floors => rfl
  | _ => exact fun _ _ => rfl

theorem Fram.setAccount_sameAt (f : Fram) (a : AccountNo) (x : Account) (n : RecordName) (h : n ≠ .account a.1) :
    f.SameAt (f.setAccount a x) n := by
  cases n with
  | account k => exact fun q e => Fram.account_setAccount_other _ _ fun i => h (by rw [← e, i])
  | segment k => unfold Fram.SameAt; split <;> first | rfl | trivial
  | floors => rfl
  | _ => exact fun _ _ => rfl

theorem Fram.setSlot_sameAt (f : Fram) (m : MachineNo) (x : Slot) (n : RecordName) (h : n ≠ .slot m.1) :
    f.SameAt (f.setSlot m x) n := by
  cases n with
  | slot k => exact fun q e => Fram.slot_setSlot_other _ _ fun i => h (by rw [← e, i])
  | segment k => unfold Fram.SameAt; split <;> first | rfl | trivial
  | floors => rfl
  | _ => exact fun _ _ => rfl

/-- A slot written as it was reads as it did, and so does everything else. -/
theorem Fram.setSlot_same_sameAt (f : Fram) (m : MachineNo) (x : Slot) (h : f.slot m = some x) (n : RecordName) :
    f.SameAt (f.setSlot m x) n := by
  by_cases e : n = .slot m.1
  · subst e
    intro q e
    obtain rfl : q = m := Fin.ext e
    simp [h]
  · exact Fram.setSlot_sameAt _ _ _ _ e

/-! ## Updates of a slot -/

theorem Fram.updateSlot_sameAt (f : Fram) (m : MachineNo) (g : Slot → Slot) (n : RecordName) (h : n ≠ .slot m.1) :
    f.SameAt (f.updateSlot m g).2 n := by
  unfold Fram.updateSlot
  split
  · exact f.sameAt_refl n
  · exact f.setSlot_sameAt _ _ _ h

theorem Fram.copyWith_eq {f : Fram} {m : MachineNo} {x : Slot} {c : SlotCopy} (h : f.slot m = some x) (hc : x.copy = some c) :
    f.copyWith m c.id = some c := by
  simp [Fram.copyWith, h, hc]

/-- A conditional update changes its slot alone, and that only where the condition holds and `g` does not give the copy back. -/
theorem Fram.updateCopyIf_sameAt (f : Fram) (m : MachineNo) (id : Nat) (g : SlotCopy → Option SlotCopy) (n : RecordName)
    (h : ∀ c, f.copyWith m id = some c → n = .slot m.1 → g c = some c) : f.SameAt (f.updateCopyIf m id g).2 n := by
  unfold Fram.updateCopyIf
  split
  · exact f.sameAt_refl n
  · rename_i x hx
    split
    · rename_i c hc
      split
      · rename_i e
        subst e
        by_cases hn : n = .slot m.1
        · dsimp only
          rw [h c (Fram.copyWith_eq hx hc) hn]
          exact f.setSlot_same_sameAt m _ (by rw [hx, ← hc]) n
        · exact f.setSlot_sameAt _ _ _ hn
      · exact f.sameAt_refl n
    · exact f.sameAt_refl n

/-! ## Every access -/

theorem Fram.dayUpdate_sameAt (f : Fram) (u : DayUpdate) (n : RecordName)
    (h : f.target (.dayUpdate u) ≠ some n) : f.SameAt (f.dayUpdate u).2 n := by
  unfold Fram.dayUpdate
  split
  · exact f.sameAt_refl n
  · exact f.sameAt_refl n
  · rename_i p hp
    split
    · exact f.sameAt_refl n
    · rename_i c hc
      split
      · rename_i hl
        split
        · rename_i e
          subst e
          exact f.setCardPage_sameAt _ _ _ fun e => h (by rw [e]; simp [Fram.target, Fram.dayTarget, hp, hc, hl])
        · exact f.sameAt_refl n
      · exact f.sameAt_refl n

/-- Every record but the one an access writes reads as before (R178, R179). -/
theorem Fram.perform_sameAt (f : Fram) (a : Access) (n : RecordName) (h : f.target a ≠ some n) : f.SameAt (f.perform a).2 n := by
  have other {k : RecordName} (e : f.target a = some k) : n ≠ k := fun i => h (by rw [e, i])
  cases a with
  | readSegment k => unfold Fram.perform; split <;> first | exact f.sameAt_refl n | contradiction
  | readFloors | readFlatPage _ | readCardPage _ | readAccount _ | readSlot _ | status => exact f.sameAt_refl n
  | writeOne _ | writeTwo _ | writeThree _ | writeFour _ =>
    cases n with
    | segment k => match k with
      | 0 | 1 | 2 | 3 => first | rfl | exact absurd rfl h
      | _ + 4 => trivial
    | floors => rfl
    | _ => exact fun _ _ => rfl
  | writeFloors _ => exact f.setFloors_sameAt _ _ (other rfl)
  | writeFlatPage _ _ => exact f.setFlatPage_sameAt _ _ _ (other rfl)
  | writeCardPage _ _ => exact f.setCardPage_sameAt _ _ _ (other rfl)
  | writeAccount _ _ => exact f.setAccount_sameAt _ _ _ (other rfl)
  | writeSlot _ _ => exact f.setSlot_sameAt _ _ _ (other rfl)
  | updateFloor _ _ =>
    dsimp only [Fram.perform]
    split
    · exact f.sameAt_refl n
    · exact f.setFloors_sameAt _ _ (other rfl)
  | updateFlat _ _ _ =>
    dsimp only [Fram.perform]
    split
    · exact f.sameAt_refl n
    · exact f.setFlatPage_sameAt _ _ _ (other rfl)
  | updateCard _ _ _ =>
    dsimp only [Fram.perform]
    split
    · exact f.sameAt_refl n
    · exact f.setCardPage_sameAt _ _ _ (other rfl)
  | slotLockout _ _ | slotAppend _ _ | slotMarkAll _ | slotMarkPart _ _ | slotParts _ _ _ =>
    exact f.updateSlot_sameAt _ _ _ (other rfl)
  | slotRemove m id | slotRefresh m id _ _ =>
    exact f.updateCopyIf_sameAt _ _ _ n fun c e i => absurd i (other (by simp [Fram.target, e]))
  | slotRemovePart m id p =>
    refine f.updateCopyIf_sameAt _ _ _ n fun c e i => ?_
    by_cases hp : p.inSlot = true
    · exact absurd i (other (by simp [Fram.target, e, hp]))
    · simp [SlotCopy.removePart, hp]
  | dayUpdate u => exact f.dayUpdate_sameAt u n h

end Sys2Proof.Machine
end

