-- ==== Sys2Proof/Laws/Requests.lean ====
section
/-! SUPPORT. A host request that is served at once: from its owner's answer to the next state of the command. -/
namespace Sys2Proof.Machine

/-- A host request's row offers the request as a good frame. -/
theorem exec_request (c : Instr) (s : State) (tag : Byte) (q : Request) (h : c.request? = some (tag, q)) :
    exec c s = act (fun t => t.request tag q) s := by
  cases c <;> simp only [Instr.request?, Option.some.injEq, Prod.mk.injEq, reduceCtorEq] at h <;> obtain ⟨rfl, rfl⟩ := h <;> rfl

/-- A request that arrives at an empty buffer is served as the current request (R195). -/
theorem State.request_empty (s : State) (tag : Byte) (q : Request) (h : s.host.buffer = []) :
    s.request tag q = (s.withRequest tag q).serve q := by
  simp [State.request, State.offerFrame, h, State.withRequest]

/-- A request that passes steps 2 and 3 of R196 is its owner's. -/
theorem State.request_owner (s : State) (tag : Byte) (q : Request) (h : s.Takes) (hp : Request.passes q = true) :
    s.request tag q = (s.withRequest tag q).own q := by
  rw [s.request_empty tag q h.2.2]
  have hs : (s.withRequest tag q).startingUp = false := h.2.1
  simp [State.serve, hp, hs]

/-- A reply handed over while a frame is the current request. -/
theorem State.reply_eq (u : State) (f : Frame) (st : Status) (res : List Byte) (h : u.host.buffer = [f]) :
    u.reply st res = { u with host := u.host.answering f st res } := by
  cases u
  simp_all [State.reply, HostLink.answering]

/-- What the owner hands over as its reply becomes the command's next state. -/
theorem RepliesFrom.intro {s u : State} {tag : Byte} {q : Request} {c : Instr} {st : Status} {res : List Byte}
    {xs : List Block} {holds : State → Prop} (h : HostLink) (hpow : s.powered = true)
    (hc : exec c s = act (fun t => t.request tag q) s) (hr : s.request tag q = u.reply st res)
    (hu : u.host = { h with buffer := [requestFrame tag q] }) (hs : u.Settled) (hk : Kept (.host :: xs) s u)
    (hh : holds (u.reply st res).conclude) : RepliesFrom h (exec c s) s tag q st res xs holds := by
  have hrep := u.reply_eq (requestFrame tag q) st res (by rw [hu])
  have hset : (u.reply st res).Settled := by rw [hrep]; exact hs
  unfold RepliesFrom
  rw [hc]
  refine leads_act hpow ?_ (by rw [hr]; exact hset) ⟨?_, by rw [hr]; exact hh⟩
  · rw [hr, hrep]
    refine ⟨hk.1, fun b hb => ?_⟩
    have := hk.2 b hb
    cases b <;> first | exact this | simp at hb
  · rw [hr, State.conclude_settled _ hset, hrep, hu]
    rfl

end Sys2Proof.Machine
end

