-- ==== Sys2Proof/Tests/Slice0.lean ====
section
/-! SUPPORT. The model's own tests. Expected values come from the manual's worked examples and tables, named in each test's
docstring; the witnesses show that the premises of the obligations can be met together. -/
namespace Sys2Proof.Tests
open Sys2Proof Sys2Proof.Machine

set_option maxRecDepth 100000

/-! ## Ill-formed commands: one for each check of WellFormed.lean -/

theorem test_wellFormed_items_refused :
    [ConfigItem.site 65536, .surcharge 65536, .cap 65536, .arm 65536, .room 256 0 .off, .room 0 65536 .off,
      .machine 256 0 .washer true, .machine 0 256 .washer true, .programme (.washer 8 0 0 0),
      .programme (.washer 0 65536 0 0), .programme (.washer 0 0 256 0), .programme (.washer 0 0 0 256),
      .programme (.dryer 8 0 0 0 0), .programme (.dryer 0 65536 0 0 0), .programme (.dryer 0 0 256 0 0),
      .programme (.dryer 0 0 0 256 0), .programme (.dryer 0 0 0 0 256), .band 256 0 0, .band 0 65536 0, .band 0 0 65536,
      .tariffGroup 256 0, .tariffGroup 0 65536, .grace 256, .overrun 256, .nodeGrace 256, .pause 256 0, .pause 0 65536,
      .cache ⟨Vector.replicate 4 true, .lru, 256, 1⟩, .cache ⟨Vector.replicate 4 true, .lru, 1, 256⟩,
      .grant .alternate 65536 0 0, .grant .alternate 0 256 0, .grant .alternate 0 0 256].all
      (fun i => !i.wellFormed) = true := by decide

theorem test_wellFormed_windows_refused :
    [(256, WindowItem.mk true 0 0 0 none none .any .free), (0, ⟨true, 65536, 0, 0, none, none, .any, .free⟩),
      (0, ⟨true, 0, 256, 0, none, none, .any, .free⟩), (0, ⟨true, 0, 0, 256, none, none, .any, .free⟩),
      (0, ⟨true, 0, 0, 0, some 255, none, .any, .free⟩), (0, ⟨true, 0, 0, 0, none, some 255, .any, .free⟩),
      (0, ⟨true, 0, 0, 0, none, none, .any, .house 65536⟩)].all
      (fun x => !(Instr.configSetWindow 0 x.1 x.2).wellFormed) = true := by decide

theorem test_wellFormed_requests_refused :
    [Instr.configGet 0 256 0, .configGet 0 0 256, .clockSet 0 65536 0, .clockSet 0 0 65536, .machineQuery 0 256,
      .serviceStart 0 256 0 0, .serviceStart 0 0 256 0, .serviceStart 0 0 0 256, .abort 0 256, .lock 0 256,
      .lockoutClear 0 256, .nodeEnable 0 256, .nodeDisable 0 256, .cacheFlushFloor 0 256, .cacheFlushFlat 0 256 0,
      .cacheFlushFlat 0 0 256, .demandSet 0 65536 0, .demandSet 0 0 65536, .faultRead 0 4294967296 1, .faultRead 0 0 256,
      .faultAck 0 4294967296, .valveOpen 0 256].all
      (fun c => !c.wellFormed) = true := by decide

theorem test_wellFormed_accounts_refused :
    [Instr.accountOpen 0 65536 0 0, .accountOpen 0 0 65536 0, .accountOpen 0 0 0 256, .accountRead 0 65536,
      .accountClose 0 65536, .accountSet 0 65536 (some .opened) none none,
      .accountSet 0 0 none (some 65536) none, .accountSet 0 0 none none (some 256),
      .accountSetEveryField 0 65536 ⟨.opened, 0, 0, 0, 0, 0⟩, .accountSetEveryField 0 0 ⟨.opened, 2147483648, 0, 0, 0, 0⟩,
      .accountSetEveryField 0 0 ⟨.opened, -2147483649, 0, 0, 0, 0⟩, .accountSetEveryField 0 0 ⟨.opened, 0, 65536, 0, 0, 0⟩,
      .accountSetEveryField 0 0 ⟨.opened, 0, 0, 256, 0, 0⟩, .accountSetEveryField 0 0 ⟨.opened, 0, 0, 0, 65536, 0⟩,
      .accountSetEveryField 0 0 ⟨.opened, 0, 0, 0, 0, 65536⟩, .accountCredit 0 65536 1, .accountCredit 0 0 4294967296,
      .accountAdjust 0 65536 1, .accountAdjust 0 0 2147483648, .accountAdjust 0 0 (-2147483649)].all
      (fun c => !c.wellFormed) = true := by decide

theorem test_wellFormed_directory_refused :
    [Instr.directoryRead 0 ⟨.card, 256, 0, 0⟩, .directoryRead 0 ⟨.card, 0, 256, 0⟩, .directoryRead 0 ⟨.card, 0, 0, 256⟩,
      .cardProbe 0 ⟨65536, ⟨0, 0, 0⟩⟩ .washer].all (fun c => !c.wellFormed) = true ∧
    [RawDescriptor.mk .account false noAttributes 65536 0 0 0, ⟨.indirect, false, noAttributes, 0, 256, 0, 0⟩,
      ⟨.indirect, false, noAttributes, 0, 0, 256, 0⟩, ⟨.indirect, false, noAttributes, 0, 0, 0, 256⟩].all
      (fun d => !(Instr.directoryWrite 0 ⟨.card, 0, 0, 0⟩ d).wellFormed) = true := by decide

theorem test_wellFormed_replies_refused :
    (Instr.nodeReply ⟨false, [], 0, 0, ⟨.idle, 65536, .closed, false⟩, none, none⟩).wellFormed = false ∧
    [Report.card ⟨65536, ⟨0, 0, 0⟩⟩ 0 0, .card ⟨0, ⟨0, 0, 0⟩⟩ 256 0, .card ⟨0, ⟨0, 0, 0⟩⟩ 0 65536].all
      (fun x => !(Instr.nodeReply ⟨false, [], 0, 0, ⟨.idle, 0, .closed, false⟩, none, some (x, true)⟩).wellFormed) = true := by
  decide

/-! ## The table's words -/

/-- spec/opcode_table.json gives no row any bits. -/
theorem test_decode_refuses_every_word : decodeTableWord 8 0 = none ∧ decodeTableWord 16 0x7E01 = none := by decide

/-! ## The manual's worked examples -/

/-- 10.1: the CRC-16 of "123456789" is 0x29B1. -/
theorem test_crc16_of_digits :
    crc16Bytes [0x31, 0x32, 0x33, 0x34, 0x35, 0x36, 0x37, 0x38, 0x39] = [0x29#8, 0xB1#8] := by decide

/-- The bands of chapter 6's band selection. -/
def exampleBands : Tariff := { Tariff.initial with bands := #v[⟨360, 1000⟩, ⟨1020, 1200⟩, ⟨1320, 800⟩, ⟨1020, 1300⟩] }

/-- Chapter 6, band selection: minutes 200, 700, 1100 and 1400, and the clock unset. -/
theorem test_band_in_force :
    exampleBands.bandInForce ⟨200, 0, true⟩ = 2 ∧ exampleBands.bandInForce ⟨700, 0, true⟩ = 0 ∧
    exampleBands.bandInForce ⟨1100, 0, true⟩ = 3 ∧ exampleBands.bandInForce ⟨1400, 0, true⟩ = 2 ∧
    exampleBands.bandInForce ⟨1100, 0, false⟩ = 0 := by decide

/-- The tariff of chapter 6's washer that faults. -/
def exampleWasher : Tariff := { Tariff.initial with
  washers := Tariff.initial.washers.set 2 ⟨350, 52, 20⟩
  bands := Tariff.initial.bands.set 0 ⟨0, 1200⟩
  surcharge := 100
  discounts := Tariff.initial.discounts.set 1 150 }

/-- Chapter 6, a washer that faults while waiting for heat: F = 1300, N = H = 387. -/
theorem test_washer_price :
    exampleWasher.priceOf ⟨0, 0, false⟩ true ⟨.washer, 2, 0, false, 1, false⟩ = some ⟨387, 1300, 0, true, 52⟩ := by decide

/-- The same: C = 114 at e = 17 and P = 25; 0 at e = 3; 22 with a grace of 0. -/
theorem test_washer_charge :
    let p : Part := ⟨some 205, .directory, 0, 52, 387, 387, none, 1300, 0, true⟩
    exampleWasher.charge ⟨.washer, 2, .fault (.node .heater), 17, 25, ⟨5, 20, 100⟩⟩ p = 114 ∧
    exampleWasher.charge ⟨.washer, 2, .aborted, 3, 0, ⟨5, 20, 100⟩⟩ p = 0 ∧
    exampleWasher.charge ⟨.washer, 2, .aborted, 3, 0, ⟨0, 20, 100⟩⟩ p = 22 := by decide

/-- The dryer of chapter 6's extension by a second card. -/
def exampleDryer : Tariff := { Tariff.initial with dryers := Tariff.initial.dryers.set 1 ⟨60, 10, 12, 30⟩ }

/-- Chapter 6, a dryer extended by a second card: 240 and 78 at e = 43; 0 and 78 for part 2 at e = 40 and 41; 216 and 141 when
completed with the credit. -/
theorem test_dryer_charges :
    let one : Part := ⟨some 311, .directory, 0, 40, 240, 240, none, 1000, 0, false⟩
    let two : Part := ⟨some 90, .directory, 40, 20, 156, 156, none, 1300, 0, true⟩
    let at_ (e : Nat) : Ending := ⟨.dryer, 1, .fault (.node .motor), e, 0, ⟨5, 20, 100⟩⟩
    let done : Ending := ⟨.dryer, 1, .completed, 60, 30, ⟨5, 20, 100⟩⟩
    exampleDryer.charge (at_ 43) one = 240 ∧ exampleDryer.charge (at_ 43) two = 78 ∧
    exampleDryer.charge (at_ 40) two = 0 ∧ exampleDryer.charge (at_ 41) two = 78 ∧
    exampleDryer.charge done one = 216 ∧ exampleDryer.charge done two = 141 := by decide

/-- Chapter 6, a part at the cap: H = 2500 with U = 360, and 833 at e = 100. -/
theorem test_part_at_cap :
    let t : Tariff := { Tariff.initial with
      dryers := Tariff.initial.dryers.set 5 ⟨500, 30, 12, 30⟩, bands := Tariff.initial.bands.set 0 ⟨0, 2000⟩, surcharge := 500 }
    t.priceOf ⟨0, 0, false⟩ true ⟨.dryer, 5, 12, false, 0, false⟩ = some ⟨2500, 2500, 0, true, 360⟩ ∧
    t.charge ⟨.dryer, 5, .fault (.node .motor), 100, 0, ⟨5, 20, 100⟩⟩
      ⟨none, .directory, 0, 360, 2500, 2500, none, 2500, 0, true⟩ = 833 := by decide

/-- Chapter 6, a completed washer with a long wait: 349, and 387 with P = 20. -/
theorem test_delay_credit :
    let p : Part := ⟨none, .directory, 0, 52, 387, 387, none, 1000, 0, false⟩
    Tariff.initial.charge ⟨.washer, 0, .completed, 52, 30, ⟨5, 20, 100⟩⟩ p = 349 ∧
    Tariff.initial.charge ⟨.washer, 0, .completed, 52, 20, ⟨5, 20, 100⟩⟩ p = 387 := by decide

/-- The unit of chapter 7's two arbitration modes: room 2's queues as its capacity becomes 60. -/
def exampleFeeder (mode : Arbitration) : Feeder := { Feeder.initial with
  mode := mode
  rooms := Feeder.initial.rooms.set 2 ⟨60, [], [⟨21, 20⟩, ⟨22, 20⟩], [⟨20, 30⟩, ⟨25, 30⟩], .resume⟩ }

/-- Chapter 7, the two arbitration modes after a feeder returns. -/
theorem test_arbitration_modes :
    (exampleFeeder .resumeFirst).pass.2 = [20, 25] ∧ (exampleFeeder .alternate).pass.2 = [20, 21] ∧
    (look (exampleFeeder .alternate).pass.1.rooms 2).turn = .resume := by decide

/-- A cache with some of chapter 4's cards A to F installed. -/
def cacheEntry (f : Fin 64) (n : Fin 16) (o : Fin 4) : CacheEntry := ⟨⟨f, n, o⟩, 0, noAttributes, false, none⟩

/-- Chapter 4, filling and replacing one set, under LRU to the install of E. -/
def lruAfterE : Cache :=
  let c := ((Cache.initial.install (cacheEntry 17 2 0)).install (cacheEntry 10 1 0)).install (cacheEntry 2 1 0)
  let c := (c.lookup ⟨17, 2, 0⟩).2
  (c.install (cacheEntry 20 6 1)).install (cacheEntry 30 5 0)

/-- Chapter 4: after E the ways of set 3 hold A, E, C and D, in the order 2, 0, 3, 1. -/
theorem test_lru_victim :
    (look lruAfterE.sets 3).ways.toList.map (fun e => e.map fun x => x.path.floor) = [some 17, some 30, some 2, some 20] ∧
    (look lruAfterE.sets 3).order = [2, 0, 3, 1] := by decide

/-- Chapter 4: with way 2 disabled, F takes way 0 and the order is 2, 3, 1, 0. -/
theorem test_lru_skips_disabled_way :
    let c := (lruAfterE.configure ⟨#v[true, true, false, true], .lru, 2, 4⟩).install (cacheEntry 12 7 0)
    (look c.sets 3).ways.toList.map (fun e => e.map fun x => x.path.floor) = [some 12, some 30, none, some 20] ∧
    (look c.sets 3).order = [2, 3, 1, 0] := by decide

/-! ## Small states -/

/-- The part READY with nothing going on. -/
def ready : State := { State.reset with
  startUp := .ready
  host := { HostLink.initial with sending := none, notices := [] }
  store := { StorePort.initial with queue := [] }
  scan := { Scan.initial with at_ := .off } }

/-- A part of account 1, priced 100, of 30 minutes. -/
def part : Part := ⟨some 1, .directory, 0, 30, 100, 100, none, 1000, 0, false⟩

/-- A running IMMEDIATE session of id 7. -/
def session : Session := { newSession 7 0 .immediate 0 30 [part] with allowance := 15 }

/-- A machine record in a state, with a session or none. -/
def machineIn (st : MachineState) (x : Option Session) : MachineRecord :=
  { MachineRecord.initial with assigned := true, state := st, session := x }

/-- `ready` with machine 0 and its link as given. -/
def with0 (r : MachineRecord) (l : Link) : State := { ready with
  engine := { ready.engine with machines := ready.engine.machines.set 0 r }
  line := { ready.line with links := ready.line.links.set 0 l } }

/-- An ONLINE link with an empty table. -/
def online : Link := { Link.initial with state := .online }

/-- `ready` with a queue of store transactions. -/
def withStore (q : List Transaction) : State := { ready with store := { ready.store with queue := q } }

/-- A state with context 0 as given. -/
def withContext (s : State) (x : Context) : State :=
  { s with payment := { s.payment with contexts := s.payment.contexts.set 0 x } }

/-- A state with a current request, which waits for its reply. -/
def withRequest (s : State) (f : Frame) : State := { s with host := { s.host with buffer := [f] } }

/-- The status of the reply that the transmitter begins. -/
def replied (o : Host.Outcome State Fault Refusal) : Option Byte :=
  match o with
  | .next t => t.host.sending.bind fun f => f.payload.head?
  | _ => none

theorem ready_runs : ready.Runs := ⟨rfl, .inl rfl⟩

theorem ready_takes : ready.Takes := ⟨ready_runs, rfl, rfl⟩

theorem with0_takes (r : MachineRecord) (l : Link) : (with0 r l).Takes := ⟨⟨rfl, .inl rfl⟩, rfl, rfl⟩

theorem with0_others (r : MachineRecord) (l : Link) (m : MachineNo) : (with0 r l).OtherRecovering m := nofun

/-- R103, R113: a released part that the slot was never given takes none from the copy, and one that it was given takes the last. -/
theorem test_released_part_in_slot :
    let copy : SlotCopy := ⟨7, 0, .immediate, 60, 0, 0, [⟨part, false⟩, ⟨part, false⟩]⟩
    let gone (inSlot : Bool) : DeferredPart := ⟨3, some 1, 100, 0, 30, true, false, inSlot⟩
    copy.removePart (gone false) = copy ∧
      copy.removePart (gone true) = { copy with units := 30, parts := [⟨part, false⟩] } := by decide

/-- R153, R157: the minutes reported never exceed the most that can remain, so they do not rise from one report to the next. -/
theorem test_minutes_never_rise (k most : Nat) (h : 0 < most) : 1 ≤ minutesLeft k most ∧ minutesLeft k most ≤ most := by
  have := Nat.mod_lt (Config.demandMinutes k) h
  unfold minutesLeft
  omega

/-! ## Witnesses -/

theorem witness_StepRunsFrontCommand :
    ({ ready with pending := [.hostFrameSent, .softReset] } : State).pending = .hostFrameSent :: [.softReset] ∧
      ready.pending = [] := ⟨rfl, rfl⟩

/-- A day update of account 1 at card 0 of flat 0 on floor 0. -/
def dayOf (day : Nat) : DayUpdate := ⟨⟨0, 0, 0⟩, 1, day⟩

/-- `ready` with two day updates in the list, the refresher's pointer at 60, lockout marks and refresh marks. -/
def marking (lockout refresh : Vector Bool 64) : State := { ready with
  store := { ready.store with dayList := [dayOf 1, dayOf 2], lockoutMarks := lockout, refreshMarks := refresh, pointer := 60 } }

theorem marking_next (a b : Vector Bool 64) :
    (marking a b).store.NextMarked (((Vector.replicate 64 false).set 3 true).set 62 true) 62 := by
  have h : (marking a b).store.pointer = 60 := rfl
  unfold StorePort.NextMarked
  rw [h]
  decide +kernel

theorem witness_QuietIsKept :
    let none : Vector Bool 64 := Vector.replicate 64 false
    (ready.Quiet ∧ step ready = .next ready) ∧
    (∀ a b, (marking a b).storeUp = true ∧ (marking a b).scan.at_ = .off ∧ (marking a b).store.queue = [] ∧
      (marking a b).store.dayList = [dayOf 1, dayOf 2] ∧ (marking a b).store.lockoutMarks = a ∧
      (marking a b).store.refreshMarks = b ∧ (marking a b).store.NextMarked ((none.set 3 true).set 62 true) 62) ∧
    (∀ k, look none k = false) ∧ State.reset.scan.at_ ≠ .off :=
  ⟨⟨⟨by decide, by decide, by decide, .inl rfl, fun _ _ => ⟨.inl rfl,
      .inl fun _ => ⟨Vector.getElem_replicate _, Vector.getElem_replicate _⟩⟩⟩, rfl⟩,
    fun a b => ⟨rfl, rfl, rfl, rfl, rfl, rfl, marking_next a b⟩, fun _ => Vector.getElem_replicate _, nofun⟩

/-- R180, R181: the oldest day update goes first, then the lockout mark next from the pointer on, before any refresh mark. -/
theorem test_own_issues :
    let marks : Vector Bool 64 := ((Vector.replicate 64 false).set 3 true).set 62 true
    let p := (marking marks ((Vector.replicate 64 false).set 61 true)).issueOwn.store
    p.queue = [⟨.dayList, .dayUpdate (dayOf 1)⟩, ⟨.refresher 62 true, .slotLockout 62 none⟩] ∧ p.dayList = [dayOf 2] ∧
      p.pointer = 63 ∧ look p.lockoutMarks 62 = false ∧ look p.lockoutMarks 3 = true ∧ look p.refreshMarks 61 = true := by
  decide +kernel

/-- A store with a floor table, flat-table page 63, card-table page 511 and slot 63. -/
def written (tab : FloorTable) (flats : FlatPage) (cards : CardPage) (x : Slot) : Fram :=
  (((Fram.blank.setFloors tab).setFlatPage 63 flats).setCardPage 511 cards).setSlot 63 x

theorem witness_StoreFormIsKept :
    let tab : FloorTable := (Vector.replicate 64 ⟨none, false⟩).set 63 ⟨some 63, false⟩
    let flats : FlatPage := (Vector.replicate 16 ⟨none, false⟩).set 15 ⟨some 511, false⟩
    let card : CardDescriptor := .account 1 ⟨false, false, false, false⟩ false false 0
    (ready.fram.wf = true ∧ step ready = .next ready) ∧
    (∀ cards x, (written tab flats cards x).floorTable = some tab ∧ (written tab flats cards x).flatPage 63 = some flats ∧
      (written tab flats cards x).cardPage 511 = some cards ∧ (written tab flats cards x).slot 63 = some x) ∧
    (look tab 63).page = some 63 ∧ (look tab 0).page = none ∧ (look flats 15).page = some 511 ∧ (look flats 0).page = none ∧
    (∀ cards : CardPage, look (cards.set 3 card) 3 = card) ∧
    Fram.blank.floorTable = none ∧ Fram.blank.flatPage 63 = none ∧ Fram.blank.cardPage 511 = none ∧ Fram.blank.slot 63 = none ∧
    LastReleased (some 1) part.hold part.units [⟨part, false⟩, ⟨part, false⟩] [⟨part, false⟩] ⟨part, false⟩ [] :=
  ⟨⟨by decide, rfl⟩, fun _ _ => ⟨checked_make _ _, Fram.flatPage_setFlatPage _ _ _, Fram.cardPage_setCardPage _ _ _,
      Fram.slot_setSlot _ _ _⟩, by decide, by decide, by decide, by decide, fun _ => Vector.getElem_set_self _, rfl, rfl, rfl, rfl,
    rfl, ⟨rfl, rfl, rfl⟩, nofun⟩

theorem witness_MinuteStaysInRange :
    let s : State := { ready with clock := ⟨1439, 65535, true⟩ }
    s.clock.minute ≤ 1439 ∧ step s = .next s := ⟨by decide, rfl⟩

theorem witness_RuleLockOutlastsAllButPower :
    let s : State := { ready with supervisor := { ready.supervisor with ruleLock := true } }
    Instr.softReset ≠ .powerOnReset ∧ (∀ cut, Instr.softReset ≠ .powerLoss cut) ∧ s.supervisor.ruleLock = true ∧
      ∃ t, exec .softReset s = .next t := ⟨nofun, nofun, rfl, _, rfl⟩

theorem witness_RequestFrameReadsBack :
    (Instr.clockSet 255 65535 65535).request? = some (255, .clockSet 65535 65535) ∧
      (Instr.clockSet 255 65535 65535).wellFormed = true := ⟨rfl, by decide⟩

theorem witness_WireBytesOfferFrame :
    ready.host.receiver = .hunt ∧ (Frame.mk 1 9 (List.replicate 248 0)).payload.length ≤ 248 := by decide

/-- `ready` with the receiver in a state. -/
def receiving (r : Receiver) : State := { ready with host := { ready.host with receiver := r } }

theorem witness_ReceiverTakesByteAndGap :
    (∀ r, (receiving r).Runs) ∧
      (let taken : List Byte := [1, 9]; taken.length + 1 < (2#8).toNat + 2) ∧
      (let taken : List Byte := [1, 9, 0]; (2#8).toNat + 2 ≤ taken.length + 1 ∧
        crc16Bytes (2#8 :: (taken ++ [0#8]).take (2#8).toNat) ≠ (taken ++ [0#8]).drop (2#8).toNat) :=
  ⟨fun _ => ⟨rfl, .inl rfl⟩, by decide, by decide⟩

theorem witness_RequestsWaitOrAreRefused :
    let g : Frame := ⟨1, 0, []⟩
    let two : State := { ready with host := { ready.host with buffer := [g, g] } }
    let starting : State := { ready with startUp := .scanning }
    (Instr.budgetQuery 3).request? = some (3, .budgetQuery) ∧ (withRequest ready g).Runs ∧
      (withRequest ready g).host.buffer = [g] ∧ two.Runs ∧ 2 ≤ two.host.buffer.length ∧
      (Instr.configGet 3 19 0).request? = some (3, .configGet 19 0) ∧ Request.passes (.configGet 19 0) = false ∧
      starting.Runs ∧ starting.host.buffer = [] ∧ Request.passes .budgetQuery = true ∧
      (starting.startUp = .starting ∨ starting.startUp = .scanning) ∧ Request.budgetQuery ≠ .identify ∧
      ∀ m d, Request.budgetQuery ≠ .clockSet m d :=
  ⟨rfl, ⟨rfl, .inl rfl⟩, rfl, ⟨rfl, .inl rfl⟩, by decide, rfl, by decide, ⟨rfl, .inl rfl⟩, rfl, by decide, .inr rfl, nofun,
    nofun⟩

theorem witness_FrameEndServesNext :
    let notice : Frame := ⟨0x47, 0, [0, 0]⟩
    let reply : Frame := ⟨0x81, 4, [0]⟩
    let reset : Frame := ⟨0x86, 4, [0]⟩
    let sends (f : Frame) (b : List Frame) : State :=
      { ready with host := { ready.host with sending := some f, buffer := b } }
    (∀ f b, (sends f b).Runs) ∧ notice.type.msb = false ∧ reply.type.msb = true ∧
      ¬ (reply.type = 0x86#8 ∧ reply.payload.head? = some 0#8) ∧
      (sends reply [reply, requestFrame 5 .rulesLock]).host.buffer = [reply, requestFrame 5 .rulesLock] ∧
      (Instr.rulesLock 5).request? = some (5, .rulesLock) ∧ (Instr.rulesLock 5).wellFormed = true ∧
      reset.type = 0x86#8 ∧ reset.payload.head? = some 0#8 :=
  ⟨fun _ _ => ⟨rfl, .inl rfl⟩, by decide, by decide, by decide, rfl, rfl, by decide, by decide, by decide⟩

theorem witness_TransmitterAndNoticeQueue :
    let h := ready.host
    h.sending = none ∧ ({ h with ready := some ⟨0x81, 0, [0]⟩ } : HostLink).ready = some ⟨0x81, 0, [0]⟩ ∧ h.ready = none ∧
      h.notices = [] ∧ ({ h with notices := [.overrun 2, .overrun 3] } : HostLink).notices = .overrun 2 :: [.overrun 3] :=
  ⟨rfl, rfl, rfl, rfl, rfl⟩

theorem witness_IdentifyReports : State.reset.Runs ∧ State.reset.host.buffer = [] := ⟨⟨rfl, .inl rfl⟩, rfl⟩

theorem witness_TimebaseIsSetAndAdvances :
    let s : State := { State.reset with clock := ⟨1439, 65535, false⟩ }
    s.Runs ∧ s.host.buffer = [] ∧ s.clock.minute ≤ 1439 ∧ s.clock.day ≤ 65535 ∧
      replied (exec (.clockSet 1 1439 65535) ready) = some 0 ∧
      replied (exec (.clockSet 1 1440 0) ready) = some (Byte.ofNat Status.badArgument.code) :=
  ⟨⟨rfl, .inl rfl⟩, rfl, by decide +kernel, by decide +kernel, by decide +kernel, by decide +kernel⟩

theorem witness_ResetKeepsClockAndLock :
    let f : Frame := ⟨0x86, 4, [0]⟩
    let s : State := { ready with host := { ready.host with sending := some f } }
    ready.Takes ∧ s.powered = true ∧ s.host.sending = some f ∧ f.type = 0x86#8 ∧ f.payload.head? = some 0#8 :=
  ⟨ready_takes, rfl, rfl, rfl, rfl⟩

theorem witness_PowerLossKeepsStoreOnly :
    ready.powered = true ∧ Instr.softReset ≠ .powerOnReset ∧ ∀ r b, Instr.softReset ≠ .leakInputChange r b :=
  ⟨rfl, nofun, nofun⟩

/-- Statuses of CONFIG_SET at both ends of each range of the tariff's items, and just outside. -/
theorem witness_TariffItemsAreSet :
    ready.Takes ∧
    ([.configSetBand 0 3 1439 2000, .configSetTariffGroup 0 7 1000, .configSetPause 0 60 500, .configSetCap 0 100].all fun c =>
        replied (exec c ready) == some 0) = true ∧
    ([.configSetBand 0 0 1440 500, .configSetBand 0 0 0 499, .configSetSurcharge 0 501, .configSetGrace 0 16,
      .configSetCap 0 5001].all fun c =>
        replied (exec c ready) == some (Byte.ofNat Status.badArgument.code)) = true ∧
    (let s := with0 (machineIn .running (some { session with parts := [{ part with hold := 2500 }] })) online;
      s.Takes ∧ 100 ≤ 2000 ∧ 2000 ≤ 5000 ∧ 2000 < s.tariff.cap ∧ 2000 < s.largestHold) :=
  ⟨ready_takes, by decide +kernel, by decide +kernel, with0_takes _ _, by decide +kernel, by decide +kernel, by decide +kernel, by decide +kernel⟩

theorem witness_ProgrammeIsSet :
    ready.Takes ∧ (with0 (machineIn .running (some session)) online).Takes ∧
    ([ProgrammeItem.washer 7 2000 240 60, .dryer 0 0 5 1 0].all fun p =>
      replied (exec (.configSetProgramme 0 p) ready) == some 0) = true ∧
    ([ProgrammeItem.washer 0 0 9 0, .washer 0 0 10 61, .dryer 8 0 5 1 0, .dryer 0 0 5 13 0].all fun p =>
      replied (exec (.configSetProgramme 0 p) ready) == some (Byte.ofNat Status.badArgument.code)) = true ∧
    replied (exec (.configSetProgramme 0 (.washer 0 100 30 20)) (with0 (machineIn .running (some session)) online)) =
      some (Byte.ofNat Status.busy.code) :=
  ⟨ready_takes, with0_takes _ _, by decide +kernel, by decide +kernel, by decide +kernel⟩

theorem witness_SessionAndDirectoryItemsAreSet :
    ready.Takes ∧
    ([.configSetArm 0 10, .configSetOverrun 0 60, .configSetNodeGrace 0 30, .configSetWindow 0 3 ⟨true, 1, 63, 63, some 15, some 3, .any, .house 1023⟩].all fun c =>
        replied (exec c ready) == some 0) = true ∧
    ([.configSetArm 0 9, .configSetOverrun 0 61, .configSetNodeGrace 0 0,
      .configSetWindow 0 0 ⟨true, 1, 5, 4, none, none, .any, .free⟩,
      .configSetWindow 0 0 ⟨true, 1, 0, 63, some 16, none, .any, .free⟩,
      .configSetWindow 0 0 ⟨true, 1, 0, 63, none, none, .any, .house 1024⟩].all fun c =>
        replied (exec c ready) == some (Byte.ofNat Status.badArgument.code)) = true :=
  ⟨ready_takes, by decide +kernel, by decide +kernel⟩

theorem witness_CacheItemIsSet :
    ready.Takes ∧
    replied (exec (.configSetCache 0 ⟨Vector.replicate 4 false, .lru, 1, 16⟩) ready) = some 0 ∧
    ([(0, 1), (1, 17)].all fun x =>
      replied (exec (.configSetCache 0 ⟨Vector.replicate 4 true, .lru, x.1, x.2⟩) ready) ==
        some (Byte.ofNat Status.badArgument.code)) = true :=
  ⟨ready_takes, by decide +kernel, by decide +kernel⟩

theorem witness_LampAndMaskAreSet : ready.Takes := ready_takes

theorem witness_FeederItemsAreSet :
    ready.Takes ∧ ready.feeder.Consistent ∧ ready.feeder.low < ready.feeder.high ∧
    ([.configSetRoom 0 3 600 .off, .configSetGrant 0 .alternate 2000 64 63, .configSetGrant 0 .alternate 300 1 0].all fun c =>
      replied (exec c ready) == some 0) = true ∧
    (300 = ready.feeder.limit ∧ 2000 ≠ ready.feeder.limit) ∧
    ([.configSetRoom 0 0 601 .off, .configSetGrant 0 .alternate 2001 64 63, .configSetGrant 0 .alternate 0 5 5].all fun c =>
      replied (exec c ready) == some (Byte.ofNat Status.badArgument.code)) = true := by
  refine ⟨ready_takes, ?_, by decide, by decide +kernel, by decide, by decide +kernel⟩
  unfold Feeder.Consistent
  decide

/-- `with0` with a link DISABLED and emptied. -/
theorem witness_MachineItemIsSet :
    (∀ r l m, (with0 r l).Takes ∧ (with0 r l).OtherRecovering m) ∧
    (let s := with0 MachineRecord.initial Link.initial; (s.machine 0).state = .unassigned ∧
      (s.link 0).state = .disabled ∧ s.startUp ≠ .notConfigured) ∧
    ((with0 (machineIn .idle none) online).machine 0).state ≠ .unassigned ∧
    ((with0 (machineIn .running (some session)) online).machine 0).state = .running ∧
    (let s : State := { ready with startUp := .notConfigured }; s.Takes ∧ s.OtherRecovering 0 ∧
      (s.machine 0).state = .unassigned) ∧
    replied (exec (.configSetMachine 0 63 3 .dryer true) ready) = some 0 ∧
    replied (exec (.configSetMachine 0 64 3 .dryer true) ready) = some (Byte.ofNat Status.badArgument.code) :=
  ⟨fun r l m => ⟨with0_takes r l, with0_others r l m⟩, by decide +kernel, by decide +kernel, by decide +kernel,
    ⟨⟨⟨rfl, .inl rfl⟩, rfl, rfl⟩, nofun, rfl⟩, by decide +kernel, by decide +kernel⟩

theorem witness_ConfigGetAnswersItem :
    ready.Takes ∧ ((4 : Nat) ∈ [2, 3, 4, 5, 6, 14] ∧ 135 < 136) ∧ replied (exec (.configGet 0 4 135) ready) = some 0 ∧
    replied (exec (.configGet 0 4 136) ready) = some (Byte.ofNat Status.badArgument.code) ∧
    replied (exec (.configGet 0 4 8) ready) = some (Byte.ofNat Status.badArgument.code) :=
  ⟨ready_takes, by decide, by decide +kernel, by decide +kernel, by decide +kernel⟩

theorem witness_SaveWritesFourSegments :
    let down : State := { ready with store := { ready.store with state := .down, queue := [] } }
    let saving (k : Fin 4) : State := { withRequest ready ⟨4, 1, []⟩ with
      store := { ready.store with
        saving := some ⟨ready.configBlock, k⟩, queue := [⟨.configWriter, .writeOne ready.configBlock.one⟩] } }
    ready.Takes ∧ ready.storeUp = true ∧ down.Takes ∧ down.storeUp = false ∧
      (∀ k, (saving k).Runs ∧ (saving k).storeUp = true ∧
        (saving k).store.queue = [⟨.configWriter, .writeOne ready.configBlock.one⟩] ∧
        (saving k).store.saving = some ⟨ready.configBlock, k⟩ ∧ (saving k).host.buffer = [⟨4, 1, []⟩]) ∧
      ((1 : Fin 4).1 = (0 : Fin 4).1 + 1 ∧ (3 : Fin 4).1 = (2 : Fin 4).1 + 1) :=
  ⟨ready_takes, rfl, ⟨⟨rfl, .inr (by decide)⟩, rfl, rfl⟩, rfl, fun _ => ⟨⟨rfl, .inl rfl⟩, rfl, rfl, rfl, rfl⟩, by decide⟩

theorem witness_MachineQueryReports :
    (with0 (machineIn .running (some session)) online).Takes ∧ 63 < 64 ∧
      replied (exec (.machineQuery 0 63) ready) = some 0 ∧
      replied (exec (.machineQuery 0 64) ready) = some (Byte.ofNat Status.badArgument.code) :=
  ⟨with0_takes _ _, by decide, by decide +kernel, by decide +kernel⟩

theorem witness_ServiceStartArms :
    let s := with0 (machineIn .idle none) online
    let dryer := with0 { machineIn .idle none with cls := .dryer } online
    let shut : State := { s with supervisor := { s.supervisor with
      rooms := s.supervisor.rooms.set 0 { RoomGuard.initial with closed := true } } }
    s.Takes ∧ s.OtherRecovering 0 ∧ dryer.Takes ∧ shut.Takes ∧ (shut.guard (shut.machine 0).room).closed = true ∧
      (s.machine 0).state = .idle ∧ (s.guard (s.machine 0).room).closed = false ∧
      replied (exec (.serviceStart 0 0 7 0) s) = some 0 ∧
      replied (exec (.serviceStart 0 0 8 0) s) = some (Byte.ofNat Status.badArgument.code) ∧
      replied (exec (.serviceStart 0 0 0 1) dryer) = some 0 ∧
      replied (exec (.serviceStart 0 0 0 2) dryer) = some (Byte.ofNat Status.badArgument.code) ∧
      replied (exec (.serviceStart 0 0 0 1) shut) = some (Byte.ofNat Status.refusedState.code) :=
  ⟨with0_takes _ _, nofun, with0_takes _ _, ⟨⟨rfl, .inl rfl⟩, rfl, rfl⟩, by decide +kernel, by decide +kernel,
    by decide +kernel, by decide +kernel, by decide +kernel, by decide +kernel, by decide +kernel, by decide +kernel⟩

theorem witness_AbortEndsSession :
    let s (st : MachineState) (x : Session) := with0 (machineIn st (some x)) online
    (∀ st x, (s st x).Takes ∧ (s st x).OtherRecovering 0) ∧ ((s .armed session).machine 0).state = .armed ∧
      ((s .running session).machine 0).session = some session ∧ session.parts ≠ [] ∧
      ((s .running session).link 0).state ≠ .disabled ∧ ((s .running session).machine 0).outstanding = .none ∧
      ({ session with parts := [] } : Session).parts = [] ∧ look (s .running session).supervisor.ending 0 = none ∧
      ((with0 { machineIn .running (some session) with outstanding := .extend } online).machine 0).outstanding ≠ .none :=
  ⟨fun _ _ => ⟨with0_takes _ _, nofun⟩, by decide +kernel, by decide +kernel, by decide, by decide +kernel,
    by decide +kernel, rfl, by decide +kernel, by decide +kernel⟩

/-- A full log: 79 records alike, and one more after them; machine 63's locking record is number 9 and room 3's closing record number 8. -/
def full (x y : FaultRecord) : Supervisor := { ready.supervisor with
  log := List.replicate 79 x ++ [y], locking := ready.supervisor.locking.set 63 (some 9)
  rooms := ready.supervisor.rooms.set 3 { RoomGuard.initial with closing := some 8 } }

/-- A record with a number, a severity and an acknowledgement. -/
def numbered (n : Nat) (sev : Severity) (acked : Bool) : FaultRecord := ⟨n, 0, 0, .part, .leak, sev, .none, none, acked⟩

/-- R166: what a full log discards, level by level of its search, the record it names standing last. -/
theorem test_full_log_discards :
    let kept (x y : FaultRecord) : Bool := (full x y).makeRoom.log == List.replicate 79 x
    let same (x y : FaultRecord) : Bool := (full x y).makeRoom.log == (full x y).log
    [kept (numbered 9 .lockout true) (numbered 5 .lockout true), kept (numbered 5 .stop false) (numbered 6 .note false),
      kept (numbered 5 .lockout false) (numbered 6 .stop false), kept (numbered 8 .room false) (numbered 6 .lockout false),
      same (numbered 8 .room true) (numbered 9 .lockout false)] = List.replicate 5 true := by decide +kernel

theorem witness_LockLocksOut_full :
    (∀ x y, (full x y).log.length = 80 ∧ look (full x y).locking 63 = some 9 ∧ (look (full x y).rooms 3).closing = some 8) ∧
    (∀ m, m ≠ 63 → look (full (numbered 5 .note false) (numbered 5 .note false)).locking m = none) ∧
    (∀ r, r ≠ 3 → (look (full (numbered 5 .note false) (numbered 5 .note false)).rooms r).closing = none) :=
  ⟨fun _ _ => ⟨by simp [full], rfl, rfl⟩, by decide +kernel, by decide +kernel⟩

theorem witness_LockLocksOut :
    (∀ st, (with0 (machineIn st none) online).Takes ∧ (with0 (machineIn st none) online).OtherRecovering 0 ∧
      ((with0 (machineIn st none) online).machine 0).state = st ∧
      ((with0 (machineIn st none) online).machine 0).session = none) ∧
    ((with0 (machineIn .idle none) online).link 0).state ≠ .disabled ∧ ready.supervisor.log.length < 80 ∧
    (let s := with0 (machineIn .armed (some session)) online; s.Takes ∧ s.OtherRecovering 0 ∧
      (s.machine 0).state = .armed ∧ (s.machine 0).session = some session ∧ session.parts ≠ [] ∧
      (s.machine 0).outstanding = .none ∧ s.supervisor.log.length < 80) :=
  ⟨fun _ => ⟨with0_takes _ _, nofun, rfl, rfl⟩, by decide +kernel, by decide,
    with0_takes _ _, nofun, rfl, rfl, by decide, rfl, (by decide : 0 < 80)⟩

/-- A LOCKED_OUT machine 0 whose locking record stands in the log, acknowledged or not. -/
def locked (acknowledged : Bool) : State :=
  let s := with0 { machineIn .lockedOut none with lockout := some .operatorLock } online
  { s with supervisor := { s.supervisor with
    log := [⟨1, 0, 0, .machine 0, .operatorLock, .lockout, .none, none, acknowledged⟩], counter := 1
    locking := s.supervisor.locking.set 0 (some 1) } }

theorem witness_LockoutClearFrees :
    (∀ a, (locked a).Takes ∧ (locked a).OtherRecovering 0 ∧ ((locked a).machine 0).state = .lockedOut ∧
      ((locked a).link 0).state ≠ .disabled ∧ look (locked a).supervisor.locking 0 = some 1) ∧
    replied (exec (.lockoutClear 0 0) (locked true)) = some 0 ∧
    replied (exec (.lockoutClear 0 0) (locked false)) = some (Byte.ofNat Status.notAcknowledged.code) :=
  ⟨fun a => ⟨⟨⟨rfl, .inl rfl⟩, rfl, rfl⟩, nofun, rfl, nofun, rfl⟩, by decide +kernel, by decide +kernel⟩

theorem witness_NodeSwitchesLink :
    (∀ st l, (with0 (machineIn st none) l).Takes ∧ (with0 (machineIn st none) l).OtherRecovering 0 ∧
      ((with0 (machineIn st none) l).machine 0).state = st ∧ (with0 (machineIn st none) l).link 0 = l) ∧
    MachineState.idle ∈ [.idle, .done, .offline, .lockedOut] ∧
    replied (exec (.nodeEnable 0 63) ready) = some (Byte.ofNat Status.refusedState.code) ∧
    replied (exec (.nodeDisable 0 64) ready) = some (Byte.ofNat Status.badArgument.code) :=
  ⟨fun _ _ => ⟨with0_takes _ _, nofun, rfl, rfl⟩, by decide, by decide +kernel, by decide +kernel⟩

theorem witness_DirectoryRequestsQueue :
    let d : RawDescriptor := ⟨.account, true, ⟨true, true, true, false⟩, 1023, 0, 0, 0⟩
    let down : State := { ready with store := { ready.store with state := .down } }
    ready.Takes ∧ ready.storeUp = true ∧ down.Takes ∧ down.storeUp = false ∧
      (d.kind = .account ∧ d.account = (1023 : AccountNo).1 ∧
        ¬ (d.attributes.washersOnly = true ∧ d.attributes.dryersOnly = true)) ∧
      (Request.passes (.directoryRead ⟨.floor, 64, 0, 0⟩) = true ∧ 63 < 64) ∧
      replied (exec (.directoryWrite 0 ⟨.card, 63, 15, 3⟩ { d with account := 1024 }) ready) =
        some (Byte.ofNat Status.badArgument.code) ∧
      replied (exec (.directoryRead 0 ⟨.flat, 63, 16, 0⟩) ready) = some (Byte.ofNat Status.badArgument.code) ∧
      replied (exec (.directoryRead 0 ⟨.flat, 63, 15, 0⟩) down) = some (Byte.ofNat Status.storeUnavailable.code) :=
  ⟨ready_takes, rfl, ⟨⟨rfl, .inr (by decide)⟩, rfl, rfl⟩, rfl, by decide, by decide, by decide +kernel, by decide +kernel,
    by decide +kernel⟩

theorem witness_AccountRequestsQueue :
    ready.Takes ∧ ready.startUp ≠ .notConfigured ∧ ready.storeUp = true ∧ ((1023 : AccountNo).1 = 1023 ∧ 1023 < 1024) ∧
      ([.accountRead 0 1023, .accountCredit 0 1023 100000, .accountAdjust 0 0 (-100000), .accountOpen 0 0 10000 7].all
        fun c => replied (exec c ready) == none) = true ∧
      ([.accountRead 0 1024, .accountCredit 0 0 0, .accountCredit 0 0 100001, .accountAdjust 0 0 0,
        .accountOpen 0 0 10000 8, .accountSetEveryField 0 0 ⟨.opened, 1000000, 0, 0, 0, 0⟩].all
        fun c => replied (exec c ready) == some (Byte.ofNat Status.badArgument.code)) = true :=
  ⟨ready_takes, nofun, rfl, by decide, by decide +kernel, by decide +kernel⟩

/-- `ready` with some sweeps waiting. -/
def sweeping (w : List Sweep) : State := { ready with cache := { ready.cache with sweepQueue := w } }

theorem witness_FlushInvalidates :
    (∀ w, (sweeping w).Takes) ∧ Sweep.floor 63 ∈ (sweeping [.floor 63]).cache.sweepQueue ∧
      (Sweep.floor 63 ∉ (sweeping [.floor 1, .floor 2, .floor 3]).cache.sweepQueue ∧
        (sweeping [.floor 1, .floor 2, .floor 3]).cache.sweepQueue.length < 4) ∧
      (Sweep.floor 63 ∉ (sweeping [.floor 1, .floor 2, .floor 3, .floor 4]).cache.sweepQueue ∧
        4 ≤ (sweeping [.floor 1, .floor 2, .floor 3, .floor 4]).cache.sweepQueue.length) ∧
      replied (exec (.cacheFlushFlat 0 63 16) ready) = some (Byte.ofNat Status.badArgument.code) :=
  ⟨fun _ => ⟨⟨rfl, .inl rfl⟩, rfl, rfl⟩, by decide, by decide, by decide, by decide +kernel⟩

theorem witness_SweepStepInvalidatesSet :
    (∀ k, let s : State := { ready with cache := { ready.cache with access := some .sweep, inFlight := some (.floor 0, k) } };
      s.Runs ∧ s.cache.access = some .sweep ∧ s.cache.inFlight = some (.floor 0, k)) ∧
    (ready.Runs ∧ ready.cache.access ≠ some .sweep) ∧
    -- R87's rows: a burst not yet used up, used up, and no competition
    (let c (p : CachePhase) (run : Nat) (l : List ContextNo) (w : List Sweep) : Cache := { ready.cache with
        phase := p, run := run, lookups := l, sweepQueue := w };
      (∀ p run l w, (c p run l w).access = none ∧ (c p run l w).phase = p) ∧ 3 < (c .lookup 3 [0] [.floor 0]).lookupBurst ∧
        ¬ 4 < (c .lookup 4 [0] [.floor 0]).lookupBurst ∧ 1 < (c .sweep 1 [0] [.floor 0]).sweepBurst ∧
        ¬ 2 < (c .sweep 2 [0] [.floor 0]).sweepBurst ∧ (c .lookup 9 [0] []).inFlight = none ∧
        (c .lookup 0 [] []).lookups = [] ∧ (c .lookup 0 [] []).sweepQueue = []) :=
  ⟨fun _ => ⟨⟨rfl, .inl rfl⟩, rfl, rfl⟩, ⟨ready_runs, by decide⟩, ⟨fun _ _ _ _ => ⟨rfl, rfl⟩, by decide⟩⟩

/-- R87: with both sides waiting the array takes lookups up to the lookup burst, then sweep steps up to the sweep burst. -/
theorem test_bursts_alternate :
    let c (p : CachePhase) (run : Nat) : Cache :=
      ({ ready.cache with phase := p, run := run, lookups := [0], sweepQueue := [.floor 0] } : Cache).arbitrate
    (c .lookup 3).access = some .lookup ∧ (c .lookup 3).run = 4 ∧ (c .lookup 4).access = some .sweep ∧ (c .lookup 4).run = 1 ∧
    (c .sweep 1).access = some .sweep ∧ (c .sweep 1).inFlight = some (.floor 0, 0) ∧ (c .sweep 2).access = some .lookup ∧
    (c .sweep 2).run = 1 := by decide

/-- A probe of card 1/0/0/0 that waits for the cache, which holds its entry or not. -/
def probing (entry : Option CacheEntry) : State :=
  let s := withContext (withRequest ready ⟨0x22, 1, []⟩) ⟨some (.probe ⟨1, ⟨0, 0, 0⟩⟩ .washer), .lookup, false⟩
  { s with cache := { s.cache with
    access := some .lookup, lookups := [0]
    sets := s.cache.sets.set 0 { CacheSet.initial with ways := CacheSet.initial.ways.set 2 entry } } }

theorem witness_LookupIsJudged :
    let e := cacheEntry 0 0 0
    (∀ x, (probing x).Runs ∧ (probing x).cache.access = some .lookup ∧ (probing x).cache.lookups = 0 :: [] ∧
      (probing x).context 0 = ⟨some (.probe ⟨1, ⟨0, 0, 0⟩⟩ .washer), .lookup, false⟩ ∧
      (probing x).host.buffer = [⟨0x22, 1, []⟩] ∧ (probing x).storeUp = true) ∧
    (look (probing (some e)).cache.sets (CardPath.set ⟨0, 0, 0⟩)).find ⟨0, 0, 0⟩ = some 2 ∧
    look (look (probing (some e)).cache.sets (CardPath.set ⟨0, 0, 0⟩)).ways 2 = some e ∧
    ((probing (some e)).cache.targets.all fun x => !x.matches e) = true ∧
    (look (probing none).cache.sets (CardPath.set ⟨0, 0, 0⟩)).find ⟨0, 0, 0⟩ = none :=
  ⟨fun _ => ⟨⟨rfl, .inl rfl⟩, rfl, rfl, rfl, rfl, rfl⟩, by decide, by decide, by decide, by decide⟩

/-- A unit with no room that heats has no head that fits. -/
theorem ready_drained : ready.feeder.Drained := (Feeder.drained_iff _).mpr (by decide)

/-- Chapter 7's modes: the first visit that grants is the one to room 2, and grants dryer 20 from RESUME; after that grant ALTERNATE
takes washer 21 from NEW. -/
theorem witness_FeederBoundsAreKept :
    (exampleFeeder .alternate).Bounded ∧ ready.feeder.Drained ∧
    (let f := exampleFeeder .alternate;
      (∀ k p d, (k - (f.pointer + 1)).1 < ((2 : RoomNo) - (f.pointer + 1)).1 → ¬ f.HeadFits k p d) ∧
        f.VisitGrants 2 .resume ⟨20, 30⟩ ∧ (f.afterGrant 2 .resume ⟨20, 30⟩).VisitGrants 2 .new ⟨21, 20⟩) ∧
    (exampleFeeder .resumeFirst).VisitGrants 2 .resume ⟨20, 30⟩ := by
  refine ⟨by unfold Feeder.Bounded; decide, ready_drained, ⟨fun k p d hk h => ?_, ?_, ?_⟩, ?_⟩
  · have one : ∀ j : RoomNo, (j - (Feeder.initial.pointer + 1)).1 < ((2 : RoomNo) - (Feeder.initial.pointer + 1)).1 → j = 1 := by
      decide
    obtain rfl := one k hk
    cases p <;> exact absurd h.1 nofun
  all_goals exact ⟨by unfold Feeder.HeadFits; decide, .inl rfl⟩

/-- The unit of chapter 7's demand limit over the evening peak, with a demand limit and a capacity of room 0. -/
def peak (limit capacity : Nat) : Feeder := { Feeder.initial with
  rooms := (Feeder.initial.rooms.set 0 ⟨capacity, [⟨2, 20⟩, ⟨10, 30⟩, ⟨3, 20⟩, ⟨11, 30⟩], [], [], .resume⟩).set 1
    ⟨120, [⟨12, 20⟩, ⟨40, 30⟩, ⟨41, 30⟩], [], [], .resume⟩
  order := [2, 12, 10, 40, 3, 11, 41], pointer := 1, limit := 300, demand := some ⟨limit, 60⟩ }

/-- The dryers of that example. -/
def peakDryer (m : MachineNo) : Bool := [10, 40, 11, 41].contains m

/-- Chapter 7, a demand limit over the evening peak: dryers 41 and 11 are withdrawn, and a limit of 40 takes the washers last. -/
theorem test_peak_shedding :
    (Feeder.shed peakDryer (peak 120 120)).2 = [41, 11] ∧ (Feeder.shed peakDryer (peak 40 120)).2 = [41, 11, 40, 10, 3] ∧
      (Feeder.shed peakDryer (peak 180 60)).2 = [11, 10] := by decide

theorem witness_SheddingRestoresBounds :
    ({ exampleFeeder .alternate with
      rooms := (exampleFeeder .alternate).rooms.set 0 ⟨10, [⟨1, 20⟩, ⟨2, 0⟩], [], [], .new⟩, order := [2, 1] }
      : Feeder).Consistent ∧
    (peak 120 120).Consistent ∧
    ((∀ r, ¬ (look (peak 180 120).rooms r).capacity < (peak 180 120).granted r) ∧ (peak 180 120).total ≤ (peak 180 120).effectiveLimit) ∧
    ((∀ r, ¬ (look (peak 120 120).rooms r).capacity < (peak 120 120).granted r) ∧
      (peak 120 120).effectiveLimit < (peak 120 120).total ∧ (peak 120 120).Withdraws peakDryer (indexes 4) 1 ⟨41, 30⟩) ∧
    ((look (peak 180 99).rooms 0).capacity < (peak 180 99).granted 0 ∧ (peak 180 99).Withdraws peakDryer [0] 0 ⟨11, 30⟩) ∧
    (peak 120 120).Withdraws (fun _ => false) [0, 1] 1 ⟨41, 30⟩ := by
  have of : ∀ (f : Feeder) (p : MachineNo → Bool) (rooms : List RoomNo) (r : RoomNo) (c : Claim) (before after : List MachineNo),
      (r ∈ rooms ∧ c ∈ (look f.rooms r).grants ∧ 0 < c.load) → f.order = before ++ c.machine :: after →
      (∀ k, ∀ d ∈ (look f.rooms k).grants, k ∈ rooms → p d.machine = p c.machine ∧ d.machine ∉ after ∨
        p c.machine = true ∧ p d.machine = false) → f.Withdraws p rooms r c := by
    intro f p rooms r c before after he ho hd
    refine ⟨he, before, after, ho, ?_⟩
    cases hc : p c.machine
    · refine .inr ⟨rfl, fun k d ⟨hk, hm, _⟩ => ?_⟩
      rcases hd k d hm hk with h | h
      · exact ⟨h.1.trans hc, h.2⟩
      · exact absurd (hc.symm.trans h.1) nofun
    · refine .inl ⟨rfl, fun k d ⟨hk, hm, _⟩ hp => ?_⟩
      rcases hd k d hm hk with h | h
      · exact h.2
      · exact absurd (hp.symm.trans h.2) nofun
  refine ⟨by unfold Feeder.Consistent; decide, by unfold Feeder.Consistent; decide, by decide,
    ⟨by decide, by decide, of _ _ _ _ _ [2, 12, 10, 40, 3, 11] [] (by decide) rfl (by decide)⟩,
    ⟨by decide, of _ _ _ _ _ [2, 12, 10, 40, 3] [41] (by decide) rfl (by decide)⟩,
    of _ _ _ _ _ [2, 12, 10, 40, 3, 11] [] (by decide) rfl (by decide)⟩

theorem witness_DemandLimitChanges :
    let s : State := { ready with feeder := { ready.feeder with demand := some ⟨150, 1⟩ } }
    ready.Takes ∧ 2000 ≤ 2000 ∧ 2000 < 2001 ∧ ready.feeder.Consistent ∧ ready.feeder.low < ready.feeder.high ∧ s.Runs ∧
      s.feeder.demand = some ⟨150, 1⟩ ∧ ready.feeder.demand = none ∧ s.feeder.Bounded := by
  refine ⟨ready_takes, by decide, by decide, ?_, by decide, ⟨rfl, .inl rfl⟩, rfl, rfl, ?_⟩
  · unfold Feeder.Consistent
    decide
  · unfold Feeder.Bounded
    decide

/-- R155: OFF at the high mark becomes ON, ON at the low mark OFF, and between the marks nothing changes. -/
theorem test_backlog_marks :
    let f (backlog : Bool) (high low : Nat) : Feeder := { exampleFeeder .alternate with backlog := backlog, high := high, low := low }
    (f false 4 3).judged.2 = [.backlog true 4] ∧ (f true 5 4).judged.2 = [.backlog false 4] ∧ (f false 5 4).judged = (f false 5 4, []) ∧
      (f true 4 3).judged = (f true 4 3, []) := by decide

theorem witness_BudgetQueryReports : ready.Takes := ready_takes

theorem witness_FaultLogIsServed :
    (locked false).Takes ∧ (1 ≤ 8 ∧ 8 < 9) ∧ (∃ r ∈ (locked false).supervisor.log, r.sequence = 1) ∧
      (∀ r ∈ (locked false).supervisor.log, r.sequence ≠ 2) :=
  ⟨⟨⟨rfl, .inl rfl⟩, rfl, rfl⟩, by decide, by decide, by decide⟩

theorem witness_RulesAreSet :
    let i : RulesItem := ⟨Vector.replicate 8 true, Vector.replicate 8 false, Vector.replicate 7 (some .note)⟩
    let s : State := { ready with supervisor := { ready.supervisor with ruleLock := true } }
    ready.Takes ∧ s.Takes ∧ s.supervisor.ruleLock = true ∧ ready.supervisor.ruleLock = false ∧
      (∀ k, look i.severities k ≠ some .room) ∧ (∃ k, look i.enableSelector k = true) ∧ look i.enableValues 4 = false ∧
      replied (exec (.rulesSet 0 i) ready) = some 0 ∧
      replied (exec (.rulesSet 0 i) s) = some (Byte.ofNat Status.locked.code) :=
  ⟨ready_takes, ⟨⟨rfl, .inl rfl⟩, rfl, rfl⟩, rfl, rfl, by decide, by decide, by decide, by decide +kernel, by decide +kernel⟩

/-- `ready` with room 3 guarded as given. -/
def guarded (g : RoomGuard) : State := { ready with supervisor := { ready.supervisor with
  rooms := ready.supervisor.rooms.set 3 g } }

theorem witness_ValveOpenReopensRoom :
    (∀ g, (guarded g).Takes ∧ (guarded g).guard 3 = g) ∧
    replied (exec (.valveOpen 0 3) (guarded ⟨.rising, false, false, false, true, false, none⟩)) = some 0 ∧
    replied (exec (.valveOpen 0 3) (guarded ⟨.rising, true, true, false, true, false, none⟩)) =
      some (Byte.ofNat Status.refusedState.code) ∧
    replied (exec (.valveOpen 0 4) ready) = some (Byte.ofNat Status.badArgument.code) :=
  ⟨fun _ => ⟨⟨⟨rfl, .inl rfl⟩, rfl, rfl⟩, rfl⟩, by decide +kernel, by decide +kernel, by decide +kernel⟩

/-- R43: a machine IDLE as a washer in a closed room and then made a dryer shows OUT_OF_ORDER till the room reopens. -/
theorem test_reopening_relamps_dryer :
    let r : MachineRecord := { machineIn .idle none with cls := .dryer, room := 3, lampSent := ready.lamps.outOfOrder }
    let s : State := { with0 r online with supervisor :=
      { ready.supervisor with rooms := ready.supervisor.rooms.set 3 ⟨.rising, false, false, false, true, false, none⟩ } }
    (match exec (.valveOpen 0 3) s with
      | .next t => (t.machine 0).lampSent == s.lamps.available && (t.link 0).table.lamp == some s.lamps.available
      | _ => false) = true := by decide +kernel

/-- Room 3 guarded as given and washer 0 in it with a record, after one record of the log. -/
def leaking (g : RoomGuard) (r : MachineRecord) (x : FaultRecord) : State :=
  let s := with0 { r with room := 3 } online
  { s with supervisor := { s.supervisor with rooms := s.supervisor.rooms.set 3 g, log := [x] } }

theorem witness_LeakInputIsTaken :
    let x (acked : Bool) : FaultRecord := ⟨5, 0, 0, .room 3, .leak, .room, .none, none, acked⟩
    (∀ g, (guarded g).Runs ∧ (guarded g).guard 3 = g ∧ (guarded g).startingUp = false ∧
      look (guarded g).supervisor.enables 4 = true ∧ (guarded g).supervisor.log.length < 80 ∧
      ∀ m, ((guarded g).machine m).assigned = true → ((guarded g).machine m).cls = .washer → ((guarded g).machine m).room ≠ 3) ∧
    State.reset.Runs ∧ State.reset.startingUp = true ∧ ({ ready with powered := false } : State).powered = false ∧
    (∀ g r x, (leaking g r x).Runs ∧ (leaking g r x).guard 3 = g ∧ (leaking g r x).machine 0 = { r with room := 3 } ∧
      (leaking g r x).link 0 = online ∧ (leaking g r x).startUp ≠ .recovering ∧ (leaking g r x).supervisor.log = [x] ∧
      look (leaking g r x).supervisor.enables 4 = true ∧
      ∀ m, look (leaking g r x).supervisor.ending m = none) ∧
    (∀ m, m ≠ 0 → ((leaking ⟨.rising, true, false, true, false, true, none⟩ (machineIn .running (some session)) (x false)).machine m).assigned
      = false) ∧
    (machineIn .running (some session)).cls = .washer ∧ (machineIn .running (some session)).outstanding = .none ∧ session.parts ≠ [] ∧
    (∀ b, [x b].find? (fun y => y.sequence == 5) = some (x b)) := by
  refine ⟨fun g => ⟨⟨rfl, .inl rfl⟩, rfl, rfl, rfl, (by decide : 0 < 80), fun m h => ?_⟩, ⟨rfl, .inl rfl⟩, rfl, rfl,
    fun g r x => ⟨⟨rfl, .inl rfl⟩, rfl, rfl, rfl, nofun, rfl, rfl, fun m => Vector.getElem_replicate _⟩,
    by decide +kernel, by decide, by decide, by decide, by decide⟩
  simp [guarded, ready, State.machine, State.reset, SessionEngine.initial, look, MachineRecord.initial] at h

/-- Machine 0 with an exchange on the line, its reply to be discarded or not; its room open or closed, every rule enabled or not, and
every node fault of one severity. -/
def exchanging (r : MachineRecord) (l : Link) (discard closed on : Bool) (sev : Severity) : State :=
  let s := with0 r l
  { s with
    line := { s.line with exchange := some ⟨0, none, none, discard⟩ }
    supervisor := { s.supervisor with
      rooms := Vector.replicate 4 { RoomGuard.initial with closed := closed }
      enables := Vector.replicate 8 on, severities := Vector.replicate 7 sev } }

/-- A good reply of node 0 with a summary and a report. -/
def replyOf (st : NodeState) (id : Nat) (p : Option (Report × Bool)) : NodeReply :=
  ⟨false, [], 0, 0, ⟨st, id, .closed, false⟩, none, p⟩

theorem witness_ReplyEndsExchange :
    (∀ r l d closed on sev, let s := exchanging r l d closed on sev
      s.Runs ∧ s.line.exchange = some ⟨0, none, none, d⟩ ∧ s.machine 0 = r ∧ s.link 0 = l ∧ s.OtherRecovering 0 ∧
      s.supervisor.log.length < 80 ∧ (∀ k, (s.guard k).closed = closed) ∧ (∀ k, look s.supervisor.enables k = on) ∧
      ∀ k, look s.supervisor.severities k = sev) ∧
    (∀ st id p, (replyOf st id p).late = false ∧ (replyOf st id p).address = 0 ∧ (replyOf st id p).summary.heater = false ∧
      crc8 (replyOf st id p).body = (replyOf st id p).check ∧ (replyOf st id p).report = p) ∧
    crc8 ({ replyOf .idle 0 none with check := 1 } : NodeReply).body ≠ ({ replyOf .idle 0 none with check := 1 } : NodeReply).check ∧
    ready.line.exchange = none ∧ online.table = Link.initial.table ∧ online.misses + 1 < 3 ∧ ¬ (2 + 1 < 3) ∧
    online.lastReport ≠ some (.card, true) ∧ ({ online with lastReport := some (.card, true) } : Link).lastReport = some (.card, true) ∧
    (machineIn .offline none).assigned = true ∧ (machineIn .offline none).enabled = true ∧ (machineIn .idle none).session = none ∧
    ({ machineIn .done none with stoppedId := 7 } : MachineRecord).stoppedId = 7 ∧ (7 : Nat) ≠ 0 ∧
    (machineIn .running (some session)).cls = .washer ∧ (machineIn .running (some session)).outstanding = .none ∧
    (machineIn .running (some session)).session.map Session.id = some 7 ∧ session.id ≠ 8 ∧ session.parts ≠ [] ∧
    session.mode = .immediate ∧ ({ session with mode := .delayed } : Session).mode = .delayed ∧ session.doorFaultRaised = false ∧
    session.finishSent = false ∧ session.heat = .none ∧
    ({ session with strandedFrom := some .running } : Session).strandedFrom = some .running ∧
    (machineIn .recovering (some session)).afterSettle = .done ∧
    (480 : Nat) ≤ 480 ∧ 480 < 481 ∧ 7 < 8 ∧ ((7 : Fin 8) : Nat) = 7 ∧
    ({ machineIn .running (some session) with cls := .dryer } : MachineRecord).cls = .dryer ∧
    4 ≤ ({ session with parts := [part, part, part, part] } : Session).parts.length ∧ session.parts.length < 4 := by
  refine ⟨fun r l d closed on sev => ⟨⟨rfl, .inl rfl⟩, rfl, rfl, rfl, nofun, (by decide : 0 < 80), fun k => ?_,
    fun k => Vector.getElem_replicate _, fun k => Vector.getElem_replicate _⟩, fun _ _ _ => ⟨rfl, rfl, rfl, rfl, rfl⟩, by decide⟩
  exact congrArg RoomGuard.closed (Vector.getElem_replicate _)

theorem witness_LinkTimersExpire :
    let silent : Link := { Link.initial with state := .silent, silentTimer := true }
    (∀ r, (with0 r silent).Runs ∧ (with0 r silent).OtherRecovering 0 ∧ (with0 r silent).machine 0 = r ∧
      ((with0 r silent).link 0).state = .silent ∧ ((with0 r silent).link 0).silentTimer = true) ∧
    (machineIn .running (some session)).session = some session ∧ (machineIn .idle none).session = none ∧
      look ready.supervisor.enables 0 = true ∧ ready.supervisor.log.length < 80 :=
  ⟨fun _ => ⟨⟨rfl, .inl rfl⟩, nofun, rfl, rfl, rfl⟩, by decide⟩

theorem witness_SessionTimersEndSession :
    (∀ r, (with0 r online).Runs ∧ (with0 r online).OtherRecovering 0 ∧ (with0 r online).machine 0 = r ∧
      (with0 r online).supervisor.log.length < 80) ∧
    session.parts ≠ [] ∧ (machineIn .armed (some session)).outstanding = .none ∧
      ({ machineIn .armed (some session) with armTimer := some 90 } : MachineRecord).armTimer ≠ none ∧
      ({ machineIn .stranded (some session) with graceTimer := some 10 } : MachineRecord).graceTimer ≠ none ∧
      ({ machineIn .recovering (some session) with recoveryWindow := true } : MachineRecord).recoveryWindow = true ∧
      (machineIn .recovering (some session)).afterSettle = .done ∧ look ready.supervisor.enables 0 = true :=
  ⟨fun _ => ⟨⟨rfl, .inl rfl⟩, nofun, rfl, (by decide : 0 < 80)⟩, by decide⟩

theorem witness_MinuteAdvancesSession :
    (∀ r, (with0 r online).Runs ∧ (with0 r online).OtherRecovering 0 ∧ (with0 r online).machine 0 = r) ∧
    ({ machineIn .running (some session) with minuteTimer := true } : MachineRecord).minuteTimer = true ∧
      session.heat = .none ∧ session.overrunRaised = false ∧ session.finishSent = false ∧ session.mode ≠ .unbilled ∧
      ({ session with elapsed := 45 } : Session).units + session.allowance < 45 + 1 ∧
      ¬ (({ session with elapsed := 44 } : Session).units + session.allowance < 44 + 1) ∧
      ({ session with elapsed := 29 } : Session).units ≤ 29 + 1 ∧ ({ session with delay := 1 } : Session).delay ≤ 1 ∧
      1 < ({ session with delay := 2 } : Session).delay ∧ session.parts ≠ [] ∧
      (machineIn .running (some session)).outstanding = .none ∧ look ready.supervisor.enables 1 = true ∧
      ready.supervisor.log.length < 80 :=
  ⟨fun _ => ⟨⟨rfl, .inl rfl⟩, nofun, rfl⟩, by decide⟩

/-- Machine 0 with a record, and context 0 with what it holds in REPLY. -/
def replying (r : MachineRecord) (x : Context) : State := withContext (with0 r online) x

theorem contexts_else (x : Context) (k : ContextNo) (h : k ≠ 0) :
    look ((Vector.replicate 8 Context.initial).set 0 x) k = Context.initial := by
  have h0 : (0 : Nat) ≠ k.1 := fun e => h (Fin.ext e.symm)
  unfold look
  rw [Vector.getElem_set_ne _ _ h0]
  exact Vector.getElem_replicate _

theorem replying_else (r : MachineRecord) (x : Context) (k : ContextNo) (h : k ≠ 0) :
    ((replying r x).context k).request = none :=
  congrArg Context.request (contexts_else x k h)

theorem witness_VendResultsReachEngine :
    let r := machineIn .authorising (some { session with parts := [] })
    (∀ r x, (replying r x).Runs ∧ (replying r x).OtherRecovering 0 ∧ (replying r x).machine 0 = r ∧
      (replying r x).context 0 = x ∧ ((replying r x).link 0).state ≠ .disabled ∧
      ∀ k, k ≠ 0 → ((replying r x).context k).request = none) ∧
    r.session = some { session with parts := [] } ∧ r.abandoned = none ∧
      (machineIn .running (some session)).state = .running ∧ session.finishSent = false ∧
      (machineIn .settling (some { session with endCause := some .completed })).state = .settling ∧
      (ready.context 0).request = none :=
  ⟨fun _ _ => ⟨⟨rfl, .inl rfl⟩, nofun, rfl, rfl, nofun, fun k h => replying_else _ _ k h⟩, by decide⟩

theorem witness_SettlementsComplete :
    let r := machineIn .settling (some { session with endCause := some .completed })
    (∀ r x, (replying r x).Runs ∧ (replying r x).OtherRecovering 0 ∧ (replying r x).machine 0 = r ∧
      (replying r x).context 0 = x ∧ ∀ k, k ≠ 0 → ((replying r x).context k).request = none) ∧
    r.state = .settling ∧ r.afterSettle = .done ∧
      ({ r with afterSettle := .lockedOut .overrun } : MachineRecord).afterSettle = .lockedOut .overrun :=
  ⟨fun _ _ => ⟨⟨rfl, .inl rfl⟩, nofun, rfl, rfl, fun k h => replying_else _ _ k h⟩, by decide⟩

/-- A request at the head of the payment queue, with window 0 as given and the building site code 1. -/
def asking (q : PayRequest) (w : Window) (st : StoreState) (locks : List LockEntry) (damaged : List AccountNo) (l : List Deferred) :
    State := { ready with
  payment := { ready.payment with queue := [q], locks := locks, damaged := damaged }
  directory := { ready.directory with windows := ready.directory.windows.set 0 w, site := 1 }
  store := { ready.store with state := st, deferred := l } }

/-- A window for every card of site 1. -/
def window (a : WindowAction) : Window := ⟨true, 1, 0, 63, none, none, .any, a⟩

/-- An entry of the deferred settlement list with its slot write owed. -/
def entry (key : Nat) (l : List DeferredPart) : Deferred := ⟨key, 0, 7, l, true, true⟩

/-- A part of a deferred entry with its account write to come. -/
def owed : DeferredPart := ⟨1, some 205, 100, 50, 30, false, false, false⟩

/-- Context 7 alone FREE, the others carrying SETTLE, and a request waiting. -/
def busy (q : PayRequest) : State := { ready with payment := { ready.payment with
  contexts := (Vector.replicate 8 ⟨some (.settle 1 1 .completed 0 0), .free, false⟩).set 7 Context.initial, queue := [q] } }

theorem witness_ContextTakesRequest_states (q : PayRequest) (w : Window) (st : StoreState) (l : List LockEntry) (d : List AccountNo) (e : List Deferred) :
    (asking q w st l d e).Runs ∧ (asking q w st l d e).payment.queue = q :: [] ∧
      ((asking q w st l d e).context 0).request = none ∧ (asking q w st l d e).payment.locks = l ∧
      (asking q w st l d e).payment.damaged = d ∧ (asking q w st l d e).store.deferred = e ∧
      (asking q w st l d e).store.state = st ∧ (asking q w st l d e).directory.site = 1 ∧
      look (asking q w st l d e).directory.windows 0 = w ∧ (asking q w st l d e).session 0 = none :=
  ⟨⟨rfl, .inr fun _ h => nomatch (show _ ∈ ([] : List Transaction) from h)⟩, rfl, rfl, rfl, rfl, rfl, rfl, rfl, rfl, rfl⟩

theorem witness_ContextTakesRequest_window (a : WindowAction) :
    (window a).enabled = true ∧ (window a).site = 1 ∧ (window a).floorLow ≤ 17 ∧ 17 ≤ (window a).floorHigh ∧
      (window a).flat = none ∧ (window a).ordinal = none ∧ (window a).filter = .any ∧ (window a).action = a :=
  ⟨rfl, rfl, Nat.zero_le _, (by decide : 17 ≤ 63), rfl, rfl, rfl, rfl⟩

theorem witness_ContextTakesRequest_held : ready.computeHeld 205 = 0 ∧ look ready.directory.refs 205 = 0 := by decide +kernel

theorem witness_ContextTakesRequest_price : (ready.tariff.priceOf ready.clock false ⟨.dryer, 0, 1, false, 0, false⟩).isSome = true ∧
    (look ready.tariff.dryers 0).maximum = 1 ∧ (look ready.tariff.dryers 0).price = 0 := by decide

theorem witness_ContextTakesRequest :
    (∀ q, (busy q).Runs ∧ (busy q).payment.queue = q :: [] ∧ ((busy q).context 7).request = none) ∧
    (∀ k, k < 7 → ((busy (.settle 1 1 .completed 0 0)).context k).request ≠ none) ∧
    (∀ k, (look ready.directory.windows k).enabled = false) ∧ ready.payment.queue = [] ∧
    ((look exampleDryer.dryers 1).maximum = 12 ∧ (look exampleDryer.dryers 1).price ≠ 0) ∧
    (∃ w, look ready.cache.mask w = true) ∧ (∀ w : Fin 4, look (Vector.replicate 4 false) w = false) ∧
    (([entry 1 [owed], entry 2 []].map Deferred.key).Nodup ∧
      [entry 1 [owed], entry 2 []].find? (fun d => d.key == 1) = some (entry 1 [owed]) ∧
      [owed].find? (fun p => !p.written && p.payer.isSome) = some owed ∧ (entry 1 [owed]).offered = true) ∧
    (∀ p ∈ [{ owed with written := true, release := true }], p.written = true ∨ p.payer = none) ∧
    ((List.replicate 63 (entry 1 [])).length < 64 ∧ 64 ≤ (List.replicate 64 (entry 1 [])).length) ∧
    (∃ z ∈ [part], z.payer ≠ none ∧ 0 < z.hold) := by
  refine ⟨fun _ => ⟨⟨rfl, .inl rfl⟩, rfl, rfl⟩, by decide +kernel, by decide +kernel, rfl, by decide, by decide +kernel, by decide, by decide,
    by decide, by simp, by decide⟩

/-- Context 0 with its transaction at the head of the queue, and a current request. -/
def accessing (a : Access) (x : Context) : State := withContext (withRequest (withStore [⟨.context 0, a⟩]) ⟨0x22, 1, []⟩) x

theorem witness_DirectoryAccessesGoOn :
    let w : Walk := ⟨⟨17, 6, 1⟩, .washer, none, .floor, false, [], false⟩
    let tab : FloorTable := Vector.replicate 64 ⟨none, false⟩
    let x : DirWrites := ⟨.floor 17, [⟨.updateFloor 17 ⟨some 3, true⟩, .floor 17, .sweep (.floor 17)⟩], none, none, false, []⟩
    let s (y : Context) (a : Access) (t : Option FloorTable) : State :=
      { accessing a y with fram := match t with | some x => Fram.blank.setFloors x | none => Fram.blank }
    (∀ y a t, (s y a t).Runs ∧ (s y a t).storeUp = true ∧ (s y a t).store.queue = ⟨.context 0, a⟩ :: [] ∧
      (s y a t).host.buffer = [⟨0x22, 1, []⟩] ∧ (s y a t).context 0 = y ∧ (s y a t).fram.floorTable = t ∧
      (s y a t).supervisor.log.length < 80) ∧
    w.at_ = .floor ∧ w.target = none ∧ (look tab w.path.floor).page = none ∧
      (look (tab.set 17 ⟨some 3, true⟩) w.path.floor).page = some 3 ∧
      x.writes = [⟨.updateFloor 17 ⟨some 3, true⟩, .floor 17, .sweep (.floor 17)⟩] ∧ x.locks = [] ∧
      ((s Context.initial .status (some tab)).fram.perform (.updateFloor 17 ⟨some 3, true⟩)).1 ≠ .damaged :=
  ⟨fun _ _ t => ⟨⟨rfl, .inl rfl⟩, rfl, rfl, rfl, rfl, by cases t <;> first | rfl | exact Fram.floorTable_setFloors _ _,
    (by decide : 0 < 80)⟩, rfl, rfl, by decide, by decide, rfl, rfl, by simp [Fram.perform]⟩

theorem witness_AccountAccessesGoOn :
    let x : Account := ⟨.opened, 1000, 0, 0, 1, 0, 0⟩
    let s (b : Access) (y : Context) : State :=
      let t := accessing b y
      { t with payment := { t.payment with locks := [⟨205, 0, []⟩] }, fram := Fram.blank.setAccount 205 x }
    (∀ b y, (s b y).Runs ∧ (s b y).storeUp = true ∧ (s b y).store.queue = ⟨.context 0, b⟩ :: [] ∧
      (s b y).payment.locks = ⟨205, 0, []⟩ :: [] ∧ (s b y).context 0 = y ∧ (s b y).host.buffer = [⟨0x22, 1, []⟩] ∧
      (s b y).fram.account 205 = some x) ∧
    (x.state ≠ .free ∧ x.balance + 998999 ≤ 999999 ∧ 999999 < x.balance + 999000) ∧
      exampleWasher.priceOf ⟨0, 0, false⟩ true ⟨.washer, 2, 0, false, x.group, false⟩ = some ⟨387, 1300, 0, true, 52⟩ ∧
      ((387 : Nat) : Int) ≤ x.balance + x.overdraft - x.held :=
  ⟨fun _ _ => ⟨⟨rfl, .inl rfl⟩, rfl, rfl, rfl, rfl, rfl, Fram.account_setAccount _ _ _⟩, by decide⟩

theorem witness_SlotAccessesGoOn :
    let copy : SlotCopy := ⟨7, 0, .immediate, 30, 0, 0, [⟨part, false⟩]⟩
    let s (y : Slot) (a : Access) (x : Context) (l : List Part) : State :=
      { with0 (machineIn .settling (some { session with parts := l })) online with
        fram := Fram.blank.setSlot 0 y, store := (accessing a x).store, payment := (accessing a x).payment }
    (∀ y a x l, (s y a x l).Runs ∧ (s y a x l).storeUp = true ∧ (s y a x l).store.queue = ⟨.context 0, a⟩ :: [] ∧
      (s y a x l).context 0 = x ∧ (s y a x l).fram.slot 0 = some y ∧
      (s y a x l).session 0 = some { session with parts := l }) ∧
    Fram.blank.slot 0 = none ∧ ready.supervisor.log.length < 80 ∧
    copy.id = 7 ∧ (∃ x ∈ copy.parts, x.part.payer ≠ none ∧ 0 < x.part.hold) ∧
      ∀ z ∈ [{ part with hold := 0 }], z.payer = none ∨ z.hold = 0 :=
  ⟨fun _ _ _ _ => ⟨⟨rfl, .inl rfl⟩, rfl, rfl, rfl, Fram.slot_setSlot _ _ _, rfl⟩, by decide⟩

theorem witness_StoreFailsAndReturns :
    let down (timer : Bool) : State := { ready with store := { ready.store with
      state := .down, probeTimer := timer, queue := if timer then [] else [⟨.probe, .status⟩] } }
    let s (x : Context) (l : List LockEntry) (e : List Deferred) : State :=
      let t := accessing .status x
      { t with payment := { t.payment with locks := l }, store := { t.store with deferred := e } }
    let owed : DeferredPart := ⟨1, some 205, 100, 50, 30, false, false, false⟩
    let marker : DirWrite := ⟨.updateCard 1 0 .invalid, .floor 17, .plain⟩
    (∀ q, (withStore q).Runs ∧ (withStore q).storeUp = true ∧ (withStore q).store.queue = q) ∧
    (∀ t, (down t).Runs ∧ (down t).store.state = .down ∧ (down t).store.probeTimer = t) ∧
      (down false).store.queue = [⟨.probe, .status⟩] ∧ ((down true).store.deferred.map Deferred.key).Nodup ∧
    (∀ x l e, (s x l e).Runs ∧ (s x l e).storeUp = true ∧ (s x l e).store.queue = [⟨.context 0, .status⟩] ∧
      (s x l e).context 0 = x ∧ (s x l e).payment.locks = l ∧ (s x l e).store.deferred = e ∧
      (s x l e).host.buffer = [⟨0x22, 1, []⟩]) ∧
    (∀ e ∈ ([] : List LockEntry), e.account ≠ 205) ∧ (part.payer ≠ none ∧ 0 < part.hold) ∧
    ¬ (({ part with hold := 0 } : Part).payer ≠ none ∧ 0 < ({ part with hold := 0 } : Part).hold) ∧
    (replying (machineIn .settling (some session)) Context.initial).session 0 = some session ∧
    [owed].find? (fun p => !p.written && p.payer.isSome) = some owed ∧ owed.payer = some 205 ∧ marker.effect = .plain ∧
    (List.replicate 63 (entry 1 [])).length < 64 ∧ 64 ≤ (List.replicate 64 (entry 1 [])).length :=
  ⟨fun _ => ⟨⟨rfl, .inl rfl⟩, rfl, rfl⟩, fun t => ⟨⟨rfl, .inr (by cases t <;> decide)⟩, rfl, rfl⟩, rfl, by decide,
    fun _ _ _ => ⟨⟨rfl, .inl rfl⟩, rfl, rfl, rfl, rfl, rfl, rfl⟩, by decide⟩

/-- Chapter 9, the store away for twenty seconds: context 3's account write, context 6's walk read and a refresh of washer 12 in the
queue; context 4 waits for the lock that context 3 holds. -/
def away : State :=
  let x (k : Nat) (g : Stage) : Context := ⟨some (.authorise ⟨k % 64, Nat.mod_lt _ (by decide)⟩ .washer ⟨1, ⟨0, 0, 0⟩⟩ 0 0 k), g, false⟩
  let y : Payer := ⟨205, noAttributes, .directory⟩
  { ready with
    payment := { ready.payment with
      contexts := ((ready.payment.contexts.set 3 (x 30 (.holdWrite y part))).set 4 (x 40 (.holdLock y))).set 6
        (x 60 (.walk (Walk.start ⟨0, 0, 0⟩ .washer false)))
      locks := [⟨7, 1, []⟩, ⟨205, 3, [4]⟩] }
    store := { ready.store with
      queue := [⟨.context 3, .readAccount 205⟩, ⟨.context 6, .readFloors⟩, ⟨.refresher 12 false, .status⟩]
      dayList := [⟨⟨0, 0, 0⟩, 1, 0⟩, ⟨⟨0, 0, 1⟩, 1, 0⟩] } }

/-- What that queue's failing leads to, its premises met at every transaction and at the waiter that gets the lock. -/
theorem witness_StoreFailsAndReturns_queue :
    away.Runs ∧ away.storeUp = true ∧ away.store.queue ≠ [] ∧
    ∀ leads, State.AllFail leads 64 away.store.queue { away with store := { away.store with state := .down, queue := [] } } →
      ∃ u : State, leads u ∧ u.payment.locks = [⟨7, 1, []⟩] ∧ look u.store.refreshMarks 12 = true ∧ u.store.dayList.length = 2 ∧
        [3, 4, 6].all (fun c => decide ((u.context c).stage = .reply (.refused .storeUnavailable) none)) = true := by
  refine ⟨⟨rfl, .inl rfl⟩, rfl, nofun, fun leads h => ?_⟩
  have h3 := (h _ rfl).2.2.1 trivial _ (.inr ⟨_, rfl⟩) [⟨7, 1, []⟩] ⟨205, 3, [4]⟩ [] rfl rfl (by decide)
  have h4 := (h3.2 4 [] rfl (by decide)).1 _ rfl rfl
  have h4 := (h4 _ rfl).2.2.1 trivial _ (.inl rfl) [⟨7, 1, []⟩] ⟨205, 4, []⟩ [] rfl rfl (by decide)
  exact ⟨_, ((h4.1 rfl) _ rfl).1 trivial _ rfl, by decide⟩

/-- A directory write in phase 3 that holds the locks of two accounts, its marker update or its card write to come. -/
theorem witness_StoreFailsAndReturns_locks :
    let p : CardPath := ⟨17, 6, 1⟩
    let marker : DirWrite := ⟨.updateCard 9 0 .invalid, .card ⟨0, 0, 0⟩, .plain⟩
    let card : DirWrite := ⟨.updateCard 9 1 .invalid, .card p, .card⟩
    let x (l : List DirWrite) : DirWrites := ⟨.card p, l, some 205, some 7, false, [7, 205]⟩
    let s (l : List DirWrite) : State :=
      let t := accessing .status ⟨some (.directory (.card p) (some (.account 7 noAttributes false))), .dirWrite (x l), false⟩
      { t with payment := { t.payment with locks := [⟨7, 0, []⟩, ⟨205, 0, []⟩] } }
    ∀ w ∈ [marker, card], (s [w]).Runs ∧ (s [w]).storeUp = true ∧
      ∀ leads, State.AllFail leads 64 (s [w]).store.queue
          { s [w] with store := { (s [w]).store with state := .down, queue := [] } } →
        ∃ u : State, leads u ∧ u.payment.locks = [] ∧ u.context 0 = Context.initial := by
  intro p marker card x s w hw
  refine ⟨⟨rfl, .inl rfl⟩, rfl, fun leads h => ?_⟩
  simp only [List.mem_cons, List.not_mem_nil, or_false] at hw
  rcases hw with rfl | rfl
  · have h0 := (((h _ rfl).2.2.2.2.2.2.2.2.2.2.1 _ _ rfl).2.2 _ _ _ rfl rfl).1 ⟨rfl, trivial⟩ _ _ rfl
    have h1 := (h0 [] ⟨7, 0, []⟩ [⟨205, 0, []⟩] rfl rfl (by decide)).1 rfl
    exact ⟨_, (h1 [] ⟨205, 0, []⟩ [] rfl rfl (by decide)).1 rfl, rfl, rfl⟩
  · have h0 := (((h _ rfl).2.2.2.2.2.2.2.2.2.2.1 _ _ rfl).2.2 _ _ _ rfl rfl).2 (fun e => absurd e.1 nofun) _ _ rfl
    have h1 := (h0 [] ⟨7, 0, []⟩ [⟨205, 0, []⟩] rfl rfl (by decide)).1 rfl
    exact ⟨_, (h1 [] ⟨205, 0, []⟩ [] rfl rfl (by decide)).1 rfl, rfl, rfl⟩

/-- The same: contexts 3, 4 and 6 are refused STORE_UNAVAILABLE, the refresh is marked again, the day updates stay and tPROBE runs. -/
theorem test_store_away :
    (match exec .storeFailure away with
      | .next t => [t.store.state == .down, t.store.probeTimer, t.store.queue == [], look t.store.refreshMarks 12,
          t.store.dayList.length == 2, t.payment.locks == [⟨7, 1, []⟩]] ++
        [3, 4, 6].map fun c => (t.context c).stage == .reply (.refused .storeUnavailable) none
      | _ => []) = List.replicate 9 true := by decide +kernel

theorem witness_PortTransactionsComplete :
    let s (i : Issuer) (a : Access) (x : Scan) (f : Fram) (r : MachineRecord) : State :=
      let t := with0 r Link.initial
      { t with store := (withStore [⟨i, a⟩]).store, scan := x, fram := f }
    let at_ (k : ScanAt) : Scan := { Scan.initial with at_ := k }
    let x : Account := ⟨.opened, 0, 0, 5, 0, 0, 0⟩
    let copy : SlotCopy := ⟨7, 0, .immediate, 30, 0, 0, [⟨part, true⟩]⟩
    let tab : FloorTable := Vector.replicate 64 ⟨none, false⟩
    (∀ i a k f r, (s i a k f r).Runs ∧ (s i a k f r).storeUp = true ∧ (s i a k f r).store.queue = ⟨i, a⟩ :: [] ∧
      (s i a k f r).scan = k ∧ (s i a k f r).fram = f ∧ (s i a k f r).machine 0 = r ∧
      look (s i a k f r).supervisor.enables 6 = true ∧ (s i a k f r).supervisor.log.length < 79) ∧
    (Fram.blank.perform (.slotLockout 0 none)).1 = .damaged ∧ Fram.blank.segmentOne = none ∧ Fram.blank.floorTable = none ∧
      Fram.blank.flatPage 3 = none ∧ Fram.blank.cardPage 9 = none ∧ Fram.blank.slot 0 = none ∧ Fram.blank.account 1022 = none ∧
    (Fram.blank.setFloors tab).floorTable = some tab ∧ floorPages tab = [] ∧
      floorPages (tab.set 17 ⟨some 3, true⟩) = [.flat 17 true 3] ∧
      (∀ y, (Fram.blank.setFlatPage 3 y).flatPage 3 = some y) ∧ (∀ y, (Fram.blank.setCardPage 9 y).cardPage 9 = some y) ∧
      (at_ (.page (.flat 17 true 3) [])).usedFlats = [] ∧
    (∀ y, (Fram.blank.setSlot 0 y).slot 0 = some y) ∧ (machineIn .unassigned none).assigned = true ∧
      MachineRecord.initial.assigned = false ∧ (machineIn .unassigned none).session = none ∧
    (∀ y, (Fram.blank.setAccount 1022 y).account 1022 = some y) ∧ (1023 : AccountNo).1 = (1022 : AccountNo).1 + 1 ∧ 0 < x.held ∧
      x.held < heldIn 1 [(0, ⟨none, some copy⟩)] ∧
      (([(0, ⟨none, some copy⟩)] : List (MachineNo × Slot)).map Prod.fst).Nodup ∧
      detachSlots 1 5 100 [(0, ⟨none, some copy⟩)] =
        ([(0, ⟨none, some { copy with parts := [⟨{ part with payer := none }, true⟩] }⟩)], 0) ∧
      (∀ j ∈ [(3 : MachineNo), 5], 3 ≤ j) :=
  ⟨fun _ _ _ _ _ => ⟨⟨rfl, .inl rfl⟩, rfl, rfl, rfl, rfl, rfl, rfl, (by decide : 0 < 79)⟩, rfl, rfl, rfl, rfl, rfl, rfl, rfl,
    Fram.floorTable_setFloors _ _, by decide, by decide, fun _ => Fram.flatPage_setFlatPage _ _ _,
    fun _ => Fram.cardPage_setCardPage _ _ _, rfl, fun _ => Fram.slot_setSlot _ _ _, rfl, rfl, rfl,
    fun _ => Fram.account_setAccount _ _ _, by decide⟩

theorem witness_GrossAndNetAreRounded :
    (look exampleWasher.washers 2).price = 350 ∧ look exampleWasher.discounts 1 = 150 ∧
      (look exampleDryer.dryers 1).price = 60 ∧ look Tariff.initial.discounts 0 = 0 := by decide

theorem witness_PriceAndChargeAreBounded :
    (∃ k, (look exampleBands.bands k).start ≤ 360) ∧ (∀ k, 359 < (look exampleBands.bands k).start) ∧
      (1 ≤ 12 ∧ 12 ≤ (look exampleDryer.dryers 1).maximum) ∧ ¬ 13 ≤ (look exampleDryer.dryers 1).maximum := by decide

/-! ## Witnesses of further clauses: one for each clause whose premises the witnesses above do not meet -/

theorem with0_else (r : MachineRecord) (l : Link) (m : MachineNo) (h : m ≠ 0) :
    (with0 r l).machine m = MachineRecord.initial := by
  have h0 : (0 : Nat) ≠ m.1 := fun e => h (Fin.ext e.symm)
  show ((Vector.replicate 64 MachineRecord.initial).set 0 r)[m.1] = _
  rw [Vector.getElem_set_ne _ _ h0]
  exact Vector.getElem_replicate _

/-- Room 3 open with its filtered level high, machine 0 a RUNNING washer there, and the LEAK rule enabled or not. -/
def flooded (e : EdgeSelect) (on : Bool) (l : List FaultRecord) : State :=
  let s := leaking ⟨e, true, true, false, false, true, none⟩ (machineIn .running (some session)) ⟨5, 0, 0, .part, .storeDamaged, .note, .none, none, false⟩
  { s with supervisor := { s.supervisor with log := l, enables := s.supervisor.enables.set 4 on } }

theorem flooded_plainly (e : EdgeSelect) (on : Bool) (l : List FaultRecord) (h : l.length < 80) : (flooded e on l).LeaksPlainly [3] := by
  refine ⟨h, nofun, fun m _ => ⟨Vector.getElem_replicate _, fun h => ?_⟩⟩
  revert h
  by_cases h0 : m = 0
  · subst h0
    exact fun h => nomatch (show MachineState.running = .settling from h)
  · have := with0_else { machineIn .running (some session) with room := 3 } online m h0
    intro h
    have e : ((with0 { machineIn .running (some session) with room := 3 } online).machine m).state = .settling := h
    rw [this] at e
    cases e

/-- R176's re-judging by ROOM and by RULES_SET, at the last place of the log. -/
theorem witness_RoomsClose :
    let i : RulesItem := ⟨Vector.replicate 8 true, Vector.replicate 8 true, Vector.replicate 7 none⟩
    (∀ e on l, (flooded e on l).Takes ∧ look (flooded e on l).supervisor.enables 4 = on ∧
      (flooded e on l).guard 3 = ⟨e, true, true, false, false, true, none⟩) ∧
    (∀ e on r, (flooded e on (List.replicate 79 r)).LeaksPlainly [3]) ∧
    (⟨.rising, true, true, false, false, true, none⟩ : RoomGuard).wet true = true ∧
    (⟨.falling, true, true, false, false, true, none⟩ : RoomGuard).wet true = false ∧
    ((indexes 4).filter fun r => !((flooded .rising false []).guard r).closed &&
      ((flooded .rising false []).guard r).wet ((flooded .rising false []).guard r).filtered) = [3] ∧
    look i.enableSelector 4 = true ∧ look i.enableValues 4 = true ∧
    replied (exec (.configSetRoom 0 3 0 .rising) (flooded .off true [])) = some 0 ∧
    replied (exec (.rulesSet 0 i) (flooded .rising false [])) = some 0 :=
  ⟨fun _ _ _ => ⟨⟨⟨rfl, .inl rfl⟩, rfl, rfl⟩, rfl, rfl⟩,
    fun _ _ _ => flooded_plainly _ _ _ (by simp), rfl, rfl, by decide +kernel, rfl, rfl,
    by decide +kernel, by decide +kernel⟩

/-- Machine 0 alone RECOVERING. -/
def recovering0 (r : MachineRecord) : MachineRecord := { r with state := .recovering }

theorem with0_lastRecovering (r : MachineRecord) (l : Link) :
    ({ with0 (recovering0 r) l with startUp := .recovering } : State).LastRecovering 0 :=
  ⟨rfl, rfl, fun k h e => nomatch (congrArg MachineRecord.state (with0_else (recovering0 r) l k h)).symm.trans e⟩

/-- The part RECOVERING with machine 0 alone RECOVERING and its exchange on the line. -/
theorem witness_ReplyEndsExchange_ready :
    let s : State := { exchanging (recovering0 (machineIn .idle (some session))) online false false true .note with
      startUp := .recovering }
    s.Runs ∧ s.line.exchange = some ⟨0, none, none, false⟩ ∧ s.LastRecovering 0 ∧ (s.machine 0).session ≠ none ∧
      (s.link 0).state ≠ .disabled ∧ (s.link 0).table = CommandTable.empty ∧ (replyOf .running 7 none).summary.heater = false :=
  ⟨⟨rfl, .inl rfl⟩, rfl, with0_lastRecovering _ online, nofun, nofun, rfl, rfl⟩

/-- The heater on, calling for nothing else: unheeded with an empty table, and heeded with a command that turns it off waiting, with one
just confirmed, and with the flag set. -/
theorem witness_ReplyEndsExchange_heater :
    let on (st : NodeState) (id : Nat) : NodeReply := { replyOf st id none with summary := ⟨st, id, .closed, true⟩ }
    let stopping : CommandTable := { CommandTable.empty with stop := some 7 }
    (∀ r l d on, (exchanging r l d false on .note).feeder.holdsGrant 0 = false ∧
      look (exchanging r l d false on .note).feeder.heaterFault 0 = false) ∧
    (∀ c, (CommandTable.empty.echo none none).entryOf c = none) ∧
    (stopping.echo none none).entryOf (.stop 7) = some (.stop 7) ∧
    (on .idle 0).summary.heater = true ∧ (on .idle 0).summary.state = .idle ∧ (on .running 7).summary.sessionId = 7 ∧
    ((machineIn .running (some session)).session.map Session.id = some 7 ∧ (on .running 7).summary.door ≠ .opened) ∧
    ({ machineIn .settling (some session) with afterSettle := .lockedOut .overrun } : MachineRecord).afterSettle = .lockedOut .overrun ∧
    (machineIn .settling (some session)).afterSettle = .done :=
  ⟨fun _ _ _ _ => ⟨rfl, Vector.getElem_replicate _⟩, fun c => by cases c <;> rfl, rfl, rfl, rfl, rfl, ⟨rfl, nofun⟩, rfl, rfl⟩

/-- A dryer that starts, at once or after its delay, and START_PRESSED after ARM_EXPIRED. -/
theorem witness_ReplyEndsExchange_starts :
    let r : MachineRecord := { machineIn .armed (some session) with cls := .dryer }
    r.cls = .dryer ∧ r.state = .armed ∧ session.mode ≠ .delayed ∧
    ({ r with state := .delayed, session := some { session with mode := .delayed, delay := 1 } } : MachineRecord).session.map
      Session.id = some 7 ∧
    (machineIn .settling (some { session with endCause := some .armExpired })).session.bind Session.endCause = some .armExpired ∧
    ({ machineIn .idle none with lastEnd := some .armExpired } : MachineRecord).lastEnd = some .armExpired ∧
    (machineIn .idle none).lastEnd = none := by decide

/-- A link LOST with a GO unconfirmed. -/
def lost : Link := { Link.initial with state := .lost, misses := 3, table := { CommandTable.empty with go := some 7 } }

/-- A node that returns to a STRANDED or a RECOVERING machine while its GO is unconfirmed. -/
theorem witness_ReplyEndsExchange_return :
    let s (st : MachineState) : State := exchanging (machineIn st (some session)) lost false false true .note
    ∀ st, (s st).Runs ∧ (s st).OtherRecovering 0 ∧ ((s st).link 0).state = .lost ∧ ((s st).machine 0).state = st ∧
      (replyOf .running 7 none).report = none ∧
      ¬ ((lost.table.echo none (replyOf .running 7 none).echo).stop = none ∧ (lost.table.echo none (replyOf .running 7 none).echo).arm = none ∧
        (lost.table.echo none (replyOf .running 7 none).echo).go = none ∧
        (lost.table.echo none (replyOf .running 7 none).echo).finish = none) :=
  fun _ => ⟨⟨rfl, .inl rfl⟩, nofun, rfl, rfl, rfl, by decide⟩

/-- R21: the return stops tGRACE although the summary is not judged, so its expiry then changes nothing. -/
theorem test_return_stops_grace :
    let r : MachineRecord := { machineIn .stranded (some session) with graceTimer := some 10 }
    (match exec (.nodeReply (replyOf .running 7 none)) (exchanging r lost false false true .note) with
      | .next t => some ((t.machine 0).state, (t.machine 0).graceTimer, (t.link 0).state, (t.link 0).table.go)
      | _ => none) = some (.stranded, none, .online, some 7) := by decide +kernel

/-- R41's three groups, with the pointer between two members, and a line with no member. -/
theorem witness_ReplyEndsExchange_choice :
    let l (k : MachineNo) (x : Link) : LineController := { ready.line with links := ready.line.links.set k.1 x, pointer := 63 }
    (∀ k x, (l k x).exchange = none ∧ look (l k x).links k = x) ∧ ((0 : MachineNo) - 63).1 < ((62 : MachineNo) - 63).1 ∧
      ({ online with table := lost.table } : Link).table ≠ CommandTable.empty ∧ online.table = CommandTable.empty ∧
      ({ lost with slow := .expired } : Link).slow = .expired ∧ lost.slow ≠ .expired ∧
      ∀ k, (look ready.line.links k).state = .disabled :=
  ⟨fun k x => ⟨rfl, by simp [look]⟩, by decide, by decide, rfl, rfl, by decide, fun _ => congrArg Link.state (Vector.getElem_replicate _)⟩

/-- R41: from pointer 63 a command at 62 goes before a slow exchange and a poll, and among commands that at 0 before that at 62. -/
theorem test_line_choice :
    let busy : Link := { online with table := lost.table }
    let l (a b c : Link) : Option Exchange :=
      ({ ready.line with links := ((ready.line.links.set 62 a).set 63 b).set 0 c, pointer := 63 } : LineController).begin.exchange
    l busy { lost with slow := .expired } online = some ⟨62, some (.go 7), none, false⟩ ∧
    l busy online busy = some ⟨0, some (.go 7), none, false⟩ ∧
    l online { lost with slow := .expired } online = some ⟨63, some (.go 7), none, false⟩ ∧
    l online { lost with slow := .running } online = some ⟨0, none, none, false⟩ := by decide +kernel

/-- Heat asked for: a load of 0; a load that fits an empty NEW queue with no head that fits before; one behind another. A dryer below its
U and one at it, and a heat state saved while STRANDED. -/
theorem witness_HeatAnswered :
    (look ready.tariff.dryers 0).heat = 0 ∧ 0 < ({ look ready.tariff.dryers 0 with heat := 30 } : DryerProgramme).heat ∧
    ready.feeder.holdsGrant 0 = false ∧ ready.feeder.queued 0 = false ∧ (ready.feeder.released 0).1.Drained ∧
    (look ready.feeder.rooms 0).newQueue = [] ∧ ready.feeder.granted 0 + 30 ≤ (look ready.feeder.rooms 0).capacity ∧
      ready.feeder.total + 30 ≤ ready.feeder.effectiveLimit ∧
    ({ exampleFeeder .alternate with limit := 0 } : Feeder).Drained ∧ (look (exampleFeeder .alternate).rooms 2).newQueue ≠ [] ∧
    (exampleFeeder .alternate).queued 21 = true ∧
    ({ session with elapsed := 29 } : Session).elapsed < session.units ∧ session.units ≤ ({ session with elapsed := 30 } : Session).elapsed ∧
    ({ session with heat := .withdrawn } : Session).heat ≠ .none ∧ session.heat = .none :=
  ⟨by decide, by decide, by decide, by decide, ready_drained, by decide, by decide, by decide,
    (Feeder.drained_iff _).mpr (by decide), by decide, by decide, by decide, by decide, by decide, rfl⟩

/-- tLOST on a machine ARMED without parts, AUTHORISING, and SETTLING towards LOCKED_OUT and towards DONE. -/
theorem witness_LinkTimersExpire_rows :
    let silent : Link := { Link.initial with state := .silent, silentTimer := true }
    (∀ r m, look (with0 r silent).supervisor.ending m = none ∧ (with0 r silent).supervisor.log = []) ∧
    (machineIn .armed (some session)).state = .armed ∧ session.parts ≠ [] ∧ ({ session with parts := [] } : Session).parts = [] ∧
    (machineIn .authorising (some { session with parts := [] })).abandoned = none ∧
    ({ machineIn .authorising (some session) with abandoned := some .leak } : MachineRecord).abandoned = some .leak ∧
    (∃ c, ({ machineIn .settling (some session) with afterSettle := .lockedOut .overrun } : MachineRecord).afterSettle = .lockedOut c) ∧
    ∀ c, (machineIn .settling (some session)).afterSettle ≠ .lockedOut c :=
  ⟨fun _ _ => ⟨Vector.getElem_replicate _, rfl⟩, rfl, by decide, rfl, rfl, rfl, ⟨_, rfl⟩, nofun⟩

/-- The last recovery window that closes. -/
theorem witness_SessionTimersEndSession_ready :
    let s : State := { with0 (recovering0 { machineIn .idle (some session) with recoveryWindow := true }) online with
      startUp := .recovering }
    s.Runs ∧ s.LastRecovering 0 ∧ (s.machine 0).recoveryWindow = true ∧ (s.machine 0).session = some session :=
  ⟨⟨rfl, .inl rfl⟩, with0_lastRecovering _ _, rfl, rfl⟩

/-- A dryer's delay that ends, and a dryer that has sent FINISH and is beyond its allowance. -/
theorem witness_MinuteAdvancesSession_dryer :
    let r (st : MachineState) (x : Session) : MachineRecord := { machineIn st (some x) with cls := .dryer, minuteTimer := true }
    let x : Session := { session with mode := .delayed, delay := 1 }
    let y : Session := { session with finishSent := true, elapsed := 45 }
    (r .delayed x).session = some x ∧ x.delay ≤ 1 ∧ (r .delayed x).cls = .dryer ∧
      (r .running y).session = some y ∧ y.finishSent = true ∧ y.units + y.allowance < 45 + 1 := by decide

/-- The three marks of an abandoned authorisation, with a link that answers and with one that does not. -/
theorem witness_VendResultsReachEngine_abandoned :
    let r (a : Abandonment) : MachineRecord := { machineIn .authorising (some { session with parts := [] }) with abandoned := some a }
    (∀ a, (r a).abandoned = some a ∧ (r a).state = .authorising ∧ (r a).session = some { session with parts := [] }) ∧
    online.state = .online ∧ Link.initial.state = .disabled ∧
      ({ Link.initial with state := .lost } : Link).state ≠ .silent :=
  ⟨fun _ => ⟨rfl, rfl, rfl⟩, rfl, rfl, nofun⟩

/-- A settlement towards OFFLINE, with a link that answers and with one that does not. -/
theorem witness_SettlementsComplete_offline :
    let r (on : Bool) : MachineRecord := { machineIn .settling (some { session with endCause := some (.fault .nodeLost) }) with
      afterSettle := .offline, enabled := on }
    (∀ on, (r on).afterSettle = .offline ∧ (r on).enabled = on) ∧ online.state = .online := ⟨fun _ => ⟨rfl, rfl⟩, rfl⟩

/-- A vend's lookup of card 1/0/0/0: a washer's and a dryer's, a hit that a sweep is to remove, a miss with the store not UP, and what
the account steps look at. -/
theorem witness_LookupIsJudged_vends :
    let card : CardId := ⟨1, ⟨0, 0, 0⟩⟩
    let e : CacheEntry := ⟨⟨0, 0, 0⟩, 205, { noAttributes with washersOnly := true }, false, none⟩
    let s (q : PayRequest) (o : Option CacheEntry) (st : StoreState) (w : List Sweep) (l : List LockEntry) (d : List AccountNo) : State :=
      let x := probing o
      { x with
        payment := { x.payment with contexts := x.payment.contexts.set 0 ⟨some q, .lookup, false⟩, locks := l, damaged := d }
        store := { x.store with state := st }
        cache := { x.cache with sweepQueue := w } }
    (∀ q o st w l d, (s q o st w l d).Runs ∧ (s q o st w l d).cache.access = some .lookup ∧ (s q o st w l d).cache.lookups = 0 :: [] ∧
      (s q o st w l d).context 0 = ⟨some q, .lookup, false⟩ ∧ (s q o st w l d).payment.locks = l ∧
      (s q o st w l d).payment.damaged = d ∧ (s q o st w l d).cache.sweepQueue = w) ∧
    (s (.probe card .washer) none .down [] [] []).storeUp = false ∧
    PayRequest.vend? (.authorise 0 .washer card 2 0 7) = some ⟨0, .washer, card, 2, 0, 7, false⟩ ∧
    PayRequest.vend? (.extend 0 card 0 1 7) = some ⟨0, .dryer, card, 0, 1, 7, true⟩ ∧
    ((s (.probe card .washer) (some e) .up [.floor 0] [] []).cache.targets.any fun x => x.matches e) = true ∧
    ((s (.probe card .washer) (some e) .up [.floor 1] [] []).cache.targets.any fun x => x.matches e) = false ∧
    look (look (s (.probe card .washer) (some e) .up [] [] []).cache.sets (CardPath.set ⟨0, 0, 0⟩)).ways 2 = some e ∧
    (e.attributes.washersOnly = true ∧ e.attributes.dryersOnly = false ∧ e.hold = false) ∧
    (look exampleWasher.washers 2).price ≠ 0 ∧ (look ready.tariff.dryers 0).price = 0 ∧
    (∀ z ∈ [(⟨204, 3, []⟩ : LockEntry)], z.account ≠ 205) :=
  ⟨fun _ _ _ _ _ _ => ⟨⟨rfl, .inr fun _ h => nomatch (show _ ∈ ([] : List Transaction) from h)⟩, rfl, rfl, rfl, rfl, rfl, rfl⟩, rfl,
    rfl, rfl, by decide, by decide, by decide, by decide, by decide, by decide, by decide⟩

/-- Context 0 with its transaction at the head, a current request, and the store, the lock list and the damaged list as given. -/
def reaching (a : Access) (x : Context) (f : Fram) (l : List LockEntry) (d : List AccountNo) : State :=
  let s := accessing a x
  { s with fram := f, payment := { s.payment with locks := l, damaged := d } }

theorem reaching_meets (a : Access) (x : Context) (f : Fram) (l : List LockEntry) (d : List AccountNo) :
    (reaching a x f l d).Runs ∧ (reaching a x f l d).storeUp = true ∧ (reaching a x f l d).store.queue = ⟨.context 0, a⟩ :: [] ∧
      (reaching a x f l d).host.buffer = [⟨0x22, 1, []⟩] ∧ (reaching a x f l d).context 0 = x ∧ (reaching a x f l d).fram = f ∧
      (reaching a x f l d).payment.locks = l ∧ (reaching a x f l d).payment.damaged = d ∧
      (reaching a x f l d).supervisor.log = [] :=
  ⟨⟨rfl, .inl rfl⟩, rfl, rfl, rfl, rfl, rfl, rfl, rfl, rfl⟩

/-- A flat page with a TABLE at flat 6, and a card page with a descriptor at ordinal 1. -/
def flatWith : FlatPage := (Vector.replicate 16 ⟨none, false⟩).set 6 ⟨some 9, true⟩
def cardWith (d : CardDescriptor) : CardPage := (Vector.replicate 4 .invalid).set 1 d

/-- A walk's reads at each level: a damaged record, INVALID, TABLE, INDIRECT, and an account with and without its marker. -/
theorem witness_DirectoryAccessesGoOn_walk :
    let w (x : WalkAt) (t : Option CardPath) : Walk := ⟨⟨17, 6, 1⟩, .washer, t, x, false, [], false⟩
    (∀ x t, (w x t).at_ = x ∧ (w x t).target = t ∧ (w x t).restarted = false) ∧
    (Fram.blank.perform .readFloors).1 = .damaged ∧ (Fram.blank.perform (.readFlatPage 3)).1 = .damaged ∧
    (∀ y, ((Fram.blank.setFlatPage 3 y).perform (.readFlatPage 3)).1 ≠ .damaged) ∧
    (∀ y, (Fram.blank.setFlatPage 3 y).flatPage 3 = some y) ∧ (∀ y, (Fram.blank.setCardPage 9 y).cardPage 9 = some y) ∧
    (look flatWith 6).page = some 9 ∧ (look flatWith 7).page = none ∧
    (∀ d, look (cardWith d) 1 = d) ∧
    PayRequest.vend? (.authorise 0 .washer ⟨1, ⟨17, 6, 1⟩⟩ 0 0 7) ≠ none :=
  ⟨fun _ _ => ⟨rfl, rfl, rfl⟩, rfl, rfl, fun y => by simp [Fram.perform, readResult], fun _ => Fram.flatPage_setFlatPage _ _ _,
    fun _ => Fram.cardPage_setCardPage _ _ _, by decide, by decide, fun _ => rfl, nofun⟩

/-- A directory request's reads: its path, the locks it takes, its target, the page below a TABLE, and its new account. -/
theorem witness_DirectoryAccessesGoOn_request :
    let p : CardPath := ⟨17, 6, 1⟩
    let tab : FloorTable := (Vector.replicate 64 ⟨none, false⟩).set 17 ⟨some 3, true⟩
    let j (q : DirPath) (w : Option NewDescriptor) (x : DirAt) : DirJob := ⟨q, w, x, none, none, none, none, none, none, []⟩
    let gain : NewDescriptor := .account 205 noAttributes false
    let old : CardDescriptor := .account 100 noAttributes false true 4
    (∀ q w x, (j q w x).path = q ∧ (j q w x).write = w ∧ (j q w x).locks = []) ∧
    (DirAt.floor.access = .readFloors ∧ DirAt.targetFloor.access = .readFloors ∧ (DirAt.belowFloor 3).access = .readFlatPage 3 ∧
      (DirAt.belowFlat 9).access = .readCardPage 9) ∧
    (∀ f, DirPath.card p ≠ .floor f) ∧ (look tab 17).page = some 3 ∧ (look tab 16).page = none ∧ (look tab 17).hold = true ∧
    (∀ t h, gain ≠ .indirect t h) ∧
    look (cardWith old) p.ordinal = old ∧
    (∀ b ∈ [(100 : AccountNo), 205], ∀ e ∈ [(⟨204, 3, []⟩ : LockEntry)], e.account ≠ b) ∧
    ¬ (∀ e ∈ [(⟨205, 3, []⟩ : LockEntry)], e.account ≠ 205) ∧
    (old.account?.isSome = true ∧ CardDescriptor.invalid.account? = none) ∧
    ((∃ k, (look flatWith k).page ≠ none) ∧ ∀ k, (look (Vector.replicate 16 (⟨none, false⟩ : FlatDescriptor)) k).page = none) ∧
    ((∃ k, look (cardWith old) k ≠ .invalid) ∧ ∀ k, look (cardWith .invalid) k = .invalid) ∧
    -- what the plan of a write looks at: a lone card on the last flat, and pools that hold pages or none
    (∀ k, k ≠ p.ordinal → look (cardWith old) k = .invalid) ∧ (∀ k, k ≠ p.flat → (look flatWith k).page = none) ∧
    ({ ready.directory with freeFlats := [0] } : DirectoryUnit).freeFlats.head? = some 0 ∧ ready.directory.freeFlats = [] ∧
      ({ ready.directory with freeCards := [0, 1] } : DirectoryUnit).freeCards.head? = some 0 ∧ ready.directory.freeCards = [] :=
  ⟨fun _ _ _ => ⟨rfl, rfl, rfl⟩, ⟨rfl, rfl, rfl, rfl⟩, nofun, by decide, by decide, by decide, nofun, rfl, by decide, by decide,
    by decide, by decide, by decide, by decide, by decide, rfl, rfl, rfl, rfl⟩

/-- A directory write's store write with each effect, its locks held among others', the last one and one before it, and one that finds
its record damaged. -/
theorem witness_DirectoryAccessesGoOn_write :
    let p : CardPath := ⟨17, 6, 1⟩
    let w (e : DirEffect) : DirWrite := ⟨.updateCard 9 1 .invalid, .card p, e⟩
    let x (l : List DirWrite) : DirWrites := ⟨.card p, l, some 205, none, true, [205]⟩
    (∀ e l, (x (w e :: l)).writes.head? = some (w e) ∧ (w e).access = .updateCard 9 1 .invalid ∧ (w e).effect = e ∧
      (x (w e :: l)).writes.tail = l ∧ (x (w e :: l)).path = .card p) ∧
    (([⟨7, 1, []⟩, ⟨205, 0, []⟩] : List LockEntry).filter fun e => [(205 : AccountNo)].contains e.account) =
      ([205].map fun b => ⟨b, 0, []⟩) ∧
    (Fram.blank.perform (.updateCard 9 1 .invalid)).1 = .damaged ∧
    ∀ y, ((Fram.blank.setCardPage 9 y).perform (.updateCard 9 1 .invalid)).1 ≠ .damaged :=
  ⟨fun _ _ => ⟨rfl, rfl, rfl, rfl, rfl⟩, by decide, rfl, fun y => by simp [Fram.perform]⟩

/-- Account 205's requests at each stage, context 0 holding its lock alone: what each is about, a record that reads and one whose check
fails, and the waiters a lock passes to. -/
theorem witness_AccountAccessesGoOn_stages :
    let x (st : AccountState) : Account := ⟨st, 1000, 0, 0, 1, 0, 0⟩
    let p : Part := { part with payer := some 205 }
    let y : Payer := ⟨205, noAttributes, .directory⟩
    let j : SettleJob := ⟨0, 7, .completed, 30, 0, .washer, 0, ⟨2, 10, 25⟩, true, [p, p, p, p], []⟩
    let waits (g : Stage) : State := let s := reaching (.readAccount 205) Context.initial Fram.blank [⟨205, 0, [1]⟩] []
      { s with payment := { s.payment with contexts := s.payment.contexts.set 1 ⟨some (.settle 0 7 .completed 30 0), g, false⟩ } }
    (([⟨7, 1, []⟩, ⟨205, 0, []⟩] : List LockEntry).filter fun e => e.account == 205) = [⟨205, 0, []⟩] ∧
    (Fram.blank.account 205 = none ∧ ∀ st, (Fram.blank.setAccount 205 (x st)).account 205 = some (x st)) ∧
    (∀ st, (x st).state = st) ∧ y.account = 205 ∧ PayRequest.vend? (.authorise 0 .washer ⟨1, ⟨17, 6, 1⟩⟩ 0 0 7) ≠ none ∧
    (j.todo = p :: [p, p, p] ∧ p.payer = some 205 ∧ 0 < p.hold ∧ j.todo.length ≤ 4) ∧
    ((replying (machineIn .running (some session)) Context.initial).session 0 = some session ∧ part.payer = some 1) ∧
    ((entry 1 [owed]).parts.find? (fun p => !p.written && p.payer.isSome) = some owed ∧ owed.payer = some 205 ∧
      (entry 1 [owed, owed, owed, owed]).parts.length ≤ 4) ∧
    -- where the judgements of the host operations meet
    ((0 : Nat) < 1 ∧ (1000 : Int) + 998999 ≤ 999999 ∧ (999999 : Int) < 1000 + 999000 ∧ ¬ (1000 : Int) + -11000 < -10000 ∧
      (1000 : Int) + -11001 < -10000) ∧
    -- a directory write's new account, its lock held
    (([⟨205, 0, []⟩, ⟨7, 1, []⟩] : List LockEntry).filter fun e => [(205 : AccountNo)].contains e.account) =
      ([205].map fun k => ⟨k, 0, []⟩) ∧
    -- the first waiter
    ((waits .free).payment.locks.filter fun e => e.account == 205) = [⟨205, 0, [1]⟩] ∧ (1 : ContextNo) ≠ 0 ∧
      (∀ g, ((waits g).context 1).stage = g) ∧ (j.todo.head?.bind Part.payer = some 205) ∧
      (waits .free).payment.damaged = [] :=
  ⟨by decide, ⟨rfl, fun _ => Fram.account_setAccount _ _ _⟩, fun _ => rfl, rfl, nofun, by decide, ⟨rfl, rfl⟩, by decide, by decide,
    by decide, by decide, by decide, fun _ => rfl, rfl, rfl⟩

/-- The transactions on slots: a damaged slot and an empty one, a copy of another session, a PART_RELEASE's mark with the lock free, held
and its account damaged, and a deferred entry that leaves an empty list and one of 64. -/
theorem witness_SlotAccessesGoOn_stages :
    let p : Part := { part with payer := some 205 }
    let release : PayRequest := .partRelease 0 7 2 p true
    let keeping (l : List Deferred) : State :=
      let s := reaching (.slotRemove 0 7) ⟨some (.deferred 1), .deferredSlot (entry 1 []), false⟩ Fram.blank [] []
      let x : Context := ⟨some (.settle 0 7 .completed 30 0), .reply (.settled [] none) (some (entry 2 [owed])), false⟩
      { s with payment := { s.payment with contexts := s.payment.contexts.set 1 x }, store := { s.store with deferred := l } }
    (Fram.blank.slot 0 = none ∧ (Fram.blank.setSlot 0 ⟨none, none⟩).slot 0 = some ⟨none, none⟩) ∧
    ((⟨8, 0, .immediate, 30, 0, 0, []⟩ : SlotCopy).id ≠ 7 ∧ (4 : Nat) ≤ 4) ∧
    (release = .partRelease 0 7 2 p true ∧ p.payer = some 205 ∧ (∀ e ∈ ([] : List LockEntry), e.account ≠ 205) ∧
      ¬ (∀ e ∈ [(⟨205, 3, []⟩ : LockEntry)], e.account ≠ 205) ∧ (205 : AccountNo) ∈ [(205 : AccountNo)]) ∧
    (∀ l, ∃ k h e, ((keeping l).context k).stage = .reply h (some e)) ∧
    ((entry 1 [] :: (List.range 63).map fun k => entry (k + 2) []).filter fun d => d.key != 1).length < 64 ∧
    ([entry 3 []].map Deferred.key).Nodup :=
  ⟨⟨rfl, Fram.slot_setSlot _ _ _⟩, by decide, ⟨rfl, rfl, by decide, by decide, by decide⟩, fun _ => ⟨1, _, _, rfl⟩, by decide,
    by decide⟩

/-- The scan at a step of it, with nothing else at work, and the transaction it waits for. -/
def scanning (k : ScanAt) (a : Access) (f : Fram) (three : Option SegmentThree) : State := { ready with
  startUp := .scanning
  scan := { Scan.initial with at_ := k, three := three }
  store := (withStore [⟨.scanner, a⟩]).store
  fram := f }

theorem scanning_alone (k : ScanAt) (a : Access) (f : Fram) (three : Option SegmentThree) : (scanning k a f three).ScanAlone :=
  fun _ => ⟨rfl, rfl, fun m => by
      have h : (scanning k a f three).machine m = MachineRecord.initial := Vector.getElem_replicate _
      have l : (scanning k a f three).link m = { Link.initial with slow := .expired } := Vector.getElem_replicate _
      rw [h, l]
      decide,
    rfl, fun c => by
      have h : (scanning k a f three).context c = Context.initial := Vector.getElem_replicate _
      rw [h]
      decide,
    rfl, rfl, fun r => by
      have h : look (scanning k a f three).feeder.rooms r = RoomFeeder.initial := Vector.getElem_replicate _
      dsimp only
      rw [h]
      decide, fun r => by
      have h : (scanning k a f three).guard r = RoomGuard.initial := Vector.getElem_replicate _
      dsimp only
      rw [h]
      decide⟩

/-- The scan's segments, its account pass at account 1023, and its end, with the log at the last place that takes a record of each
room. -/
theorem witness_PortTransactionsComplete_ends :
    let three : SegmentThree := ⟨90, 15, 10, Vector.replicate 4 Window.initial, ⟨Vector.replicate 4 true, .lru, 2, 4⟩, .resumeFirst, 0,
      64, 63, LampMap.initial, ready.host.mask⟩
    let four : SegmentFour := ⟨Vector.replicate 8 true, Vector.replicate 7 .note⟩
    let f : Fram := { Fram.blank with
      two := some (.make (.segment 1) exampleWasher), three := some (.make (.segment 2) three), four := some (.make (.segment 3) four) }
    let x : Account := ⟨.opened, 0, 0, 0, 0, 0, 0⟩
    (∀ k a f z, (scanning k a f z).Runs ∧ (scanning k a f z).storeUp = true ∧ (scanning k a f z).store.queue = ⟨.scanner, a⟩ :: [] ∧
      (scanning k a f z).scan.at_ = k ∧ (scanning k a f z).scan.three = z ∧ (scanning k a f z).fram = f ∧
      (scanning k a f z).scan.changed = [] ∧ (scanning k a f z).ScanAlone ∧ (scanning k a f z).supervisor.log = []) ∧
    (f.segmentTwo = some exampleWasher ∧ f.segmentThree = some three ∧ f.segmentFour = some four) ∧
    (Fram.blank.perform (.readSegment 3)).1 = .damaged ∧
    ((1023 : AccountNo).1 = 1023 ∧ (Fram.blank.setAccount 1023 x).account 1023 = some x ∧ x.held = ([] : List Nat).sum) ∧
    (List.replicate 76 ()).length + 4 ≤ 80 :=
  ⟨fun _ _ _ _ => ⟨⟨rfl, .inl rfl⟩, rfl, rfl, rfl, rfl, rfl, rfl, scanning_alone _ _ _ _, rfl⟩,
    ⟨checked_make _ _, checked_make _ _, checked_make _ _⟩, rfl, ⟨rfl, Fram.account_setAccount _ _ _, rfl⟩, by decide⟩

/-- A step from a state within the bounds, and one while the scan runs. -/
theorem witness_FeederBoundsAreKept_step :
    let fed : State := { ready with
      feeder := { exampleFeeder .alternate with limit := 0 }, pending := [.configSetGrant 0 .alternate 40 64 63] }
    let scan : State := { scanning (.segment 0) (.readSegment 0) Fram.blank none with pending := [.scanTransactionDone] }
    (fed.feeder.Bounded ∧ fed.feeder.Consistent ∧ fed.feeder.Drained ∧ fed.ScanAlone ∧ ∃ t, step fed = .next t) ∧
    scan.feeder.Bounded ∧ scan.feeder.Consistent ∧ scan.feeder.Drained ∧ scan.ScanAlone ∧ ∃ t, step scan = .next t := by
  refine ⟨⟨?_, ?_, (Feeder.drained_iff _).mpr (by decide), fun h => absurd rfl h, _, rfl⟩, ?_, ?_,
    (Feeder.drained_iff _).mpr (by decide), scanning_alone (.segment 0) (.readSegment 0) Fram.blank none, _, rfl⟩ <;>
    first | unfold Feeder.Bounded | unfold Feeder.Consistent
  all_goals decide

end Sys2Proof.Tests
end

section
/-! SUPPORT. MACHINE_QUERY: a request whose owner answers it at once and changes nothing (R27, R197), and the layout of its
results (10.6). -/
namespace Sys2Proof.Machine

/-- A request that its owner only answers: of the next state nothing but the host link is changed by it (R196, R197). -/
theorem Replies.of_own {s : State} {tag : Byte} {q : Request} {c : Instr} {st : Status} {res : List Byte} (h : s.Takes)
    (hc : c.request? = some (tag, q)) (hp : Request.passes q = true)
    (ho : (s.withRequest tag q).own q = (s.withRequest tag q).reply st res) :
    Replies (exec c s) s tag q st res [] fun _ => True := by
  obtain ⟨hpow, hset⟩ := h.1
  have hkept : Kept [.host] s (s.withRequest tag q) := by
    refine ⟨rfl, fun b hb => ?_⟩
    cases b
    case host => simp at hb
    all_goals rfl
  exact RepliesFrom.intro s.host hpow (exec_request c s tag q hc) ((s.request_owner tag q h hp).trans ho) rfl hset hkept trivial

/-- A machine number above 63 names no machine (log entry 19). -/
theorem State.withMachine_above (s : State) {m : Nat} (f : MachineNo → State) (h : 63 < m) :
    s.withMachine m f = s.refuse .badArgument := by
  have hm : ¬ m < 64 := by omega
  simp [State.withMachine, index?, hm]

/-- A machine number 0 to 63 is judged to be that machine. -/
@[simp] theorem State.withMachine_val (s : State) (m : MachineNo) (f : MachineNo → State) : s.withMachine m.1 f = f m := by
  simp [State.withMachine, index?]

/-- The flags byte of three yes/no fields, bit 0 first (10.6). -/
theorem ofBits_three (a b c : Bool) :
    ofBits [a, b, c] = (if a then 1 else 0) + (if b then 2 else 0) + (if c then 4 else 0) := by
  cases a <;> cases b <;> cases c <;> rfl

/-- The fields of MACHINE_QUERY's results that a machine's record gives, in their order (10.6). -/
def recordFields (m : MachineNo) (r : MachineRecord) : List (List Byte) :=
  [u8 m.1, u8 r.state.code, u8 r.cls.code, u8 r.room.1,
    u8 ((if r.assigned then 1 else 0) + (if r.enabled then 2 else 0) + (if r.session.isSome then 4 else 0)),
    u8 (faultCode r.lockout), u8 (EndCause.code r.lastEnd), u8 (faultCode (EndCause.fault? r.lastEnd)), u8 r.outstanding.code]

/-- The fields of MACHINE_QUERY's results that a session gives, in their order (10.6). -/
def sessionFields (x : Session) : List (List Byte) :=
  [u16 x.id, u8 x.mode.code, u8 x.programme.1, u16 x.units, u16 x.elapsed, u16 x.paused, u16 x.delay, u8 x.heat.code,
    u8 x.increment, yesNo x.finishSent, partListBytes x.parts]

/-- Without a session MACHINE_QUERY's results are the record's fields alone (R27). -/
theorem machineBytes_of_none (m : MachineNo) (r : MachineRecord) (h : r.session = none) :
    machineBytes m r = (recordFields m r).flatten := by
  simp [machineBytes, recordFields, h, ofBits_three]

/-- With a session present its fields follow the record's (R27). -/
theorem machineBytes_of_some (m : MachineNo) (r : MachineRecord) (x : Session) (h : r.session = some x) :
    machineBytes m r = (recordFields m r).flatten ++ (sessionFields x).flatten := by
  simp [machineBytes, sessionBytes, recordFields, sessionFields, h, ofBits_three]

/-- MACHINE_QUERY of a machine 0 to 63 is answered with that machine's results, and changes nothing (R27). -/
theorem replies_machineQuery (s : State) (tag : Byte) (h : s.Takes) (m : MachineNo) :
    Replies (exec (.machineQuery tag m.1) s) s tag (.machineQuery m.1) .ok (machineBytes m (s.machine m)) [] fun _ => True :=
  Replies.of_own h rfl rfl (State.withMachine_val _ m _)

/-- Settles O28: a number above 63 is refused by its judgement; any other machine's results are its record's fields, and with a
session present the session's after them. -/
theorem machineQueryReports : Obligations.MachineQueryReports := by
  intro s tag h
  refine ⟨fun m hm => ?refused, fun m => ?answered⟩
  case refused => exact Replies.of_own h rfl rfl (State.withMachine_above _ _ hm)
  case answered =>
    have hreply := replies_machineQuery s tag h m
    dsimp only
    cases hs : (s.machine m).session with
    | none => simpa [machineBytes_of_none m _ hs, recordFields, hs] using hreply
    | some x => simpa [machineBytes_of_some m _ x hs, recordFields, sessionFields, hs] using hreply

end Sys2Proof.Machine
end

section
/-! SUPPORT. The tariff calculator's stages 2 and 3: what a part's gross and its net price are, and the bounds on both
(R130, R131). -/
namespace Sys2Proof.Machine

/-! ## Stage 2 -/

/-- A washer's gross (R130). -/
theorem Tariff.gross_of_washer (t : Tariff) {q : PriceRequest} (f : Nat) (h : q.cls = .washer) :
    t.gross q f = ((look t.washers q.programme).price * f + 500) / 1000 := by
  simp [Tariff.gross, h]

/-- A dryer's gross, computed on the whole part (R130). -/
theorem Tariff.gross_of_dryer (t : Tariff) {q : PriceRequest} (f : Nat) (h : q.cls = .dryer) :
    t.gross q f = (q.count * (look t.dryers q.programme).price * f + 500) / 1000 := by
  simp [Tariff.gross, h]

/-- Rounding half up does not pass a whole bound: 500 is less than one more thousand. -/
theorem rounded_le {x k : Nat} (h : x ≤ k * 1000) : (x + 500) / 1000 ≤ k := by omega

/-- The largest product of a washer's gross (R130). -/
theorem washer_product_le {b f : Nat} (hb : b ≤ 2000) (hf : f ≤ 2500) : b * f ≤ 5000000 :=
  Nat.mul_le_mul hb hf

/-- The largest product of a dryer's gross (R130). -/
theorem dryer_product_le {n i f : Nat} (hn : n ≤ 12) (hi : i ≤ 500) (hf : f ≤ 2500) : n * i * f ≤ 15000000 :=
  Nat.mul_le_mul (Nat.mul_le_mul hn hi) hf

theorem Tariff.gross_le_of_washer (t : Tariff) {q : PriceRequest} {f : Nat} (h : q.cls = .washer)
    (hb : (look t.washers q.programme).price ≤ 2000) (hf : f ≤ 2500) : t.gross q f ≤ 15000 := by
  have hproduct := washer_product_le hb hf
  rw [t.gross_of_washer f h]
  exact rounded_le (by omega)

theorem Tariff.gross_le_of_dryer (t : Tariff) {q : PriceRequest} {f : Nat} (h : q.cls = .dryer) (hn : q.count ≤ 12)
    (hi : (look t.dryers q.programme).price ≤ 500) (hf : f ≤ 2500) : t.gross q f ≤ 15000 := by
  rw [t.gross_of_dryer f h]
  exact rounded_le (dryer_product_le hn hi hf)

/-- A zero-priced programme's gross is 0 at every factor, whichever class the request names (R103, R130). -/
theorem Tariff.gross_of_zeroPriced (t : Tariff) {q : PriceRequest} (f : Nat) (h : t.zeroPriced q.cls q.programme = true) :
    t.gross q f = 0 := by
  cases hc : q.cls with
  | washer =>
    have hb : (look t.washers q.programme).price = 0 := by simpa [Tariff.zeroPriced, hc] using h
    simp [t.gross_of_washer f hc, hb]
  | dryer =>
    have hi : (look t.dryers q.programme).price = 0 := by simpa [Tariff.zeroPriced, hc] using h
    simp [t.gross_of_dryer f hc, hi]

/-! ## Stage 3 -/

/-- The discount of at most 1000 thousandths is at most the gross, so the net's subtraction is exact (R131). -/
theorem discount_le_gross (gross : Nat) {d : Nat} (h : d ≤ 1000) : gross * d / 1000 ≤ gross := by
  have hproduct : gross * d ≤ gross * 1000 := Nat.mul_le_mul_left gross h
  omega

/-- The net and the discount together make up the gross (R131). -/
theorem Tariff.net_add_discount (t : Tariff) (gross : Nat) {g : Fin 8} (h : look t.discounts g ≤ 1000) :
    t.net gross g + gross * look t.discounts g / 1000 = gross :=
  Nat.sub_add_cancel (discount_le_gross gross h)

theorem Tariff.net_le_gross (t : Tariff) (gross : Nat) (g : Fin 8) : t.net gross g ≤ gross := Nat.sub_le _ _

theorem Tariff.net_of_no_discount (t : Tariff) (gross : Nat) {g : Fin 8} (h : look t.discounts g = 0) :
    t.net gross g = gross := by
  simp [Tariff.net, h]

theorem Tariff.net_of_whole_discount (t : Tariff) (gross : Nat) {g : Fin 8} (h : look t.discounts g = 1000) :
    t.net gross g = 0 := by
  simp [Tariff.net, h]

/-- Settles O59: the gross by class, its bound from the largest product, and the net as what the discount leaves of the gross; the
manual's examples are these equations evaluated. -/
theorem grossAndNetAreRounded : Obligations.GrossAndNetAreRounded := by
  intro t q f gross g b i d washer dryer
  have hwasher : t.gross washer f = (b * f + 500) / 1000 := t.gross_of_washer f rfl
  have hdryer : t.gross dryer f = (q.count * i * f + 500) / 1000 := t.gross_of_dryer f rfl
  have hnet : t.net gross g = gross - gross * d / 1000 := rfl
  refine ⟨hwasher, hdryer, ?washer138, ?washer455, ?dryer152, ?washerBound, ?dryerBound, ?washerFree, ?dryerFree, ?net, ?net387⟩
  case washer138 => intro hb hf; rw [hwasher, hb, hf]
  case washer455 => intro hb hf; rw [hwasher, hb, hf]
  case dryer152 => intro hn hi hf; rw [hdryer, hn, hi, hf]
  case washerBound => exact fun hb hf => ⟨washer_product_le hb hf, t.gross_le_of_washer rfl hb hf⟩
  case dryerBound => exact fun hn hi hf => ⟨dryer_product_le hn hi hf, t.gross_le_of_dryer rfl hn hi hf⟩
  case washerFree => exact fun hb => t.gross_of_zeroPriced f (beq_iff_eq.mpr hb)
  case dryerFree => exact fun hi => t.gross_of_zeroPriced f (beq_iff_eq.mpr hi)
  case net =>
    intro hd
    have hsum : t.net gross g + gross * d / 1000 = gross := t.net_add_discount gross hd
    refine ⟨by omega, t.net_le_gross gross g, t.net_of_no_discount gross, fun hwhole => ⟨?_, t.net_of_whole_discount gross hwhole⟩,
      fun hg => Nat.mul_le_mul hg hd⟩
    rw [hwhole, Nat.mul_div_cancel gross (by decide)]
  case net387 =>
    intro hg hd
    rw [hnet, hg, hd]
    decide

end Sys2Proof.Machine
end

section
/-! SUPPORT. Shedding, room by room and then the building (R150). -/
-- This theorem waits for all of the text above it, so that what follows is not checked at the same time: the whole text is compiled under one memory limit.
set_option Elab.async false
namespace Sys2Proof.Machine.Feeder

/-- Shedding with its five parts written out: the unit is what the building's part leaves, and the machines withdrawn are listed in the
order of the parts. -/
theorem shed_parts (isDryer : MachineNo → Bool) (f : Feeder) :
    (shed isDryer f).1 =
        (let a := shedRoom isDryer f 0
        let b := shedRoom isDryer a.1 1
        let c := shedRoom isDryer b.1 2
        let d := shedRoom isDryer c.1 3
        (shedWhile isDryer (indexes 4) (fun g => decide (g.effectiveLimit < g.total)) d.1.order.length d.1).1) ∧
      (shed isDryer f).2 =
        (let a := shedRoom isDryer f 0
        let b := shedRoom isDryer a.1 1
        let c := shedRoom isDryer b.1 2
        let d := shedRoom isDryer c.1 3
        let e := shedWhile isDryer (indexes 4) (fun g => decide (g.effectiveLimit < g.total)) d.1.order.length d.1
        a.2 ++ b.2 ++ c.2 ++ d.2 ++ e.2) := by
  constructor
  · exact rfl
  · exact rfl

end Sys2Proof.Machine.Feeder
end

section
/-! SUPPORT. What every command leads to, said once: an event of a powered part is its effect and then the end of the event; without
power only the application of power and a pin's change act. From it, how an invariant of every step is proved, and what every event
leaves of power, the waiting commands, the store's records, the timebase and the rule lock. -/
namespace Sys2Proof.Machine

/-! ## Commands as events -/

/-- What a command does to a powered part before the event ends; nothing for the application and the removal of power, which are no
events of a powered part. -/
def effect : Instr → State → State
  | .softReset => State.beginSoftReset
  | .hostByteReceived b => (State.hostByte · b)
  | .gapTimerExpiry => State.gapExpiry
  | .hostFrameSent => State.frameSent
  | .configSegmentWriteDone => State.segmentWritten
  | .nodeReply r => (State.nodeReply · r)
  | .replyTimeout => State.replyTimeout
  | .slowTimerExpiry m => (State.modLink · m Link.slowExpires)
  | .lostTimerExpiry m => (State.lostExpiry · m)
  | .armTimerExpiry m => (State.armExpiry · m)
  | .minuteTimerExpiry m => (State.minuteExpiry · m)
  | .graceTimerExpiry m => (State.graceExpiry · m)
  | .recoveryWindowExpiry m => (State.recoveryExpiry · m)
  | .authoriseResult m => (State.takeAuthorise · m)
  | .extendResult m => (State.takeExtend · m)
  | .settleComplete m => (State.takeSettled · m)
  | .partReleaseComplete m => (State.takeReleased · m)
  | .contextTakeRequest => State.takeRequest
  | .cacheLookup => State.cacheLookup
  | .sweepStep => State.sweepStep
  | .walkReadDone => (State.contextEvent · Stage.readsDirectory)
  | .accountReadDone => (State.contextEvent · Stage.readsAccount)
  | .accountWriteDone => (State.contextEvent · Stage.writesAccount)
  | .slotReadDone => (State.contextEvent · Stage.readsSlot)
  | .slotWriteDone => (State.contextEvent · Stage.writesSlot)
  | .directoryStoreWriteDone => (State.contextEvent · Stage.writesDirectory)
  | .demandTimerExpiry => State.demandExpiry
  | .leakInputChange r high => (State.leakInput · r high)
  | .debounceExpiry r => (State.debounceExpiry · r)
  | .storeFailure => State.storeFails
  | .probeTimerExpiry => State.probeExpiry
  | .probeComplete valid => (State.probeDone · valid)
  | .dayUpdateDone => State.dayDone
  | .slotRefreshDone => State.refreshDone
  | .scanTransactionDone => State.scanTransaction
  | .timebaseMinute => State.minutePasses
  | c => fun s => match c.request? with
    | some (tag, q) => s.request tag q
    | none => s

/-- Any command but the application and the removal of power. -/
def isEvent (c : Instr) : Prop := c ≠ .powerOnReset ∧ ∀ cut, c ≠ .powerLoss cut

/-- What a command does to a part without power: a pin's change is remembered, and nothing else happens (log entry 12). -/
def effectUnpowered : Instr → State → State
  | .leakInputChange r high => (State.setInput · r high)
  | _ => id

theorem act_powered (f : State → State) {s : State} (h : s.powered = true) : act f s = .next (f s).conclude := by
  simp [act, h]

theorem act_unpowered (f : State → State) {s : State} (h : s.powered = false) : act f s = .next s := by
  simp [act, h]

/-- But for power's own rows and the pins, a command is the effect of an event of the powered part. -/
theorem exec_eq_act {c : Instr} (s : State) (hc : isEvent c) (hpin : ∀ r high, c ≠ .leakInputChange r high) :
    exec c s = act (effect c) s := by
  obtain ⟨hon, hoff⟩ := hc
  cases c
  case powerOnReset => exact absurd rfl hon
  case powerLoss cut => exact absurd rfl (hoff cut)
  case leakInputChange r high => exact absurd rfl (hpin r high)
  all_goals rfl

/-- A command at a powered part is its effect and then the end of the event. -/
theorem exec_powered {c : Instr} {s : State} (hc : isEvent c) (hs : s.powered = true) :
    exec c s = .next (effect c s).conclude := by
  by_cases hpin : ∃ r high, c = .leakInputChange r high
  · obtain ⟨r, high, rfl⟩ := hpin
    exact (if_pos hs).trans (act_powered _ hs)
  · rw [exec_eq_act s hc fun r high h => hpin ⟨r, high, h⟩, act_powered _ hs]

/-- A command without power. -/
theorem exec_unpowered {c : Instr} {s : State} (hc : isEvent c) (hs : s.powered = false) :
    exec c s = .next (effectUnpowered c s) := by
  by_cases hpin : ∃ r high, c = .leakInputChange r high
  · obtain ⟨r, high, rfl⟩ := hpin
    exact if_neg (by simp [hs])
  · have heffect : effectUnpowered c s = s := by
      cases c
      case leakInputChange r high => exact absurd ⟨r, high, rfl⟩ hpin
      all_goals rfl
    rw [exec_eq_act s hc fun r high h => hpin ⟨r, high, h⟩, act_unpowered _ hs, heffect]

/-- Without power the only block an event can touch is a room's pin. -/
theorem effectUnpowered_cases (c : Instr) (s : State) :
    effectUnpowered c s = s ∨ ∃ r high, effectUnpowered c s = s.setInput r high := by
  cases c
  case leakInputChange r high => exact .inr ⟨r, high, rfl⟩
  all_goals exact .inl rfl

theorem exec_powerOnReset (s : State) : exec .powerOnReset s = .next s.powerUp.conclude := rfl

theorem exec_powerLoss (cut : PowerCut) (s : State) :
    exec (.powerLoss cut) s = .next (if s.powered then s.losePower cut else s) := rfl

/-- Every command answers a next state (log entry 2). -/
theorem exec_answers (c : Instr) (s : State) : ∃ t, exec c s = .next t := by
  by_cases hc : isEvent c
  · cases hp : s.powered with
    | true => exact ⟨_, exec_powered hc hp⟩
    | false => exact ⟨_, exec_unpowered hc hp⟩
  · by_cases hon : c = .powerOnReset
    · exact ⟨_, hon ▸ exec_powerOnReset s⟩
    · obtain ⟨cut, rfl⟩ : ∃ cut, c = .powerLoss cut := by
        by_contra hn
        exact hc ⟨hon, fun cut hcut => hn ⟨cut, hcut⟩⟩
      exact ⟨_, exec_powerLoss cut s⟩

/-- What every command keeps, from what each way of acting keeps. -/
theorem exec_keeps {P : State → Prop} {c : Instr} {s t : State} (hs : P s) (h : exec c s = .next t)
    (pin : ∀ r high, P (s.setInput r high)) (on : P s.powerUp.conclude) (off : ∀ cut, P (s.losePower cut))
    (event : s.powered = true → P (effect c s).conclude) : P t := by
  by_cases hc : isEvent c
  · cases hp : s.powered with
    | true =>
      rw [exec_powered hc hp] at h
      cases h
      exact event hp
    | false =>
      rw [exec_unpowered hc hp] at h
      cases h
      rcases effectUnpowered_cases c s with heq | ⟨r, high, heq⟩
      · rwa [heq]
      · rw [heq]; exact pin r high
  · by_cases hr : c = .powerOnReset
    · subst hr
      cases h
      exact on
    · obtain ⟨cut, rfl⟩ : ∃ cut, c = .powerLoss cut := by
        by_contra hn
        exact hc ⟨hr, fun cut hcut => hn ⟨cut, hcut⟩⟩
      rw [exec_powerLoss] at h
      cases h
      split
      · exact off cut
      · exact hs

/-- What every step keeps: the waiting commands aside, what every command keeps. -/
theorem step_keeps {P : State → Prop} {s t : State} (queue : ∀ u l, P u → P { u with pending := l })
    (hs : P s) (h : step s = .next t) (pin : ∀ u r high, P u → P (u.setInput r high))
    (on : ∀ u : State, P u → P u.powerUp.conclude) (off : ∀ u cut, P u → P (State.losePower u cut))
    (event : ∀ c u, P u → u.powered = true → P (effect c u).conclude) : P t := by
  unfold step at h
  split at h
  · cases h
    exact hs
  · rename_i c rest _
    have hu := queue s rest hs
    exact exec_keeps hu h (fun r high => pin _ r high hu) (on _ hu) (fun cut => off _ cut hu) (event c _ hu)

/-! ## What every event leaves -/

/-- As `State.Follows`, but that one transaction may have been carried out in the store. -/
def State.Advances (s t : State) : Prop :=
  t.powered = s.powered ∧ t.pending = s.pending ∧ (t.fram = s.fram ∨ ∃ a, t.fram = (s.fram.perform a).2) ∧
    (s.clock.minute ≤ 1439 → t.clock.minute ≤ 1439) ∧ (s.supervisor.ruleLock = true → t.supervisor.ruleLock = true)

theorem State.Follows.advances {s t : State} (h : s.Follows t) : s.Advances t := by
  obtain ⟨hpow, hpend, hfram, hmin, hlock⟩ := h
  exact ⟨hpow, hpend, .inl hfram, hmin, hlock⟩

theorem State.advances_of_still {s t : State} (h : t.still = s.still) : s.Advances t := (State.follows_of_still h).advances

theorem State.Advances.then {s t u : State} (h : s.Advances t) (k : u.still = t.still) : s.Advances u := by
  obtain ⟨hpow, hpend, hfram, hmin, hlock⟩ := h
  simp only [State.still, Prod.mk.injEq] at k
  obtain ⟨kpow, kpend, kfram, kclock, klock⟩ := k
  exact ⟨kpow.trans hpow, kpend.trans hpend, by rwa [kfram], by rwa [kclock], by rwa [klock]⟩

/-- Carrying out the head transaction changes the queue, and the store's records as its access says. -/
theorem State.carry_advances (s : State) (t : Transaction) (rest : List Transaction) : s.Advances (s.carry t rest).2 :=
  ⟨rfl, rfl, .inr ⟨t.access, rfl⟩, id, id⟩

theorem State.contextEvent_advances (s : State) (due : Stage → Bool) : s.Advances (s.contextEvent due) := by
  unfold State.contextEvent
  split
  · rename_i c a rest _
    split
    · exact (s.carry_advances ⟨.context c, a⟩ rest).then (by simp)
    · exact State.advances_of_still rfl
  · exact State.advances_of_still rfl

/-- A transaction of the store port's own issuers completes. -/
theorem State.ownEvent_advances (s : State) (due : Issuer → Bool) (f : Issuer → Result → State → State)
    (hf : ∀ i r t, (f i r t).still = t.still) : s.Advances (s.ownEvent due f) := by
  unfold State.ownEvent
  split
  · split
    · exact (s.carry_advances _ _).then (hf _ _ _)
    · exact State.advances_of_still rfl
  · exact State.advances_of_still rfl

/-- What a power loss or a reset leaves of the store is what it was or what its head transaction makes of it, unless cut short. -/
theorem State.cutFram_afterWrite (s : State) :
    s.cutFram .afterWrite = s.fram ∨ ∃ a, s.cutFram .afterWrite = (s.fram.perform a).2 := by
  unfold State.cutFram
  split
  · rename_i hcut; cases hcut
  · split
    · exact .inr ⟨_, rfl⟩
    · exact .inl rfl
  · exact .inl rfl

theorem State.softReset_advances (s : State) (h : s.powered = true) : s.Advances s.softReset :=
  ⟨h.symm, rfl, s.cutFram_afterWrite, id, id⟩

theorem State.frameSent_advances (s : State) (h : s.powered = true) : s.Advances s.frameSent := by
  unfold State.frameSent
  split
  · exact State.advances_of_still rfl
  · split
    · exact s.softReset_advances h
    · dsimp only
      split
      · exact (State.Follows.after (t := { s with host := { s.host with sending := none } }) rfl
          (State.nextRequest_follows _)).advances
      · exact State.advances_of_still rfl

theorem State.beginSoftReset_advances (s : State) (h : s.powered = true) : s.Advances s.beginSoftReset := by
  unfold State.beginSoftReset
  split
  · exact s.softReset_advances h
  · exact State.advances_of_still rfl

theorem State.minutePasses_advances (s : State) : s.Advances s.minutePasses := by
  refine ⟨rfl, rfl, .inl rfl, fun _ => ?_, id⟩
  simp only [State.minutePasses, Timebase.advance]
  split
  · simp only; omega
  · exact Nat.zero_le _

theorem State.refreshDone_advances (s : State) : s.Advances s.refreshDone :=
  s.ownEvent_advances _ _ fun i r t => by
    split <;> simp

/-- Every event of a powered part: each command by its own operation. -/
theorem effect_advances (c : Instr) (s : State) (h : s.powered = true) : s.Advances (effect c s) := by
  cases c
  case softReset => exact s.beginSoftReset_advances h
  case hostByteReceived b => exact (s.hostByte_follows b).advances
  case hostFrameSent => exact s.frameSent_advances h
  case timebaseMinute => exact s.minutePasses_advances
  case walkReadDone => exact s.contextEvent_advances _
  case accountReadDone => exact s.contextEvent_advances _
  case accountWriteDone => exact s.contextEvent_advances _
  case slotReadDone => exact s.contextEvent_advances _
  case slotWriteDone => exact s.contextEvent_advances _
  case directoryStoreWriteDone => exact s.contextEvent_advances _
  case dayUpdateDone => exact s.ownEvent_advances _ _ fun _ _ _ => rfl
  case slotRefreshDone => exact s.refreshDone_advances
  case configSegmentWriteDone => exact s.ownEvent_advances _ _ fun _ _ _ => by simp
  case scanTransactionDone => exact s.ownEvent_advances _ _ fun _ _ _ => by simp
  case powerOnReset => exact State.advances_of_still rfl
  case powerLoss => exact State.advances_of_still rfl
  case gapTimerExpiry => exact State.advances_of_still s.gapExpiry_still
  case nodeReply r => exact State.advances_of_still (s.nodeReply_still r)
  case replyTimeout => exact State.advances_of_still s.replyTimeout_still
  case slowTimerExpiry m => exact State.advances_of_still (s.modLink_still m _)
  case lostTimerExpiry m => exact State.advances_of_still (s.lostExpiry_still m)
  case armTimerExpiry m => exact State.advances_of_still (s.armExpiry_still m)
  case minuteTimerExpiry m => exact State.advances_of_still (s.minuteExpiry_still m)
  case graceTimerExpiry m => exact State.advances_of_still (s.graceExpiry_still m)
  case recoveryWindowExpiry m => exact State.advances_of_still (s.recoveryExpiry_still m)
  case authoriseResult m => exact State.advances_of_still (s.takeAuthorise_still m)
  case extendResult m => exact State.advances_of_still (s.takeExtend_still m)
  case settleComplete m => exact State.advances_of_still (s.takeSettled_still m)
  case partReleaseComplete m => exact State.advances_of_still (s.takeReleased_still m)
  case contextTakeRequest => exact State.advances_of_still s.takeRequest_still
  case cacheLookup => exact State.advances_of_still s.cacheLookup_still
  case sweepStep => exact State.advances_of_still s.sweepStep_still
  case demandTimerExpiry => exact State.advances_of_still s.demandExpiry_still
  case leakInputChange r high => exact State.advances_of_still (s.leakInput_still r high)
  case debounceExpiry r => exact State.advances_of_still (s.debounceExpiry_still r)
  case storeFailure => exact State.advances_of_still s.storeFails_still
  case probeTimerExpiry => exact State.advances_of_still s.probeExpiry_still
  case probeComplete valid => exact State.advances_of_still (s.probeDone_still valid)
  all_goals exact (State.request_follows s _ _).advances

/-- The end of an event included. -/
theorem event_advances (c : Instr) (s : State) (h : s.powered = true) : s.Advances (effect c s).conclude :=
  (effect_advances c s h).then (by simp)

/-! ## The obligations -/

/-- Settles O2: each way of acting answers a next state, and none touches the waiting commands. -/
theorem everyCommandKeepsQueue : Obligations.EveryCommandKeepsQueue := by
  intro c s
  have answers : ∃ t, exec c s = .next t := exec_answers c s
  obtain ⟨t, ht⟩ := answers
  refine ⟨t, ht, exec_keeps (P := fun u => u.pending = s.pending) rfl ht (fun _ _ => rfl) ?on (fun _ => rfl) ?event⟩
  case on =>
    have hstill : s.powerUp.conclude.still = s.powerUp.still := by simp
    obtain ⟨-, hpending, -⟩ := State.follows_of_still hstill
    exact hpending
  case event =>
    intro hp
    obtain ⟨-, hpending, -⟩ := event_advances c s hp
    exact hpending

/-- Settles O5: of the events only CLOCK_SET and the timebase's own minute move the minute, and both keep it in range; the rest keep
it, or reset it to 0. -/
theorem minuteStaysInRange : Obligations.MinuteStaysInRange := by
  intro s t hs h
  refine step_keeps (P := fun u => u.clock.minute ≤ 1439) (fun _ _ hu => hu) hs h (fun _ _ _ hu => hu) ?on
    (fun _ _ _ => Nat.zero_le _) ?event
  case on =>
    intro u _
    have hstill : u.powerUp.conclude.still = u.powerUp.still := by simp
    obtain ⟨-, -, -, hminute, -⟩ := State.follows_of_still hstill
    exact hminute (Nat.zero_le _)
  case event =>
    intro c u hu hp
    obtain ⟨-, -, -, hminute, -⟩ := event_advances c u hp
    exact hminute hu

/-- Settles O7: every event keeps a rule lock that is set, the soft reset among them. -/
theorem ruleLockOutlastsAllButPower : Obligations.RuleLockOutlastsAllButPower := by
  intro c s t hon hoff hs h
  cases hp : s.powered with
  | true =>
    rw [exec_powered ⟨hon, hoff⟩ hp] at h
    cases h
    obtain ⟨-, -, -, -, hlock⟩ := event_advances c s hp
    exact hlock hs
  | false =>
    rw [exec_unpowered ⟨hon, hoff⟩ hp] at h
    cases h
    rcases effectUnpowered_cases c s with heq | ⟨r, high, heq⟩ <;> rw [heq] <;> exact hs

/-- Settles O1: by the two cases of `step`. -/
theorem stepRunsFrontCommand : Obligations.StepRunsFrontCommand := by
  intro s
  refine ⟨fun c rest h => ?_, fun h => ?_⟩ <;> simp [step, h]

end Sys2Proof.Machine
end

section
/-! SUPPORT. The operands of host requests read back: what a request's payload carries of every operand is what its reading gives
(10.5, 10.6). -/
namespace Sys2Proof.Machine

/-! ## Numbers -/

theorem byte_mod {n : Nat} (h : isByte n = true) : n % 256 = n := Nat.mod_eq_of_lt (of_decide_eq_true h)

theorem get16_short {n : Nat} (h : isShort n = true) : get16 (n / 256 % 256) (n % 256) = n :=
  get16_u16 n (of_decide_eq_true h)

theorem get32_long {n : Nat} (h : isLong n = true) :
    get32 (n / 16777216 % 256) (n / 65536 % 256) (n / 256 % 256) (n % 256) = n :=
  get32_u32 n (of_decide_eq_true h)

theorem getI32_signed {z : Int} (h : isSigned z = true) :
    getI32 ((z % 4294967296).toNat / 16777216 % 256) ((z % 4294967296).toNat / 65536 % 256)
      ((z % 4294967296).toNat / 256 % 256) ((z % 4294967296).toNat % 256) = z := by
  obtain ⟨hlow, hhigh⟩ : -2147483648 ≤ z ∧ z < 2147483648 := by simpa [isSigned] using h
  exact getI32_i32 z hlow hhigh

/-- The bytes of a payload, as they are read. -/
def values (l : List Byte) : List Nat := l.map BitVec.toNat

theorem values_append (l r : List Byte) : values (l ++ r) = values l ++ values r := List.map_append

@[simp] theorem values_nil : values [] = [] := rfl

@[simp] theorem values_u8 (n : Nat) : values (u8 n) = [n % 256] := by simp [values, u8, byte_toNat]

@[simp] theorem values_u16 (n : Nat) : values (u16 n) = [n / 256 % 256, n % 256] := by simp [values, u16, byte_toNat]

@[simp] theorem values_u32 (n : Nat) :
    values (u32 n) = [n / 16777216 % 256, n / 65536 % 256, n / 256 % 256, n % 256] := by
  simp [values, u32, byte_toNat]

@[simp] theorem values_i32 (z : Int) :
    values (i32 z) = [(z % 4294967296).toNat / 16777216 % 256, (z % 4294967296).toNat / 65536 % 256,
      (z % 4294967296).toNat / 256 % 256, (z % 4294967296).toNat % 256] := values_u32 _

@[simp] theorem values_yesNo (b : Bool) : values (yesNo b) = [b.toNat % 256] := values_u8 _

/-- A request's frame is read by its code and its payload's bytes. -/
theorem parse_values (tag : Byte) (q : Request) :
    (requestFrame tag q).parse = parseFields (q.code % 256) (values (requestPayload q)) := parse_requestFrame tag q

/-! ## The readers, row by row -/

@[simp] theorem Parsed.of_some (q : Request) : Parsed.of (some q) = .request q := rfl

theorem parseFields_configSet (c i : Nat) (fs : List Nat) : parseFields 2 (c :: i :: fs) = Parsed.of ((itemOf c i fs).map .configSet) := rfl
theorem parseFields_configGet (c i : Nat) : parseFields 3 [c, i] = .request (.configGet c i) := rfl
theorem parseFields_clockSet (a b c d : Nat) : parseFields 5 [a, b, c, d] = .request (.clockSet (get16 a b) (get16 c d)) := rfl
theorem parseFields_machineQuery (m : Nat) : parseFields 16 [m] = .request (.machineQuery m) := rfl
theorem parseFields_control (fs : List Nat) : parseFields 17 fs = Parsed.of (controlOf fs) := rfl
theorem parseFields_directoryWrite (l f n o k fl x r1 r0 tf tn z p q : Nat) :
    parseFields 24 [l, f, n, o, k, fl, x, r1, r0, tf, tn, z, p, q] =
      Parsed.of ((rawPathOf l f n o).bind fun p => (rawDescriptorOf k fl x r1 r0 tf tn z).bind fun d => some (.directoryWrite p d)) := rfl
theorem parseFields_directoryRead (l f n o : Nat) : parseFields 25 [l, f, n, o] = Parsed.of ((rawPathOf l f n o).map .directoryRead) := rfl
theorem parseFields_cardProbe (s1 s0 f x c : Nat) : parseFields 26 [s1, s0, f, x, c] =
    Parsed.of ((cardOf s1 s0 f x).bind fun card => (MachineClass.ofCode c).bind fun cls => some (.cardProbe card cls)) := rfl
theorem parseFields_accountOpen (a1 a0 o1 o0 g : Nat) :
    parseFields 32 [a1, a0, o1, o0, g] = .request (.accountOpen (get16 a1 a0) (get16 o1 o0) g) := rfl
theorem parseFields_accountRead (a b : Nat) : parseFields 33 [a, b] = .request (.accountRead (get16 a b)) := rfl
theorem parseFields_accountCredit (a1 a0 b3 b2 b1 b0 : Nat) :
    parseFields 35 [a1, a0, b3, b2, b1, b0] = .request (.accountCredit (get16 a1 a0) (get32 b3 b2 b1 b0)) := rfl
theorem parseFields_accountAdjust (a1 a0 b3 b2 b1 b0 : Nat) :
    parseFields 36 [a1, a0, b3, b2, b1, b0] = .request (.accountAdjust (get16 a1 a0) (getI32 b3 b2 b1 b0)) := rfl
theorem parseFields_accountClose (a b : Nat) : parseFields 37 [a, b] = .request (.accountClose (get16 a b)) := rfl
theorem parseFields_cacheFlush (sc f n : Nat) : parseFields 40 [sc, f, n] = Parsed.of ((scopeOf sc f n).map .cacheFlush) := rfl
theorem parseFields_demandSet (a b c d : Nat) : parseFields 41 [a, b, c, d] = .request (.demandSet (get16 a b) (get16 c d)) := rfl
theorem parseFields_faultRead (a b c d n : Nat) : parseFields 48 [a, b, c, d, n] = .request (.faultRead (get32 a b c d) n) := rfl
theorem parseFields_faultAck (a b c d : Nat) : parseFields 49 [a, b, c, d] = .request (.faultAck (get32 a b c d)) := rfl
theorem parseFields_valveOpen (r : Nat) : parseFields 52 [r] = .request (.valveOpen r) := rfl

theorem itemOf_site (a b : Nat) : itemOf 1 0 [a, b] = some (.site (get16 a b)) := rfl
theorem itemOf_room (r a b e : Nat) : itemOf 2 r [a, b, e] = (EdgeSelect.ofCode e).map fun edge => .room r (get16 a b) edge := rfl
theorem itemOf_machine (m r c y : Nat) : itemOf 3 m [r, c, y] =
    (MachineClass.ofCode c).bind fun cls => (getYesNo y).bind fun assigned => some (.machine m r cls assigned) := rfl
theorem itemOf_programme (i : Nat) (fs : List Nat) : itemOf 4 i fs = (programmeOf i fs).map .programme := rfl
theorem itemOf_band (b s1 s0 f1 f0 : Nat) : itemOf 5 b [s1, s0, f1, f0] = some (.band b (get16 s1 s0) (get16 f1 f0)) := rfl
theorem itemOf_tariffGroup (g d1 d0 : Nat) : itemOf 6 g [d1, d0] = some (.tariffGroup g (get16 d1 d0)) := rfl
theorem itemOf_surcharge (a b : Nat) : itemOf 7 0 [a, b] = some (.surcharge (get16 a b)) := rfl
theorem itemOf_cap (a b : Nat) : itemOf 8 0 [a, b] = some (.cap (get16 a b)) := rfl
theorem itemOf_grace (a : Nat) : itemOf 9 0 [a] = some (.grace a) := rfl
theorem itemOf_pause (a k1 k0 : Nat) : itemOf 10 0 [a, k1, k0] = some (.pause a (get16 k1 k0)) := rfl
theorem itemOf_arm (a b : Nat) : itemOf 11 0 [a, b] = some (.arm (get16 a b)) := rfl
theorem itemOf_overrun (a : Nat) : itemOf 12 0 [a] = some (.overrun a) := rfl
theorem itemOf_nodeGrace (a : Nat) : itemOf 13 0 [a] = some (.nodeGrace a) := rfl
theorem itemOf_window (i : Nat) (fs : List Nat) : itemOf 14 i fs = (windowOf fs).map (.window i) := rfl
theorem itemOf_cache (k p x y : Nat) : itemOf 15 0 [k, p, x, y] =
    (Replacement.ofCode p).map fun r => .cache ⟨#v[bit k 0, bit k 1, bit k 2, bit k 3], r, x, y⟩ := rfl
theorem itemOf_grant (m l1 l0 hi lo : Nat) :
    itemOf 16 0 [m, l1, l0, hi, lo] = (Arbitration.ofCode m).map fun mode => .grant mode (get16 l1 l0) hi lo := rfl
theorem itemOf_lamp (fs : List Nat) : itemOf 17 0 fs = (lampMapOf fs).map .lamp := rfl
theorem itemOf_noticeMask (a b : Nat) : itemOf 18 0 [a, b] = (noticeMaskOf (get16 a b)).map .noticeMask := rfl

theorem lampMapOf_fields (a a' b b' c c' d d' e e' f f' : Nat) : lampMapOf [a, a', b, b', c, c', d, d', e, e', f, f'] =
    (lampOf a a').bind fun u => (lampOf b b').bind fun v => (lampOf c c').bind fun w => (lampOf d d').bind fun x =>
      (lampOf e e').bind fun y => (lampOf f f').bind fun z => some ⟨u, v, w, x, y, z⟩ := rfl
theorem windowOf_eleven (en s1 s0 lo hi fl od fi act a1 a0 : Nat) : windowOf [en, s1, s0, lo, hi, fl, od, fi, act, a1, a0] =
    (getYesNo en).bind fun enabled => (ClassFilter.ofCode fi).bind fun filter => (actionOf act (get16 a1 a0)).bind fun action =>
      some ⟨enabled, get16 s1 s0, lo, hi, anyOf fl, anyOf od, filter, action⟩ := rfl
theorem programmeOf_washer (i b1 b0 d h : Nat) :
    programmeOf i [b1, b0, d, h] = if i < 8 then some (.washer i (get16 b1 b0) d h) else none := rfl
theorem programmeOf_dryer (i p1 p0 l m h : Nat) : programmeOf i [p1, p0, l, m, h] =
    if 128 ≤ i ∧ i < 136 then some (.dryer (i - 128) (get16 p1 p0) l m h) else none := rfl

theorem controlOf_serviceStart (m p n : Nat) : controlOf [m, 1, p, n] = some (.serviceStart m p n) := rfl
theorem controlOf_abort (m : Nat) : controlOf [m, 2] = some (.abort m) := rfl
theorem controlOf_lock (m : Nat) : controlOf [m, 3] = some (.lock m) := rfl
theorem controlOf_lockoutClear (m : Nat) : controlOf [m, 4] = some (.lockoutClear m) := rfl
theorem controlOf_nodeEnable (m : Nat) : controlOf [m, 5] = some (.nodeEnable m) := rfl
theorem controlOf_nodeDisable (m : Nat) : controlOf [m, 6] = some (.nodeDisable m) := rfl

theorem accountSetOf_fifteen (a1 a0 sel st b3 b2 b1 b0 o1 o0 g v1 v0 d1 d0 : Nat) :
    accountSetOf [a1, a0, sel, st, b3, b2, b1, b0, o1, o0, g, v1, v0, d1, d0] =
      if bit sel 7 then (AccountState.ofCode st).map fun x =>
        .accountSetAll (get16 a1 a0) ⟨x, getI32 b3 b2 b1 b0, get16 o1 o0, g, get16 v1 v0, get16 d1 d0⟩
      else (selected (bit sel 0) (AccountState.ofCode st)).map fun x =>
        .accountSet (get16 a1 a0) x (if bit sel 1 then some (get16 o1 o0) else none) (if bit sel 2 then some g else none) := rfl
theorem rulesOf_ten (es ev ss s0 s1 s2 s3 s4 s5 s6 : Nat) : rulesOf [es, ev, ss, s0, s1, s2, s3, s4, s5, s6] =
    if ss < 128 then
      (selected (bit ss 0) (Severity.ofCode s0)).bind fun a0 => (selected (bit ss 1) (Severity.ofCode s1)).bind fun a1 =>
      (selected (bit ss 2) (Severity.ofCode s2)).bind fun a2 => (selected (bit ss 3) (Severity.ofCode s3)).bind fun a3 =>
      (selected (bit ss 4) (Severity.ofCode s4)).bind fun a4 => (selected (bit ss 5) (Severity.ofCode s5)).bind fun a5 =>
      (selected (bit ss 6) (Severity.ofCode s6)).bind fun a6 =>
        some (.rulesSet ⟨bits8 es, bits8 ev, #v[a0, a1, a2, a3, a4, a5, a6]⟩)
    else none := rfl

/-! ## The records of 10.5 -/

theorem rawPathOf_fields {p : RawPath} (h : p.wellFormed = true) :
    rawPathOf (p.level.code % 256) (p.floor % 256) (p.flat % 256) (p.ordinal % 256) = some p := by
  obtain ⟨⟨hf, hn⟩, ho⟩ : (isByte p.floor = true ∧ isByte p.flat = true) ∧ isByte p.ordinal = true := by
    simpa [RawPath.wellFormed] using h
  simp [rawPathOf, level_ofCode_code, byte_mod hf, byte_mod hn, byte_mod ho]

theorem rawDescriptorOf_fields {d : RawDescriptor} (h : d.wellFormed = true) :
    rawDescriptorOf (d.kind.code % 256) (d.hold.toNat % 256) (attributeBits d.attributes % 256) (d.account / 256 % 256)
      (d.account % 256) (d.targetFloor % 256) (d.targetFlat % 256) (d.targetOrdinal % 256) = some d := by
  obtain ⟨⟨⟨ha, hf⟩, hn⟩, ho⟩ : ((isShort d.account = true ∧ isByte d.targetFloor = true) ∧ isByte d.targetFlat = true) ∧
      isByte d.targetOrdinal = true := by
    simpa [RawDescriptor.wellFormed] using h
  have hhold : d.hold.toNat % 256 < 4 ∧ bit (d.hold.toNat % 256) 0 = d.hold := by cases d.hold <;> decide
  simp [rawDescriptorOf, hhold, kind_ofCode_code, attributesOf_bits, get16_short ha, byte_mod hf, byte_mod hn, byte_mod ho]

theorem cardOf_fields {c : CardId} (h : c.wellFormed = true) :
    cardOf (c.site / 256 % 256) (c.site % 256) (c.path.floor.1 % 256) ((c.path.flat.1 * 16 + c.path.ordinal.1) % 256) =
      some c := by
  obtain ⟨site, ⟨floor, hf⟩, ⟨flat, hn⟩, ⟨ordinal, ho⟩⟩ := c
  have hfloor : floor % 256 = floor := by omega
  have hlast : (flat * 16 + ordinal) % 256 = flat * 16 + ordinal := by omega
  have hfits : floor < 64 ∧ flat * 16 + ordinal < 256 ∧ (flat * 16 + ordinal) / 4 % 4 = 0 := by omega
  have hflat : (flat * 16 + ordinal) / 16 = flat := by omega
  have hordinal : (flat * 16 + ordinal) % 4 = ordinal := by omega
  simp [cardOf, hfloor, hlast, hfits, hflat, hordinal, get16_short h]

/-! ## Configuration items (R204) -/

theorem lampOf_fields (l : Lamp) : lampOf (l.pattern.code % 256) (l.invert.toNat % 256) = some l := by
  simp [lampOf, pattern_ofCode_code, getYesNo_yesNo]

theorem noticeMaskOf_bits (k : NoticeMask) :
    noticeMaskOf (get16 (noticeBits k / 256 % 256) (noticeBits k % 256)) = some k := by
  have hlt : noticeBits k < 2 ^ 11 := ofBits_lt _
  rw [get16_u16 _ (by omega), noticeMaskOf, if_pos (by omega)]
  simp [noticeBits, bit_ofBits]

theorem programmeOf_fields {p : ProgrammeItem} (h : p.wellFormed = true) :
    ∃ i fs, values (itemBytes (.programme p)) = 4 :: i :: fs ∧ programmeOf i fs = some p := by
  cases p with
  | washer i b d heat =>
    obtain ⟨⟨⟨hi, hb⟩, hd⟩, hh⟩ : ((i < 8 ∧ isShort b = true) ∧ isByte d = true) ∧ isByte heat = true := by
      simpa [ProgrammeItem.wellFormed] using h
    have hindex : i % 256 = i := by omega
    refine ⟨i, [b / 256 % 256, b % 256, d % 256, heat % 256], by simp [itemBytes, values_append, hindex], ?_⟩
    simp [programmeOf_washer, hi, get16_short hb, byte_mod hd, byte_mod hh]
  | dryer i p l m heat =>
    obtain ⟨⟨⟨⟨hi, hp⟩, hl⟩, hm⟩, hh⟩ :
        (((i < 8 ∧ isShort p = true) ∧ isByte l = true) ∧ isByte m = true) ∧ isByte heat = true := by
      simpa [ProgrammeItem.wellFormed] using h
    have hindex : (128 + i) % 256 = 128 + i := by omega
    refine ⟨128 + i, [p / 256 % 256, p % 256, l % 256, m % 256, heat % 256], by simp [itemBytes, values_append, hindex], ?_⟩
    have hrange : 128 + i < 136 := by omega
    simp [programmeOf_dryer, hrange, get16_short hp, byte_mod hl, byte_mod hm, byte_mod hh]

theorem actionOf_fields {a : WindowItemAction} (h : a.wellFormed = true) :
    ∃ code n1 n0, values (actionBytes a) = [code, n1, n0] ∧ actionOf code (get16 n1 n0) = some a := by
  cases a with
  | free => exact ⟨0, 0, 0, rfl, rfl⟩
  | refuse => exact ⟨2, 0, 0, rfl, rfl⟩
  | house a => exact ⟨1, a / 256 % 256, a % 256, by simp [actionBytes, values_append], by simp [actionOf, get16_short h]⟩

theorem windowOf_fields {w : WindowItem} (h : w.wellFormed = true) :
    windowOf (values (yesNo w.enabled ++ u16 w.site ++ u8 w.floorLow ++ u8 w.floorHigh ++ anyByte w.flat ++ anyByte w.ordinal ++
      u8 w.filter.code ++ actionBytes w.action)) = some w := by
  obtain ⟨⟨⟨⟨⟨hs, hl⟩, hh⟩, hf⟩, ho⟩, ha⟩ : ((((isShort w.site = true ∧ isByte w.floorLow = true) ∧
      isByte w.floorHigh = true) ∧ isByteOrAny w.flat = true) ∧ isByteOrAny w.ordinal = true) ∧ w.action.wellFormed = true := by
    simpa [WindowItem.wellFormed] using h
  obtain ⟨code, n1, n0, hbytes, haction⟩ := actionOf_fields ha
  simp [values_append, hbytes, anyByte, windowOf_eleven, getYesNo_yesNo, filter_ofCode_code, haction, get16_short hs, byte_mod hl,
    byte_mod hh, anyOf_anyByte _ hf, anyOf_anyByte _ ho]

/-- The mask byte of a CACHE item. -/
theorem maskOf_bits (v : Vector Bool 4) :
    #v[bit (ofBits [look v 0, look v 1, look v 2, look v 3] % 256) 0, bit (ofBits [look v 0, look v 1, look v 2, look v 3] % 256) 1,
      bit (ofBits [look v 0, look v 1, look v 2, look v 3] % 256) 2,
      bit (ofBits [look v 0, look v 1, look v 2, look v 3] % 256) 3] = v := by
  have hlt : ofBits [look v 0, look v 1, look v 2, look v 3] < 2 ^ 4 := ofBits_lt _
  have hlt : ofBits [look v 0, look v 1, look v 2, look v 3] < 256 := by omega
  rw [Nat.mod_eq_of_lt hlt]
  simp only [bit_ofBits]
  ext i hi
  interval_cases i <;> rfl

/-- A configuration item's bytes are read as that item. -/
theorem parse_item {i : ConfigItem} (h : i.wellFormed = true) :
    parseFields 2 (values (itemBytes i)) = .request (.configSet i) := by
  cases i with
  | site n | surcharge n | cap n | arm n =>
    simp [itemBytes, values_append, parseFields_configSet, itemOf_site, itemOf_surcharge, itemOf_cap, itemOf_arm, get16_short h]
  | grace n | overrun n | nodeGrace n => simp [itemBytes, values_append, parseFields_configSet, itemOf_grace, itemOf_overrun, itemOf_nodeGrace, byte_mod h]
  | room r cap edge =>
    obtain ⟨hr, hc⟩ : isByte r = true ∧ isShort cap = true := by simpa [ConfigItem.wellFormed] using h
    simp [itemBytes, values_append, parseFields_configSet, itemOf_room, byte_mod hr, get16_short hc, edge_ofCode_code]
  | machine m r cls a =>
    obtain ⟨hm, hr⟩ : isByte m = true ∧ isByte r = true := by simpa [ConfigItem.wellFormed] using h
    simp [itemBytes, values_append, parseFields_configSet, itemOf_machine, byte_mod hm, byte_mod hr, cls_ofCode_code, getYesNo_yesNo]
  | programme p =>
    obtain ⟨i, fs, hbytes, hread⟩ := programmeOf_fields h
    simp [hbytes, parseFields_configSet, itemOf_programme, hread]
  | band b start f =>
    obtain ⟨⟨hb, hs⟩, hf⟩ : (isByte b = true ∧ isShort start = true) ∧ isShort f = true := by
      simpa [ConfigItem.wellFormed] using h
    simp [itemBytes, values_append, parseFields_configSet, itemOf_band, byte_mod hb, get16_short hs, get16_short hf]
  | tariffGroup g d =>
    obtain ⟨hg, hd⟩ : isByte g = true ∧ isShort d = true := by simpa [ConfigItem.wellFormed] using h
    simp [itemBytes, values_append, parseFields_configSet, itemOf_tariffGroup, byte_mod hg, get16_short hd]
  | pause a k =>
    obtain ⟨ha, hk⟩ : isByte a = true ∧ isShort k = true := by simpa [ConfigItem.wellFormed] using h
    simp [itemBytes, values_append, parseFields_configSet, itemOf_pause, byte_mod ha, get16_short hk]
  | window i w =>
    obtain ⟨hi, hw⟩ : isByte i = true ∧ w.wellFormed = true := by simpa [ConfigItem.wellFormed] using h
    have hread := windowOf_fields hw
    simp only [values_append] at hread
    simp [itemBytes, values_append, parseFields_configSet, itemOf_window, byte_mod hi] at hread ⊢
    simp [hread]
  | cache c =>
    obtain ⟨hx, hy⟩ : isByte c.sweepBurst = true ∧ isByte c.lookupBurst = true := by simpa [ConfigItem.wellFormed] using h
    simp [itemBytes, values_append, parseFields_configSet, itemOf_cache, byte_mod hx, byte_mod hy, replacement_ofCode_code,
      maskOf_bits]
  | grant mode limit high low =>
    obtain ⟨⟨hl, hh⟩, hw⟩ : (isShort limit = true ∧ isByte high = true) ∧ isByte low = true := by
      simpa [ConfigItem.wellFormed] using h
    simp [itemBytes, values_append, parseFields_configSet, itemOf_grant, arbitration_ofCode_code, get16_short hl, byte_mod hh,
      byte_mod hw]
  | lamp k => simp [itemBytes, lampBytes, values_append, parseFields_configSet, itemOf_lamp, lampMapOf_fields, lampOf_fields]
  | noticeMask k => simp [itemBytes, values_append, parseFields_configSet, itemOf_noticeMask, noticeMaskOf_bits]

/-! ## The other payloads (10.6) -/

theorem scopeOf_fields {sc : FlushScope} (h : sc.wellFormed = true) :
    parseFields 0x28 (values (scopeBytes sc)) = .request (.cacheFlush sc) := by
  cases sc with
  | all | residents => rfl
  | floor f => simp [scopeBytes, values_append, parseFields_cacheFlush, scopeOf, byte_mod h]
  | flat f n =>
    obtain ⟨hf, hn⟩ : isByte f = true ∧ isByte n = true := by simpa [FlushScope.wellFormed] using h
    simp [scopeBytes, values_append, parseFields_cacheFlush, scopeOf, byte_mod hf, byte_mod hn]

/-- A selected field is read as it was sent; what an unselected one carries is not read (log entry 21). -/
theorem selected_code {α : Type} (read : Nat → Option α) (code : α → Nat) (hread : ∀ x, read (code x % 256) = some x)
    (o : Option α) : selected o.isSome (read ((o.map code).getD 0 % 256)) = some o := by
  cases o with
  | none => simp [selected]
  | some x => simp [selected, hread]

theorem accountSetOf_fields {a : Nat} {st : Option AccountState} {o g : Option Nat} (ha : isShort a = true)
    (ho : o.all isShort = true) (hg : g.all isByte = true) :
    accountSetOf (values (accountSetBytes a st o g)) = some (.accountSet a st o g) := by
  have hsel : ofBits [st.isSome, o.isSome, g.isSome] % 256 = ofBits [st.isSome, o.isSome, g.isSome] :=
    Nat.mod_eq_of_lt (lt_trans (ofBits_lt _) (by simp))
  have hover : (if o.isSome then some (get16 (o.getD 0 / 256 % 256) (o.getD 0 % 256)) else none) = o := by
    cases o with
    | none => rfl
    | some n => simp [get16_short ho]
  have hgroup : (if g.isSome then some (g.getD 0 % 256) else none) = g := by
    cases g with
    | none => rfl
    | some n => simp [byte_mod hg]
  simp [accountSetBytes, values_append, accountSetOf_fifteen, hsel, bit_ofBits, get16_short ha,
    selected_code AccountState.ofCode AccountState.code accountState_ofCode_code, hover, hgroup]

theorem accountSetOf_all {a : Nat} {f : AccountFields} (ha : isShort a = true) (hf : f.wellFormed = true) :
    accountSetOf (values (accountSetAllBytes a f)) = some (.accountSetAll a f) := by
  obtain ⟨⟨⟨⟨hb, ho⟩, hg⟩, hv⟩, hd⟩ : (((isSigned f.balance = true ∧ isShort f.overdraft = true) ∧
      isByte f.group = true) ∧ isShort f.vends = true) ∧ isShort f.lastDay = true := by
    simpa [AccountFields.wellFormed] using hf
  have hbit : bit 128 7 = true := rfl
  simp [accountSetAllBytes, values_append, accountSetOf_fifteen, hbit, accountState_ofCode_code, get16_short ha, getI32_signed hb,
    get16_short ho, byte_mod hg, get16_short hv, get16_short hd]

theorem bits8_flags (v : Vector Bool 8) : bits8 (ofBits (flags8 v) % 256) = v := by
  have hlt : ofBits (flags8 v) < 2 ^ 8 := ofBits_lt _
  rw [show ofBits (flags8 v) % 256 = ofBits (flags8 v) by omega]
  simp only [bits8, flags8, bit_ofBits]
  ext i hi
  interval_cases i <;> rfl

theorem rulesOf_fields (i : RulesItem) : rulesOf (values (rulesBytes i)) = some (.rulesSet i) := by
  have hlt : ofBits ((severities7 i.severities).map Option.isSome) < 2 ^ 7 := ofBits_lt _
  have hselector : ofBits ((severities7 i.severities).map Option.isSome) % 256 =
      ofBits ((severities7 i.severities).map Option.isSome) := by omega
  have hrange : ofBits ((severities7 i.severities).map Option.isSome) < 128 := by omega
  have hread := selected_code Severity.ofCode Severity.code severity_ofCode_code
  have htable : #v[look i.severities 0, look i.severities 1, look i.severities 2, look i.severities 3,
      look i.severities 4, look i.severities 5, look i.severities 6] = i.severities := by
    ext k hk
    interval_cases k <;> rfl
  have hbytes : values (rulesBytes i) = ofBits (flags8 i.enableSelector) % 256 :: ofBits (flags8 i.enableValues) % 256 ::
      ofBits ((severities7 i.severities).map Option.isSome) ::
        (severities7 i.severities).map fun x => (x.map Severity.code).getD 0 % 256 := by
    simp only [rulesBytes, values_append, values_u8, hselector]
    simp [severities7, values_append]
  rw [hbytes]
  simp only [severities7, List.map, rulesOf_ten]
  rw [if_pos (by simpa [severities7] using hrange)]
  simp [bit_ofBits, hread, bits8_flags, htable]

/-! ## Every request -/

/-- A well-formed request's frame is read as that request. -/
theorem parse_of_wellFormed (tag : Byte) {q : Request} (h : q.wellFormed = true) : (requestFrame tag q).parse = .request q := by
  rw [parse_values]
  cases q with
  | identify | configSave | reset | budgetQuery | rulesLock => rfl
  | configSet i => exact parse_item h
  | cacheFlush sc => exact scopeOf_fields h
  | rulesSet i => exact congrArg Parsed.of (rulesOf_fields i)
  | machineQuery m | abort m | lock m | lockoutClear m | nodeEnable m | nodeDisable m | valveOpen m =>
    simp [requestPayload, controlBytes, values_append, Request.code, parseFields_machineQuery, parseFields_valveOpen, parseFields_control,
      controlOf_abort, controlOf_lock, controlOf_lockoutClear, controlOf_nodeEnable, controlOf_nodeDisable, byte_mod h]
  | accountRead a | accountClose a =>
    simp [requestPayload, Request.code, parseFields_accountRead, parseFields_accountClose, get16_short h]
  | faultAck n => simp [requestPayload, Request.code, parseFields_faultAck, get32_long h]
  | configGet i n =>
    obtain ⟨hi, hn⟩ : isByte i = true ∧ isByte n = true := by simpa [Request.wellFormed] using h
    simp [requestPayload, values_append, Request.code, parseFields_configGet, byte_mod hi, byte_mod hn]
  | clockSet a b | demandSet a b =>
    obtain ⟨ha, hb⟩ : isShort a = true ∧ isShort b = true := by simpa [Request.wellFormed] using h
    simp [requestPayload, values_append, Request.code, parseFields_clockSet, parseFields_demandSet, get16_short ha, get16_short hb]
  | serviceStart m p n =>
    obtain ⟨⟨hm, hp⟩, hn⟩ : (isByte m = true ∧ isByte p = true) ∧ isByte n = true := by simpa [Request.wellFormed] using h
    simp [requestPayload, controlBytes, values_append, Request.code, parseFields_control, controlOf_serviceStart, byte_mod hm,
      byte_mod hp, byte_mod hn]
  | directoryWrite p d =>
    obtain ⟨hp, hd⟩ : p.wellFormed = true ∧ d.wellFormed = true := by simpa [Request.wellFormed] using h
    simp [requestPayload, rawPathBytes, rawDescriptorBytes, values_append, Request.code, parseFields_directoryWrite,
      rawPathOf_fields hp, rawDescriptorOf_fields hd]
  | directoryRead p =>
    simp [requestPayload, rawPathBytes, values_append, Request.code, parseFields_directoryRead, rawPathOf_fields h]
  | cardProbe c cls =>
    simp [requestPayload, cardBytes, values_append, Request.code, parseFields_cardProbe, cardOf_fields h, cls_ofCode_code]
  | accountOpen a o g =>
    obtain ⟨⟨ha, ho⟩, hg⟩ : (isShort a = true ∧ isShort o = true) ∧ isByte g = true := by simpa [Request.wellFormed] using h
    simp [requestPayload, values_append, Request.code, parseFields_accountOpen, get16_short ha, get16_short ho, byte_mod hg]
  | accountSet a st o g =>
    obtain ⟨⟨ha, ho⟩, hg⟩ : (isShort a = true ∧ o.all isShort = true) ∧ g.all isByte = true := by
      rw [Request.wellFormed, Bool.and_eq_true, Bool.and_eq_true] at h
      exact h
    exact congrArg Parsed.of (accountSetOf_fields ha ho hg)
  | accountSetAll a f =>
    obtain ⟨ha, hf⟩ : isShort a = true ∧ f.wellFormed = true := by simpa [Request.wellFormed] using h
    exact congrArg Parsed.of (accountSetOf_all ha hf)
  | accountCredit a n =>
    obtain ⟨ha, hn⟩ : isShort a = true ∧ isLong n = true := by simpa [Request.wellFormed] using h
    simp [requestPayload, values_append, Request.code, parseFields_accountCredit, get16_short ha, get32_long hn]
  | accountAdjust a z =>
    obtain ⟨ha, hz⟩ : isShort a = true ∧ isSigned z = true := by simpa [Request.wellFormed] using h
    simp [requestPayload, values_append, Request.code, parseFields_accountAdjust, get16_short ha, getI32_signed hz]
  | faultRead n k =>
    obtain ⟨hn, hk⟩ : isLong n = true ∧ isByte k = true := by simpa [Request.wellFormed] using h
    simp [requestPayload, values_append, Request.code, parseFields_faultRead, get32_long hn, byte_mod hk]

/-- A well-formed command's request is well formed. -/
theorem request_wellFormed {c : Instr} {tag : Byte} {q : Request} (hc : c.request? = some (tag, q))
    (h : c.wellFormed = true) : q.wellFormed = true := by
  by_cases hn : ∃ r, c = .nodeReply r
  · obtain ⟨r, rfl⟩ := hn
    exact absurd hc nofun
  · have hwf : c.wellFormed = c.request?.all fun x => x.2.wellFormed := by
      cases c
      case nodeReply r => exact absurd ⟨r, rfl⟩ hn
      all_goals rfl
    rwa [hwf, hc] at h

/-- Settles O8, by the reading of each record and each payload. -/
theorem requestFrameReadsBack : Obligations.RequestFrameReadsBack :=
  fun _ tag _ hc h => parse_of_wellFormed tag (request_wellFormed hc h)

end Sys2Proof.Machine
end

section
/-! SUPPORT. The host link: bytes, frames, the receive buffer and the transmitter (R193 to R201), and the requests that the part answers
for itself: IDENTIFY, CLOCK_SET and RESET (R198, R207, R208). -/
namespace Sys2Proof.Machine

/-! ## From an effect to the command's next state -/

/-- A store port left alone leaves the state settled. -/
theorem State.Settled.of_store {s u : State} (h : s.Settled) (hu : u.store = s.store) : u.Settled := by
  unfold State.Settled State.storeUp at *
  rwa [hu]

/-- What an event of a running part leads to, from what its effect makes of the state. -/
theorem leads_event {c : Instr} {s u : State} {xs : List Block} {holds : State → Prop} (hc : isEvent c) (hr : s.Runs)
    (he : effect c s = u) (hk : Kept xs s u) (hset : u.Settled) (hh : holds u.conclude) : Leads (exec c s) s xs holds :=
  ⟨u.conclude, by rw [exec_powered hc hr.1, he], hk.conclude hset, hh⟩

/-- Only the host link is given a new value. -/
theorem kept_host (s : State) (h : HostLink) : Kept [.host] s { s with host := h } := by
  refine ⟨rfl, fun b hb => ?_⟩
  cases b
  case host => simp at hb
  all_goals rfl

/-- An event that changes the host link alone. -/
theorem leads_host {c : Instr} {s : State} (h : HostLink) (hc : isEvent c) (hr : s.Runs) (he : effect c s = { s with host := h }) :
    Leads (exec c s) s [.host] fun t => t.host = h.transmit := by
  have hset : ({ s with host := h } : State).Settled := hr.2
  refine leads_event hc hr he (kept_host s h) hset ?_
  rw [State.conclude_settled _ hset]

/-- An event without effect. -/
theorem leads_nothing {c : Instr} {s : State} (hc : isEvent c) (hr : s.Runs) (he : effect c s = s) :
    Leads (exec c s) s [] fun _ => True :=
  leads_event hc hr he ⟨rfl, fun b _ => by cases b <;> rfl⟩ hr.2 trivial

/-- A host request is an event. -/
theorem isEvent_of_request {c : Instr} {x : Byte × Request} (h : c.request? = some x) : isEvent c := by
  constructor
  · rintro rfl
    cases h
  · rintro cut rfl
    cases h

/-- The effect of a host request's command is the request's arrival. -/
theorem effect_request {c : Instr} {tag : Byte} {q : Request} (s : State) (h : c.request? = some (tag, q)) :
    effect c s = s.request tag q := by
  cases c <;> simp only [Instr.request?, Option.some.injEq, Prod.mk.injEq, reduceCtorEq] at h <;> obtain ⟨rfl, rfl⟩ := h <;> rfl

/-! ## The receiver -/

theorem State.receive_hunt {s : State} (h : s.host.receiver = .hunt) : s.receive .hunt = s := by
  obtain ⟨⟩ := s
  simp_all [State.receive, ← h]

/-- HUNT waits for the start byte. -/
theorem State.hostByte_hunt {s : State} (b : Byte) (h : s.host.receiver = .hunt) :
    s.hostByte b = s.receive (if b = 0x7E#8 then .length else .hunt) := by
  simp only [State.hostByte, h, Config.startByte]
  by_cases hb : b = 0x7E#8
  · simp [hb]
  · simp [hb, State.receive_hunt h]

/-- tGAP runs outside HUNT (R194). -/
theorem State.gapExpiry_eq (s : State) : s.gapExpiry = if s.host.receiver = .hunt then s else s.linkError := by
  unfold State.gapExpiry
  split <;> simp_all

/-- In BODY the bytes of an unfinished frame are collected. -/
theorem foldl_body (s : State) (n : Byte) (bytes taken : List Byte) (h : taken.length + bytes.length < n.toNat + 2) :
    bytes.foldl State.hostByte (s.receive (.body n taken)) = s.receive (.body n (taken ++ bytes)) := by
  induction bytes generalizing taken with
  | nil => simp
  | cons b rest ih =>
    have hlen : taken.length + (rest.length + 1) < n.toNat + 2 := h
    have hstep : (s.receive (.body n taken)).hostByte b = s.receive (.body n (taken ++ [b])) :=
      if_pos (show taken.length + 1 < n.toNat + 2 by omega)
    rw [List.foldl_cons, hstep, ih (taken ++ [b]) (by simp; omega)]
    simp

/-- The last byte of a BODY ends the frame. -/
theorem hostByte_last (s : State) (n b : Byte) (taken : List Byte) (h : taken.length + 1 = n.toNat + 2) :
    (s.receive (.body n taken)).hostByte b = (s.receive (.body n taken)).frameEnds n (taken ++ [b]) :=
  if_neg (show ¬ taken.length + 1 < n.toNat + 2 by omega)

/-- The bytes between the start byte's length and the end of the payload, with their check, are a good frame. -/
theorem frameEnds_good (s : State) (f : Frame) (n : Byte) (taken : List Byte) (hn : n.toNat = f.payload.length + 2)
    (ht : taken = f.type :: f.tag :: f.payload ++ crc16Bytes (n :: f.type :: f.tag :: f.payload)) :
    s.frameEnds n taken = (s.receive .hunt).offerFrame f State.dispatch := by
  have htake : taken.take n.toNat = f.type :: f.tag :: f.payload := by
    rw [ht, hn]
    exact List.take_left' (by simp)
  have hdrop : taken.drop n.toNat = crc16Bytes (n :: f.type :: f.tag :: f.payload) := by
    rw [ht, hn]
    exact List.drop_left' (by simp)
  simp [State.frameEnds, checkMatches, bodyFrame, htake, hdrop]

/-- Settles O9: HUNT takes the start byte, LENGTH the length, and BODY the rest up to the last check byte, which ends a good frame. -/
theorem wireBytesOfferFrame : Obligations.WireBytesOfferFrame := by
  intro s f hs hf
  obtain ⟨n, hn⟩ : ∃ n, n = Byte.ofNat (f.payload.length + 2) := ⟨_, rfl⟩
  have hnat : n.toNat = f.payload.length + 2 := by rw [hn, byte_toNat]; omega
  obtain ⟨c, d, hcrc⟩ : ∃ c d, crc16Bytes f.body = [c, d] := ⟨_, _, rfl⟩
  have hbody : f.body = n :: f.type :: f.tag :: f.payload := by simp [Frame.body, u8, hn]
  have hwire : f.wire = Config.startByte :: n :: ((f.type :: f.tag :: f.payload ++ [c]) ++ [d]) := by
    rw [Frame.wire, hcrc, hbody]
    simp
  have hstart : s.hostByte Config.startByte = s.receive .length := by simp [State.hostByte, hs]
  have hlength : (s.receive .length).hostByte n = s.receive (.body n []) :=
    if_pos (show 2 ≤ n.toNat ∧ n.toNat ≤ 250 by omega)
  have hcollect : (f.type :: f.tag :: f.payload ++ [c]).foldl State.hostByte (s.receive (.body n [])) =
      s.receive (.body n (f.type :: f.tag :: f.payload ++ [c])) :=
    foldl_body s n _ [] (by simp; omega)
  have hend : (s.receive (.body n (f.type :: f.tag :: f.payload ++ [c]))).hostByte d =
      (s.receive .hunt).offerFrame f State.dispatch := by
    rw [hostByte_last _ _ _ _ (by simp; omega)]
    exact frameEnds_good _ f n _ hnat (by simp [← hbody, hcrc])
  rw [hwire, List.foldl_cons, List.foldl_cons, List.foldl_append, hstart, hlength, hcollect]
  simp only [List.foldl_cons, List.foldl_nil]
  rw [hend, State.receive_hunt hs]

/-- Settles O10: each state of the receiver by its own clause of R194. -/
theorem receiverTakesByteAndGap : Obligations.ReceiverTakesByteAndGap := by
  refine ⟨fun s b hr => ?byte, fun s hr => ?gap⟩
  case byte =>
    intro becomes error
    have of_effect : ∀ h : HostLink, s.hostByte b = { s with host := h } → becomes h := fun h he =>
      leads_host h ⟨nofun, nofun⟩ hr he
    have of_error : s.hostByte b = s.linkError → becomes error := of_effect error
    split
    case h_1 hrec => exact of_effect _ (State.hostByte_hunt b hrec)
    case h_2 hrec =>
      by_cases hb : 2 ≤ b.toNat ∧ b.toNat ≤ 250
      · rw [if_pos hb]
        apply of_effect
        simp only [State.hostByte, hrec, if_pos hb]
        rfl
      · rw [if_neg hb]
        apply of_error
        simp only [State.hostByte, hrec, if_neg hb]
    case h_3 n taken hrec =>
      refine ⟨fun hlen => of_effect _ ?_, fun hlen hcrc => of_error ?_⟩
      · simp only [State.hostByte, hrec, if_pos hlen]
        rfl
      · have hbad : checkMatches n (taken ++ [b]) = false := beq_false_of_ne hcrc
        simp only [State.hostByte, hrec, if_neg (Nat.not_lt.mpr hlen), State.frameEnds, hbad]
        rfl
  case gap =>
    refine leads_host _ ⟨nofun, nofun⟩ hr ?_
    show s.gapExpiry = _
    rw [s.gapExpiry_eq]
    split <;> rfl

/-! ## The receive buffer -/

/-- A request that reaches an empty buffer, from what R196 makes of it there: a reply handed over by a state that differs from the one
the request found in the blocks listed. -/
theorem replies_served {c : Instr} {s u : State} {tag : Byte} {q : Request} {st : Status} {res : List Byte} {xs : List Block}
    {holds : State → Prop} (hc : c.request? = some (tag, q)) (hr : s.Runs) (hb : s.host.buffer = [])
    (h : (s.withRequest tag q).serve q = u.reply st res) (hhost : u.host = { s.host with buffer := [requestFrame tag q] })
    (hset : u.Settled) (hk : Kept (.host :: xs) s u) (hh : holds (u.reply st res).conclude) :
    Replies (exec c s) s tag q st res xs holds :=
  RepliesFrom.intro s.host hr.1 (exec_request c s tag q hc) ((s.request_empty tag q hb).trans h) hhost hset hk hh

/-- A request that is not its owner's is refused, and changes nothing (R196 steps 2 and 3). -/
theorem refuses_served {c : Instr} {s : State} {tag : Byte} {q : Request} {st : Status} (hc : c.request? = some (tag, q))
    (hr : s.Runs) (hb : s.host.buffer = []) (h : (s.withRequest tag q).serve q = (s.withRequest tag q).refuse st) :
    Refuses (exec c s) s tag q st :=
  replies_served hc hr hb h rfl hr.2 (kept_host s _) trivial

/-- Settles O11: by the number of frames the buffer holds, and for an empty one by R196's steps. -/
theorem requestsWaitOrAreRefused : Obligations.RequestsWaitOrAreRefused := by
  refine ⟨fun c tag q s hc hr => ⟨fun g hg => ?waits, fun hlen => ?dropped⟩, fun c tag q s hc hr hb => ⟨fun hp => ?step2, ?step3⟩⟩
  case waits =>
    refine leads_host _ (isEvent_of_request hc) hr ?_
    rw [effect_request s hc, State.request, State.offerFrame, hg]
  case dropped =>
    refine leads_host _ (isEvent_of_request hc) hr ?_
    rw [effect_request s hc, State.request, State.offerFrame]
    split
    · simp_all
    · simp_all
    · rfl
  case step2 => exact refuses_served hc hr hb (by simp [State.serve, hp])
  case step3 =>
    intro hp hstart hidentify hclock
    have halways : Request.always q = false := by
      cases q
      case identify => exact absurd rfl hidentify
      case clockSet m d => exact absurd rfl (hclock m d)
      all_goals rfl
    have hstarting : (s.withRequest tag q).startingUp = true := by
      rcases hstart with h | h <;> simp [State.startingUp, State.withRequest, h]
    exact refuses_served hc hr hb (by simp [State.serve, hp, hstarting, halways])

end Sys2Proof.Machine
end

section
/-! SUPPORT. The end of a frame, the transmitter, identity, clock, reset and power (R177, R195 to R201, R207 to R209). -/
namespace Sys2Proof.Machine

/-! ## The end of a frame -/

/-- The end of a frame that is no OK of a RESET (R195, R199). -/
theorem State.frameSent_eq {s : State} {f : Frame} (hs : s.host.sending = some f) (hf : f.isResetReply = false) :
    s.frameSent = if f.isReply then ({ s with host := { s.host with sending := none } }).nextRequest
      else { s with host := { s.host with sending := none } } := by
  simp [State.frameSent, hs, hf]

theorem State.frameSent_reset {s : State} {f : Frame} (hs : s.host.sending = some f) (hf : f.isResetReply = true) :
    s.frameSent = s.softReset := by
  simp [State.frameSent, hs, hf]

theorem State.beginSoftReset_eq {s : State} {f : Frame} (hs : s.host.sending = some f) (hf : f.isResetReply = true) :
    s.beginSoftReset = s.softReset := by
  simp [State.beginSoftReset, hs, hf]

theorem isResetReply_iff (f : Frame) : f.isResetReply = true ↔ f.type = 0x86#8 ∧ f.payload.head? = some 0#8 := by
  simp [Frame.isResetReply]

/-- A notice is no reply of a RESET: its type has no reply mark. -/
theorem isResetReply_of_notice {f : Frame} (h : f.type.msb = false) : f.isResetReply = false := by
  by_contra hn
  obtain ⟨ht, -⟩ := (isResetReply_iff f).mp (by simpa using hn)
  rw [ht] at h
  exact absurd h (by decide)

/-- The current request leaves a buffer that holds no other. -/
theorem State.nextRequest_last (s : State) (h : s.host.buffer.length ≤ 1) :
    s.nextRequest = { s with host := { s.host with buffer := [] } } := by
  have htail : s.host.buffer.tail = [] := by
    rw [← List.length_eq_zero_iff, List.length_tail]
    omega
  simp [State.nextRequest, htail, State.dispatch]

/-- A well-formed request that waited is served as if it arrived then. -/
theorem State.nextRequest_waiting {s : State} {g : Frame} {tag : Byte} {q : Request} (hb : s.host.buffer = [g, requestFrame tag q])
    (hq : q.wellFormed = true) : s.nextRequest = ({ s with host := { s.host with buffer := [] } }).request tag q := by
  simp [State.nextRequest, State.dispatch, hb, parse_of_wellFormed tag hq, State.request, State.offerFrame]

/-- Settles O12: by what the frame was, a notice, the OK of a RESET or another reply. -/
theorem frameEndServesNext : Obligations.FrameEndServesNext := by
  intro s f hr hs after
  have hevent : isEvent .hostFrameSent := ⟨nofun, nofun⟩
  refine ⟨fun hnotice => ?notice, fun hreply hother => ?reply, fun ht hp => ?reset⟩
  case notice =>
    have heffect : s.frameSent = { s with host := after } := by
      rw [State.frameSent_eq hs (isResetReply_of_notice hnotice), Frame.isReply, hnotice]
      rfl
    exact leads_host after hevent hr heffect
  case reply =>
    have heffect : s.frameSent = ({ s with host := after } : State).nextRequest := by
      have hno : f.isResetReply = false := by
        rw [← Bool.not_eq_true, isResetReply_iff]
        exact hother
      rw [State.frameSent_eq hs hno, Frame.isReply, hreply]
      rfl
    refine ⟨fun hlen => ?last, fun g c tag q hb hc hwf => ?next⟩
    case last => exact leads_host _ hevent hr (heffect.trans (State.nextRequest_last _ hlen))
    case next =>
      have hwait := State.nextRequest_waiting (s := { s with host := after }) hb (request_wellFormed hc hwf)
      calc exec .hostFrameSent s = .next s.frameSent.conclude := exec_powered hevent hr.1
        _ = .next (effect c { s with host := { after with buffer := [] } }).conclude := by
          rw [effect_request _ hc, heffect, hwait]
        _ = exec c { s with host := { after with buffer := [] } } :=
          (exec_powered (s := { s with host := { after with buffer := [] } }) (isEvent_of_request hc) hr.1).symm
  case reset =>
    have hf := (isResetReply_iff f).mpr ⟨ht, hp⟩
    have heffect : effect .hostFrameSent s = effect .softReset s :=
      (State.frameSent_reset hs hf).trans (State.beginSoftReset_eq hs hf).symm
    have hsoft : isEvent .softReset := ⟨nofun, nofun⟩
    rw [exec_powered hevent hr.1, exec_powered hsoft hr.1, heffect]

/-! ## The transmitter -/

/-- Settles O13: the transmitter by what it sends and what waits, and an offered notice by its selection and the queue's length. -/
theorem transmitterAndNoticeQueue : Obligations.TransmitterAndNoticeQueue := by
  refine ⟨fun h => ⟨fun f hs => ?_, fun hs f hr => ?_, fun hs hr hn => ?_, fun hs hr n rest hn => ?_⟩, fun h n => ?_⟩
  · simp [HostLink.transmit, hs]
  · simp [HostLink.transmit, hs, hr]
  · simp [HostLink.transmit, hs, hr, hn]
  · by_cases hlost : h.overruns = 0
    · obtain ⟨⟩ := h
      simp_all [HostLink.transmit, Notice.frame]
    · simp [HostLink.transmit, hs, hr, hn, hlost, Notice.frame]
  · by_cases hsel : selects h.mask n = true
    · simp only [HostLink.offer, hsel, countUp, Config.noticeQueueSize, Config.counterLimit]
      rfl
    · simp [HostLink.offer, hsel]

/-! ## Identity and clock -/

/-- The flags byte of two yes/no fields, bit 0 first (10.6). -/
theorem ofBits_two (a b : Bool) : ofBits [a, b] = (if a then 1 else 0) + (if b then 2 else 0) := by
  cases a <;> cases b <;> rfl

/-- IDENTIFY and CLOCK_SET are their owner's in every start-up state (R196). -/
theorem State.serve_always (s : State) {q : Request} (hp : Request.passes q = true) (ha : Request.always q = true) :
    s.serve q = s.own q := by
  simp [State.serve, hp, ha]

/-- Settles O14: IDENTIFY passes R196's steps in every start-up state, and its owner only answers. -/
theorem identifyReports : Obligations.IdentifyReports := by
  intro s tag hr hb
  refine replies_served (u := s.withRequest tag .identify) rfl hr hb ?_ rfl hr.2 (kept_host s _) trivial
  rw [State.serve_always _ rfl rfl]
  simp only [State.own, State.identity, ofBits_two]
  rfl

/-- The timebase a minute on (R207). -/
theorem Timebase.advance_wraps (t : Timebase) (h : t.minute ≤ 1439) :
    t.advance.clockSet = t.clockSet ∧ t.advance.minute = (t.minute + 1) % 1440 ∧
      t.advance.day = if t.minute = 1439 then (t.day + 1) % 65536 else t.day := by
  unfold Timebase.advance
  by_cases hm : t.minute < 1439
  · rw [if_pos hm]
    exact ⟨rfl, (Nat.mod_eq_of_lt (show t.minute + 1 < 1440 by omega)).symm, (if_neg (show ¬ t.minute = 1439 by omega)).symm⟩
  · have hlast : t.minute = 1439 := by omega
    rw [if_neg hm, if_pos hlast, hlast]
    exact ⟨rfl, rfl, rfl⟩

/-- Settles O15: CLOCK_SET by its range, and the timebase's minute by where it wraps. -/
theorem timebaseIsSetAndAdvances : Obligations.TimebaseIsSetAndAdvances := by
  refine ⟨fun s tag minute day hr hb => ?clockSet, fun s hr hm _ => ?minute⟩
  case clockSet =>
    split
    case isTrue habove =>
      refine refuses_served rfl hr hb ?_
      rw [State.serve_always _ rfl rfl, State.own, State.clockSet, if_pos habove]
    case isFalse hrange =>
      let set : State := { s.withRequest tag (.clockSet minute day) with clock := ⟨minute, day, true⟩ }
      have hkept : Kept [.host, .clock] s set := by
        refine ⟨rfl, fun b hb => ?_⟩
        cases b
        case host | clock => simp at hb
        all_goals rfl
      have hset : (set.reply .ok []).Settled := by
        rw [set.reply_eq _ _ _ rfl]
        exact hr.2
      refine replies_served (u := set) rfl hr hb ?_ rfl hr.2 hkept ?_
      · rw [State.serve_always _ rfl rfl, State.own, State.clockSet, if_neg hrange]
        rfl
      · rw [State.conclude_settled _ hset, set.reply_eq _ _ _ rfl]
  case minute =>
    have hkept : Kept [.clock] s s.minutePasses := by
      refine ⟨rfl, fun b hb => ?_⟩
      cases b
      case clock => simp at hb
      all_goals rfl
    refine leads_event (u := s.minutePasses) ⟨nofun, nofun⟩ hr rfl hkept hr.2 ?_
    have hclock : s.minutePasses.conclude.clock = s.clock.advance := by
      rw [State.conclude_settled _ (show s.minutePasses.Settled from hr.2)]
      rfl
    rw [hclock]
    exact s.clock.advance_wraps hm

/-! ## Reset and power -/

/-- No link is enabled at reset, so that no node is due. -/
theorem LineController.choose_initial : LineController.initial.choose = none := by decide

/-- No lookup and no sweep is outstanding at reset. -/
theorem Cache.choose_initial : Cache.initial.choose = none := by decide

/-- A state in which the four arbiters' blocks have their reset values stays as it is when an event ends. -/
theorem State.conclude_at_reset {u : State} (hhost : u.host = HostLink.initial) (hline : u.line = LineController.initial)
    (hcache : u.cache = Cache.initial) (hstore : u.store = StorePort.initial) (hscan : u.scan = Scan.initial) :
    u.conclude = u := by
  have hset : u.Settled := .inl (by rw [State.storeUp, hstore]; rfl)
  have htransmit : u.host.transmit = u.host := by rw [hhost]; rfl
  have hbegin : u.line.begin = u.line := by rw [hline, LineController.begin, LineController.choose_initial]; rfl
  have harbitrate : u.cache.arbitrate = u.cache := by rw [hcache, Cache.arbitrate, Cache.choose_initial]; rfl
  have hissue : u.issueOwn = u := by
    have hoff : u.scan.at_ ≠ .off := by rw [hscan]; exact nofun
    simp [State.issueOwn, hoff]
  rw [State.conclude_settled u hset, htransmit, hbegin, harbitrate, hissue]

/-- The guards that a reset leaves: the reset values over the levels at the pins. -/
theorem State.resetGuards_eq (s : State) : s.resetGuards = Vector.ofFn fun r =>
    { look State.reset.supervisor.rooms r with input := (look s.supervisor.rooms r).input } := by
  have hguard : ∀ r, look State.reset.supervisor.rooms r = RoomGuard.initial := fun r => Vector.getElem_replicate _
  simp only [State.resetGuards, hguard]
  rfl

/-- Settles O16: RESET's owner accepts it, and the end of its OK's frame resets every block but the clock and the rule lock. -/
theorem resetKeepsClockAndLock : Obligations.ResetKeepsClockAndLock := by
  refine ⟨fun s tag h => Replies.of_own h rfl rfl rfl, fun s f hp hs ht hstatus => ?_⟩
  have heffect : effect .softReset s = s.softReset := State.beginSoftReset_eq hs ((isResetReply_iff f).mpr ⟨ht, hstatus⟩)
  have hevent : isEvent .softReset := ⟨nofun, nofun⟩
  rw [exec_powered hevent hp, heffect, State.conclude_at_reset rfl rfl rfl rfl rfl, State.softReset, State.restart,
    s.resetGuards_eq]
  rfl

/-- Settles O17: POWER_ON_RESET is the reset of every block, at whose end no arbiter has a choice to make. -/
theorem powerOnResetsEveryBlock : Obligations.PowerOnResetsEveryBlock := by
  intro s
  rw [exec_powerOnReset, State.conclude_at_reset rfl rfl rfl rfl rfl, State.powerUp, State.restart, s.resetGuards_eq]
  rfl

/-! ## A write cut short -/

/-- A record damaged fails its check where the store has its canonical form. -/
theorem checked_damage {α : Type} {name : Nat → RecordName} {m : RecordMap (Stored α)} (k : Nat)
    (h : RecordMap.sound name m = true) : checked (name k) ((m.damage k).read k) = none := by
  obtain ⟨hwf, -⟩ : m.wf = true ∧ _ := by simpa only [RecordMap.sound, Bool.and_eq_true] using h
  rw [RecordMap.read_damage_same m k hwf]
  rfl

/-- A record damaged leaves the others as they were. -/
theorem checked_damage_other {α : Type} {name : Nat → RecordName} (m : RecordMap (Stored α)) {k i : Nat} (h : i ≠ k) :
    checked (name i) ((m.damage k).read i) = checked (name i) (m.read i) := by
  rw [RecordMap.read_damage_other m h]

section
variable {f : Fram}

theorem Fram.damageFlatPage_failsAt (p : FlatPageNo) (h : f.wf = true) :
    ({ f with flatPages := f.flatPages.damage p.1 } : Fram).FailsAt (.flatPage p.1) := by
  obtain ⟨-, -, -, -, -, hpages, -⟩ := (Fram.wf_iff f).mp h
  rintro q hq
  rw [Fram.flatPage, hq]
  exact checked_damage p.1 hpages

theorem Fram.damageCardPage_failsAt (p : CardPageNo) (h : f.wf = true) :
    ({ f with cardPages := f.cardPages.damage p.1 } : Fram).FailsAt (.cardPage p.1) := by
  obtain ⟨-, -, -, -, -, -, hpages, -⟩ := (Fram.wf_iff f).mp h
  rintro q hq
  rw [Fram.cardPage, hq]
  exact checked_damage p.1 hpages

theorem Fram.damageAccount_failsAt (a : AccountNo) (h : f.wf = true) :
    ({ f with accounts := f.accounts.damage a.1 } : Fram).FailsAt (.account a.1) := by
  obtain ⟨-, -, -, -, -, -, -, haccounts, -⟩ := (Fram.wf_iff f).mp h
  rintro q hq
  rw [Fram.account, hq]
  exact checked_damage a.1 haccounts

theorem Fram.damageSlot_failsAt (m : MachineNo) (h : f.wf = true) :
    ({ f with slots := f.slots.damage m.1 } : Fram).FailsAt (.slot m.1) := by
  obtain ⟨-, -, -, -, -, -, -, -, hslots⟩ := (Fram.wf_iff f).mp h
  rintro q hq
  rw [Fram.slot, hq]
  exact checked_damage m.1 hslots

/-- The condition under which a conditional update of a slot writes. -/
theorem Fram.copyWith_isSome (f : Fram) (m : MachineNo) (id : Nat) : (f.copyWith m id).isSome = f.copyMatches m id := by
  unfold Fram.copyWith Fram.copyMatches
  cases hslot : f.slot m with
  | none => rfl
  | some x =>
    cases hcopy : x.copy with
    | none => simp [hcopy]
    | some c => by_cases hid : c.id = id <;> simp [hcopy, hid, Option.filter]

/-- The condition under which a day update writes. -/
theorem Fram.dayTarget_eq (f : Fram) (u : DayUpdate) : f.dayTarget u = (f.cardPageOf u.path).join.filter (f.dayMatches u) := by
  unfold Fram.dayTarget
  congr 1
  funext p
  unfold Fram.dayMatches
  cases f.cardPage p <;> rfl

/-- What a day update cut short leaves. -/
theorem Fram.cutShort_dayUpdate (f : Fram) (u : DayUpdate) : f.cutShort (.dayUpdate u) = match f.dayTarget u with
    | some p => { f with cardPages := f.cardPages.damage p.1 }
    | none => f := by
  rw [Fram.dayTarget_eq, Fram.cutShort]
  cases hpath : f.cardPageOf u.path with
  | none => rfl
  | some page =>
    cases page with
    | none => rfl
    | some p => by_cases hday : f.dayMatches u p = true <;> simp [hday, Option.filter]

/-- What a conditional update of a slot cut short leaves. -/
theorem Fram.cutShort_slotIf (f : Fram) (m : MachineNo) (id : Nat) :
    (if f.copyMatches m id then { f with slots := f.slots.damage m.1 } else f) = match f.copyWith m id with
      | some _ => { f with slots := f.slots.damage m.1 }
      | none => f := by
  rw [← Fram.copyWith_isSome]
  cases f.copyWith m id <;> rfl

/-- A write cut short leaves the record it writes failing its check, where the store has its canonical form (R177). -/
theorem Fram.cutShort_failsAt {a : Access} {n : RecordName} (ht : f.target a = some n) (h : f.wf = true) :
    (f.cutShort a).FailsAt n := by
  have conditional {m : MachineNo} {id : Nat} (hm : ((f.copyWith m id).map fun _ => RecordName.slot m.1) = some n) :
      Fram.FailsAt (if f.copyMatches m id then { f with slots := f.slots.damage m.1 } else f) n := by
    obtain ⟨c, hc, rfl⟩ := Option.map_eq_some_iff.mp hm
    rw [Fram.cutShort_slotIf, hc]
    exact Fram.damageSlot_failsAt m h
  cases a with
  | readSegment _ | readFloors | readFlatPage _ | readCardPage _ | readAccount _ | readSlot _ | status => cases ht
  | writeOne _ | writeTwo _ | writeThree _ | writeFour _ | writeFloors _ | updateFloor _ _ =>
    cases ht
    rfl
  | writeFlatPage p _ | updateFlat p _ _ =>
    cases ht
    exact Fram.damageFlatPage_failsAt p h
  | writeCardPage p _ | updateCard p _ _ =>
    cases ht
    exact Fram.damageCardPage_failsAt p h
  | writeAccount a _ =>
    cases ht
    exact Fram.damageAccount_failsAt a h
  | writeSlot m _ | slotLockout m _ | slotAppend m _ | slotMarkAll m | slotMarkPart m _ | slotParts m _ _ =>
    cases ht
    exact Fram.damageSlot_failsAt m h
  | slotRemove m id | slotRefresh m id _ _ => exact conditional ht
  | slotRemovePart m id p =>
    obtain ⟨hslot, hcopy⟩ : p.inSlot = true ∧ _ := by
      rw [Fram.target] at ht
      exact Option.ite_none_right_eq_some.mp ht
    simp only [Fram.cutShort, hslot, Bool.true_and]
    exact conditional hcopy
  | dayUpdate u =>
    obtain ⟨p, hp, rfl⟩ := Option.map_eq_some_iff.mp ht
    rw [Fram.cutShort_dayUpdate, hp]
    exact Fram.damageCardPage_failsAt p h

theorem Fram.damageFlatPage_sameAt (f : Fram) (p : FlatPageNo) {n : RecordName} (h : n ≠ .flatPage p.1) :
    f.SameAt { f with flatPages := f.flatPages.damage p.1 } n := by
  cases n with
  | flatPage k => exact fun q hq => checked_damage_other _ fun e => h (by rw [← hq, e])
  | segment k => unfold Fram.SameAt; split <;> trivial
  | floors => rfl
  | _ => exact fun _ _ => rfl

theorem Fram.damageCardPage_sameAt (f : Fram) (p : CardPageNo) {n : RecordName} (h : n ≠ .cardPage p.1) :
    f.SameAt { f with cardPages := f.cardPages.damage p.1 } n := by
  cases n with
  | cardPage k => exact fun q hq => checked_damage_other _ fun e => h (by rw [← hq, e])
  | segment k => unfold Fram.SameAt; split <;> trivial
  | floors => rfl
  | _ => exact fun _ _ => rfl

theorem Fram.damageAccount_sameAt (f : Fram) (a : AccountNo) {n : RecordName} (h : n ≠ .account a.1) :
    f.SameAt { f with accounts := f.accounts.damage a.1 } n := by
  cases n with
  | account k => exact fun q hq => checked_damage_other _ fun e => h (by rw [← hq, e])
  | segment k => unfold Fram.SameAt; split <;> trivial
  | floors => rfl
  | _ => exact fun _ _ => rfl

theorem Fram.damageSlot_sameAt (f : Fram) (m : MachineNo) {n : RecordName} (h : n ≠ .slot m.1) :
    f.SameAt { f with slots := f.slots.damage m.1 } n := by
  cases n with
  | slot k => exact fun q hq => checked_damage_other _ fun e => h (by rw [← hq, e])
  | segment k => unfold Fram.SameAt; split <;> trivial
  | floors => rfl
  | _ => exact fun _ _ => rfl

/-- A write cut short leaves every other record reading as before (R177). -/
theorem Fram.cutShort_sameAt (f : Fram) {a : Access} {n : RecordName} (h : f.target a ≠ some n) : f.SameAt (f.cutShort a) n := by
  have other {k : RecordName} (e : f.target a = some k) : n ≠ k := fun i => h (by rw [e, i])
  have conditional (m : MachineNo) (id : Nat) (hm : ((f.copyWith m id).map fun _ => RecordName.slot m.1) ≠ some n) :
      f.SameAt (if f.copyMatches m id then { f with slots := f.slots.damage m.1 } else f) n := by
    rw [Fram.cutShort_slotIf]
    cases hc : f.copyWith m id with
    | none => exact f.sameAt_refl n
    | some c => exact f.damageSlot_sameAt m fun e => hm (by rw [hc, e]; rfl)
  cases a with
  | readSegment _ | readFloors | readFlatPage _ | readCardPage _ | readAccount _ | readSlot _ | status => exact f.sameAt_refl n
  | writeOne _ | writeTwo _ | writeThree _ | writeFour _ | writeFloors _ | updateFloor _ _ =>
    have hn := other rfl
    cases n with
    | segment k => unfold Fram.SameAt; split <;> first | rfl | trivial
    | floors => first | rfl | exact absurd rfl hn
    | _ => exact fun _ _ => rfl
  | writeFlatPage p _ | updateFlat p _ _ => exact f.damageFlatPage_sameAt p (other rfl)
  | writeCardPage p _ | updateCard p _ _ => exact f.damageCardPage_sameAt p (other rfl)
  | writeAccount a _ => exact f.damageAccount_sameAt a (other rfl)
  | writeSlot m _ | slotLockout m _ | slotAppend m _ | slotMarkAll m | slotMarkPart m _ | slotParts m _ _ =>
    exact f.damageSlot_sameAt m (other rfl)
  | slotRemove m id | slotRefresh m id _ _ => exact conditional m id h
  | slotRemovePart m id p =>
    by_cases hslot : p.inSlot = true
    · simp only [Fram.target, hslot, if_true] at h
      simp only [Fram.cutShort, hslot, Bool.true_and]
      exact conditional m id h
    · simp only [Fram.cutShort, hslot, Bool.false_and]
      exact f.sameAt_refl n
  | dayUpdate u =>
    rw [Fram.cutShort_dayUpdate]
    cases hp : f.dayTarget u with
    | none => exact f.sameAt_refl n
    | some p => exact f.damageCardPage_sameAt p (other (by rw [Fram.target, hp]; rfl))

end

/-- Settles O18: the store by where the head transaction's write is cut, and the unpowered part by what acts without power. -/
theorem powerLossKeepsStoreOnly : Obligations.PowerLossKeepsStoreOnly := by
  intro s cut hp
  refine ⟨s.losePower cut, by rw [exec_powerLoss, if_pos hp], rfl, rfl, ?fram, fun r => ?pins, fun c hon hpin => ?idle,
    fun f a n => ⟨Fram.cutShort_failsAt, f.cutShort_sameAt⟩⟩
  case fram =>
    show s.cutFram cut = _
    unfold State.cutFram
    cases cut <;> cases s.store.queue <;> rfl
  case pins => simp [State.losePower, State.restart, State.resetGuards, State.guard, look]
  case idle =>
    by_cases hoff : ∃ k, c = .powerLoss k
    · obtain ⟨k, rfl⟩ := hoff
      rfl
    · have hevent : isEvent c := ⟨hon, fun k hk => hoff ⟨k, hk⟩⟩
      rw [exec_eq_act _ hevent hpin, act_unpowered _ rfl]

/-- Settles O6: of the reset state, the arbiters' choices, the store, the minute, the feeder and the scan. -/
theorem invariantsAtReset : Obligations.InvariantsAtReset := by
  have hroom : ∀ r, look State.reset.feeder.rooms r = RoomFeeder.initial := fun r => Vector.getElem_replicate _
  have hlink : ∀ m, State.reset.link m = { Link.initial with slow := .expired } := fun m => Vector.getElem_replicate _
  have hmachine : ∀ m, State.reset.machine m = MachineRecord.initial := fun m => Vector.getElem_replicate _
  have hcontext : ∀ c, State.reset.context c = Context.initial := fun c => Vector.getElem_replicate _
  have hguard : ∀ r, State.reset.guard r = RoomGuard.initial := fun r => Vector.getElem_replicate _
  refine ⟨?quiet, rfl, Nat.zero_le _, ?bounded, ?consistent, ?drained, ?alone⟩
  case quiet =>
    exact ⟨nofun, fun _ => LineController.choose_initial, fun _ => Cache.choose_initial, .inl rfl, fun _ => nofun⟩
  case bounded => exact ⟨fun r => by simp [Feeder.granted, hroom, RoomFeeder.initial, loadOf], by decide⟩
  case consistent =>
    refine ⟨fun r c hc => ?_, by decide⟩
    rw [hroom] at hc
    simp [RoomFeeder.initial] at hc
  case drained => exact (Feeder.drained_iff _).mpr (by decide)
  case alone =>
    intro _
    refine ⟨rfl, rfl, fun m => ?_, rfl, fun c => ?_, rfl, rfl, fun r => ?_, fun r => ?_⟩
    · rw [hlink, hmachine]
      exact ⟨rfl, rfl, rfl⟩
    · rw [hcontext]
      exact ⟨rfl, rfl⟩
    · rw [hroom]
      exact ⟨rfl, rfl, rfl⟩
    · rw [hguard]
      exact ⟨rfl, rfl, rfl⟩

end Sys2Proof.Machine
end

section
/-! SUPPORT. The store: what each access makes of its records (R61, R102, R107, R112, R113, R177 to R179), and the canonical form that
every step keeps. -/
namespace Sys2Proof.Machine

variable {f : Fram}

/-! ## Reads and writes -/

theorem Fram.reads_of {α : Type} {a : Access} {r : Option α} {c : α → Result} (h : f.perform a = (readResult r c, f)) :
    f.Reads a r c :=
  ⟨fun x hx => by rw [h, hx, readResult], fun hx => by rw [h, hx, readResult]⟩

theorem Fram.writes_of {α : Type} {a : Access} {r : Fram → Option α} {x : α} {g : Fram} (h : f.perform a = (.ok, g))
    (hr : r g = some x) : f.Writes a r x := by
  unfold Fram.Writes
  rw [h]
  exact ⟨rfl, hr⟩

/-- A field update that reads the record, changes it and writes it back. -/
theorem Fram.updates_of {α : Type} {a : Access} {r : Fram → Option α} {g : α → α → Prop} (change : α → α) (write : α → Fram)
    (hnone : r f = none → f.perform a = (.damaged, f)) (hsome : ∀ x, r f = some x → f.perform a = (.ok, write (change x)))
    (hr : ∀ x, r (write x) = some x) (hg : ∀ x, g x (change x)) : f.Updates a r g := by
  refine ⟨hnone, fun x hx => ?_⟩
  rw [hsome x hx]
  exact ⟨rfl, change x, hr _, hg x⟩

/-! ## Slots -/

/-- A field update of a slot. -/
theorem Fram.updates_slot {a : Access} {m : MachineNo} {change : Slot → Slot} {g : Slot → Slot → Prop}
    (h : f.perform a = f.updateSlot m change) (hg : ∀ x, g x (change x)) : f.Updates a (fun u => u.slot m) g := by
  refine Fram.updates_of change (f.setSlot m) (fun hx => ?_) (fun x hx => ?_) (fun x => Fram.slot_setSlot _ m x) hg
  · rw [h, Fram.updateSlot, hx]
  · rw [h, Fram.updateSlot, hx]

/-- A change of the session copy leaves a slot without one as it was. -/
theorem Slot.copyTo_map {g : SlotCopy → SlotCopy → Prop} {change : SlotCopy → SlotCopy} (hg : ∀ c, g c (change c)) (x : Slot) :
    Slot.CopyTo g x { x with copy := x.copy.map change } := by
  refine ⟨fun hx => ?_, fun c hc => ⟨change c, hg c, by rw [hc]; rfl⟩⟩
  obtain ⟨⟩ := x
  simp_all

/-- A field update of a slot's session copy. -/
theorem Fram.updates_copy {a : Access} {m : MachineNo} {change : SlotCopy → SlotCopy} {g : SlotCopy → SlotCopy → Prop}
    (h : f.perform a = f.updateCopy m change) (hg : ∀ c, g c (change c)) :
    f.Updates a (fun u => u.slot m) (Slot.CopyTo g) :=
  Fram.updates_slot h (Slot.copyTo_map hg)

/-- A conditional update of a slot's session copy. -/
theorem Fram.updatesIf_of {a : Access} {m : MachineNo} {id : Nat} {change : SlotCopy → Option SlotCopy}
    {g : SlotCopy → Option SlotCopy → Prop} (h : f.perform a = f.updateCopyIf m id change) (hg : ∀ c, g c (change c)) :
    f.UpdatesIf a m id g := by
  unfold Fram.UpdatesIf
  rw [h, Fram.updateCopyIf]
  refine ⟨fun hx => by rw [hx], fun x hx => ⟨fun c hc hid => ?holds, fun hother => ?other⟩⟩
  case holds =>
    simp only [hx, hc, if_pos hid]
    exact ⟨trivial, change c, hg c, Fram.slot_setSlot _ m _⟩
  case other =>
    cases hc : x.copy with
    | none => simp only [hx, hc]
    | some c => simp only [hx, hc, if_neg (hother c hc)]

/-! ## The released part of a copy -/

/-- The last index that a predicate accepts. -/
theorem find?_reverse_range {n : Nat} {p : Nat → Bool} {i : Nat} :
    (List.range n).reverse.find? p = some i ↔ i < n ∧ p i = true ∧ ∀ k, i < k → k < n → p k = false := by
  induction n with
  | zero => simp
  | succ n ih =>
    rw [List.range_succ, List.reverse_append, List.reverse_singleton, List.singleton_append, List.find?_cons]
    cases hp : p n with
    | true =>
      simp only [Option.some.injEq]
      constructor
      · rintro rfl
        exact ⟨by omega, hp, fun k hlow hhigh => by omega⟩
      · rintro ⟨hi, -, hlast⟩
        by_contra hne
        have hfalse := hlast n (by omega) (by omega)
        rw [hp] at hfalse
        cases hfalse
    | false =>
      rw [ih]
      constructor
      · rintro ⟨hi, hpi, hlast⟩
        refine ⟨by omega, hpi, fun k hlow hhigh => ?_⟩
        by_cases hk : k = n
        · rw [hk, hp]
        · exact hlast k hlow (by omega)
      · rintro ⟨hi, hpi, hlast⟩
        have hne : i ≠ n := by
          rintro rfl
          rw [hp] at hpi
          cases hpi
        exact ⟨by omega, hpi, fun k hlow hhigh => hlast k hlow (by omega)⟩

/-- The released part of a copy stands where the part found last stands. -/
theorem SlotCopy.released?_eq {c : SlotCopy} {payer : Option AccountNo} {hold units : Nat} {before after : List SlotPart}
    {y : SlotPart} (h : LastReleased payer hold units c.parts before y after) :
    c.released? payer hold units = some before.length := by
  obtain ⟨hparts, ⟨hpayer, hhold, hunits⟩, hafter⟩ := h
  refine find?_reverse_range.mpr ⟨by simp [hparts], by simp [hparts, hpayer, hhold, hunits], fun k hlow hhigh => ?_⟩
  have hk : c.parts[k]? = after[k - before.length - 1]? := by
    rw [hparts, List.getElem?_append_right (by omega), List.getElem?_cons, if_neg (by omega)]
  have hin : k - before.length - 1 < after.length := by
    simp only [hparts, List.length_append, List.length_cons] at hhigh
    omega
  rw [hk, List.getElem?_eq_getElem hin, Option.any_some]
  by_contra hne
  exact hafter _ (List.getElem_mem hin) (by simpa [and_assoc] using hne)

/-- A part found is the last released one. -/
theorem SlotCopy.lastReleased_of_released? {c : SlotCopy} {payer : Option AccountNo} {hold units i : Nat}
    (h : c.released? payer hold units = some i) :
    ∃ before y after, LastReleased payer hold units c.parts before y after := by
  obtain ⟨hi, hpart, hlast⟩ := find?_reverse_range.mp h
  refine ⟨c.parts.take i, c.parts[i], c.parts.drop (i + 1), ?_, ?_, fun z hz hreleased => ?_⟩
  · rw [List.getElem_cons_drop, List.take_append_drop]
  · simpa [hi, and_assoc] using hpart
  · obtain ⟨j, hj, rfl⟩ := List.getElem_of_mem hz
    rw [List.length_drop] at hj
    have hfalse := hlast (i + 1 + j) (by omega) (by omega)
    rw [List.getElem?_eq_getElem (by omega), Option.any_some] at hfalse
    rw [List.getElem_drop] at hreleased
    obtain ⟨hpayer, hhold, hunits⟩ := hreleased
    simp [hpayer, hhold, hunits] at hfalse

/-- With no released part in the copy none is found. -/
theorem SlotCopy.released?_none {c : SlotCopy} {payer : Option AccountNo} {hold units : Nat}
    (h : ∀ before y after, ¬ LastReleased payer hold units c.parts before y after) : c.released? payer hold units = none := by
  cases hfound : c.released? payer hold units with
  | none => rfl
  | some i =>
    obtain ⟨before, y, after, hlast⟩ := SlotCopy.lastReleased_of_released? hfound
    exact absurd hlast (h before y after)

theorem modify_at_length {α : Type} (g : α → α) (before after : List α) (y : α) :
    (before ++ y :: after).modify before.length g = before ++ g y :: after := by
  induction before with
  | nil => simp
  | cons x rest ih => simp [ih]

theorem SlotCopy.markPart_of_last {c : SlotCopy} {p : Part} {before after : List SlotPart} {y : SlotPart}
    (h : LastReleased p.payer p.hold p.units c.parts before y after) :
    c.markPart p = { c with parts := before ++ { y with mark := true } :: after } := by
  rw [SlotCopy.markPart, SlotCopy.released?_eq h]
  obtain ⟨hparts, -⟩ := h
  simp [hparts, modify_at_length]

theorem SlotCopy.markPart_of_none {c : SlotCopy} {p : Part}
    (h : ∀ before y after, ¬ LastReleased p.payer p.hold p.units c.parts before y after) : c.markPart p = c := by
  rw [SlotCopy.markPart, SlotCopy.released?_none h]

theorem SlotCopy.removePart_of_last {c : SlotCopy} {p : DeferredPart} {before after : List SlotPart} {y : SlotPart}
    (hslot : p.inSlot = true) (h : LastReleased p.payer p.hold p.units c.parts before y after) :
    c.removePart p = { c with parts := before ++ after, units := c.units - p.units } := by
  rw [SlotCopy.removePart, if_pos hslot, SlotCopy.released?_eq h]
  obtain ⟨hparts, -⟩ := h
  simp [hparts, List.eraseIdx_append_of_length_le]

theorem SlotCopy.removePart_of_none {c : SlotCopy} {p : DeferredPart}
    (h : p.inSlot = false ∨ ∀ before y after, ¬ LastReleased p.payer p.hold p.units c.parts before y after) :
    c.removePart p = c := by
  rw [SlotCopy.removePart]
  rcases h with hslot | hnone
  · rw [hslot, if_neg Bool.false_ne_true]
  · split
    · rename_i i hi
      rw [SlotCopy.released?_none hnone, ite_self] at hi
      cases hi
    · rfl

theorem SlotCopy.markAll_eq (c : SlotCopy) : c.markAll = { c with
    parts := c.parts.map fun z => { z with mark := z.mark || decide (z.part.payer ≠ none ∧ 0 < z.part.hold) } } := by
  rw [SlotCopy.markAll]
  congr 2
  funext z
  cases hp : z.part.payer <;> by_cases hh : 0 < z.part.hold <;> simp [Part.takesAccount, hp, hh]

/-! ## Day updates -/

/-- A day update that reaches a card page. -/
theorem Fram.dayUpdate_at_page {u : DayUpdate} {p : CardPageNo} {cards : CardPage} (hpath : f.cardPageOf u.path = some (some p))
    (hcards : f.cardPage p = some cards) :
    (∀ attrs hold targeted day, look cards u.path.ordinal = .account u.account attrs hold targeted day →
      f.perform (.dayUpdate u) =
        (.ok, f.setCardPage p (cards.set u.path.ordinal.1 (.account u.account attrs hold targeted u.day)))) ∧
    ((∀ attrs hold targeted day, look cards u.path.ordinal ≠ .account u.account attrs hold targeted day) →
      f.perform (.dayUpdate u) = (.ok, f)) := by
  refine ⟨fun attrs hold targeted day hd => ?_, fun hd => ?_⟩
  · simp only [Fram.perform, Fram.dayUpdate, hpath, hcards, hd]
    rfl
  · simp only [Fram.perform, Fram.dayUpdate, hpath, hcards]
    split
    · rename_i a attrs hold targeted day hlook
      refine if_neg ?_
      rintro rfl
      exact hd attrs hold targeted day hlook
    · rfl

theorem Fram.dayUpdate_of_damaged {u : DayUpdate} (h : f.cardPageOf u.path = none) :
    f.perform (.dayUpdate u) = (.damaged, f) := by
  simp [Fram.perform, Fram.dayUpdate, h]

theorem Fram.dayUpdate_of_no_page {u : DayUpdate} (h : f.cardPageOf u.path = some none) :
    f.perform (.dayUpdate u) = (.ok, f) := by
  simp [Fram.perform, Fram.dayUpdate, h]

/-! ## The canonical form -/

/-- Every step keeps the canonical form: an event writes by accesses alone, and a power loss may cut the last one short. -/
theorem step_keeps_wf {s t : State} (hs : s.fram.wf = true) (h : step s = .next t) : t.fram.wf = true := by
  refine step_keeps (P := fun u => u.fram.wf = true) (fun _ _ hu => hu) hs h (fun _ _ _ hu => hu) ?on
    (fun u cut hu => u.cutFram_wf cut hu) ?event
  case on =>
    intro u hu
    have hstill : u.powerUp.conclude.still = u.powerUp.still := by simp
    obtain ⟨-, -, hfram, -⟩ := State.follows_of_still hstill
    rwa [hfram]
  case event =>
    intro c u hu hp
    obtain ⟨-, -, hfram, -⟩ := event_advances c u hp
    rcases hfram with heq | ⟨a, heq⟩
    · rwa [heq]
    · rw [heq]
      exact u.fram.perform_wf a hu

/-! ## The obligation -/

/-- Settles O4: the step by the canonical form each access keeps, and each access by what it reads, writes, updates, or updates under
a condition. -/
theorem storeFormIsKept : Obligations.StoreFormIsKept := by
  refine ⟨fun s t hs h => step_keeps_wf hs h, fun f => ⟨fun a n => f.perform_sameAt a n, ?_, ?_, ?_, ?_, ?_, fun p => ?_, fun p => ?_,
    fun a => ?_, fun m => ?_, rfl, fun x => ?_, fun x => ?_, fun x => ?_, fun x => ?_, fun x => ?_, fun p x => ?_, fun p x => ?_,
    fun a x => ?_, fun m x => ?_, fun i d => ?floor, fun p i d => ?flat, fun p i d => ?card, fun m code => ?lockout,
    fun m p => ?append, fun m => ?markAll, fun m p => ?markPart, fun m parts units => ?parts, fun m id e p => ?refresh,
    fun m id => ?remove, fun m id p => ?removePart, fun u => ?day⟩⟩
  iterate 9 exact Fram.reads_of rfl
  iterate 4 exact Fram.writes_of rfl (checked_make _ _)
  · exact Fram.writes_of rfl (checked_make _ _)
  · exact Fram.writes_of rfl (Fram.flatPage_setFlatPage _ _ _)
  · exact Fram.writes_of rfl (Fram.cardPage_setCardPage _ _ _)
  · exact Fram.writes_of rfl (Fram.account_setAccount _ _ _)
  · exact Fram.writes_of rfl (Fram.slot_setSlot _ _ _)
  case floor =>
    exact Fram.updates_of (fun x => x.set i.1 d) f.setFloors (fun hx => by simp [Fram.perform, hx])
      (fun x hx => by simp [Fram.perform, hx, update]) (fun x => checked_make _ _) fun _ => rfl
  case flat =>
    exact Fram.updates_of (fun x => x.set i.1 d) (f.setFlatPage p) (fun hx => by simp [Fram.perform, hx])
      (fun x hx => by simp [Fram.perform, hx, update]) (fun x => Fram.flatPage_setFlatPage _ _ _) fun _ => rfl
  case card =>
    exact Fram.updates_of (fun x => x.set i.1 d) (f.setCardPage p) (fun hx => by simp [Fram.perform, hx])
      (fun x hx => by simp [Fram.perform, hx, update]) (fun x => Fram.cardPage_setCardPage _ _ _) fun _ => rfl
  case lockout => exact Fram.updates_slot rfl fun _ => rfl
  case append => exact Fram.updates_copy rfl fun _ => rfl
  case markAll => exact Fram.updates_copy rfl SlotCopy.markAll_eq
  case markPart =>
    exact Fram.updates_copy rfl fun c => ⟨fun _ _ _ => SlotCopy.markPart_of_last, SlotCopy.markPart_of_none⟩
  case parts => exact Fram.updates_copy rfl fun _ => rfl
  case refresh => exact Fram.updatesIf_of rfl fun _ => rfl
  case remove => exact Fram.updatesIf_of rfl fun _ => rfl
  case removePart =>
    exact Fram.updatesIf_of rfl fun c => ⟨fun hslot _ _ _ h => congrArg some (SlotCopy.removePart_of_last hslot h),
      fun h => congrArg some (SlotCopy.removePart_of_none h)⟩
  case day =>
    refine ⟨fun htab => Fram.dayUpdate_of_damaged (by simp [Fram.cardPageOf, htab]), fun tab htab => ⟨fun hfloor =>
      Fram.dayUpdate_of_no_page (by simp [Fram.cardPageOf, htab, hfloor]), fun g hfloor => ⟨fun hflats =>
      Fram.dayUpdate_of_damaged (by simp [Fram.cardPageOf, htab, hfloor, hflats]), fun flats hflats => ?_⟩⟩⟩
    have hpath : f.cardPageOf u.path = some (look flats u.path.flat).page := by
      simp [Fram.cardPageOf, htab, hfloor, hflats]
    refine ⟨fun hflat => Fram.dayUpdate_of_no_page (by rw [hpath, hflat]), fun p hflat => ⟨fun hcards => ?_, fun cards hcards => ?_⟩⟩
    · simp [Fram.perform, Fram.dayUpdate, hpath, hflat, hcards]
    · obtain ⟨hwrites, hleaves⟩ := Fram.dayUpdate_at_page (hpath.trans (congrArg some hflat)) hcards
      refine ⟨fun attrs hold targeted day hd => ?_, hleaves⟩
      rw [hwrites attrs hold targeted day hd]
      exact ⟨rfl, Fram.cardPage_setCardPage _ _ _⟩

end Sys2Proof.Machine
end

section
/-! SUPPORT. The end of an event leaves nothing waiting that could go on, and what the store port's own issuers issue (R41, R87, R180,
R181, R183, R199). -/
namespace Sys2Proof.Machine

/-! ## Each arbiter after its choice -/

theorem HostLink.transmit_quiet (h : HostLink) (hs : h.transmit.sending = none) :
    h.transmit.ready = none ∧ h.transmit.notices = [] := by
  cases hsend : h.sending with
  | some f => simp [HostLink.transmit, hsend] at hs
  | none =>
    cases hready : h.ready with
    | some f => simp [HostLink.transmit, hsend, hready] at hs
    | none =>
      cases hnotices : h.notices with
      | nil => simp [HostLink.transmit, hsend, hready, hnotices]
      | cons n rest =>
        simp only [HostLink.transmit, hsend, hready, hnotices] at hs
        split at hs <;> cases hs

theorem LineController.begin_quiet (c : LineController) (h : c.begin.exchange = none) : c.begin.choose = none := by
  cases hexchange : c.exchange with
  | some x => simp [LineController.begin, hexchange] at h
  | none =>
    cases hchoose : c.choose with
    | some m => simp [LineController.begin, hexchange, hchoose] at h
    | none => simp only [LineController.begin, hexchange, hchoose]

/-- An access chosen is the array's (R87). -/
theorem Cache.access_start (c : Cache) (a : CacheAccess) : (c.start a).access = some a := by
  have begins : ∀ d : Cache, d.beginSweep.access = d.access := by
    intro d
    unfold Cache.beginSweep
    split <;> rfl
  cases a with
  | lookup => rfl
  | sweep => exact begins _

theorem Cache.arbitrate_quiet (c : Cache) (h : c.arbitrate.access = none) : c.arbitrate.choose = none := by
  cases haccess : c.access with
  | some a => simp [Cache.arbitrate, haccess] at h
  | none =>
    cases hchoose : c.choose with
    | some a => simp [Cache.arbitrate, haccess, hchoose, Cache.access_start] at h
    | none => simp only [Cache.arbitrate, haccess, hchoose]

/-! ## The store port -/

/-- Draining leaves nothing but the probe in the queue (R183). -/
theorem State.drain_queue (fuel : Nat) (s : State) : ∀ t ∈ (s.drain fuel).store.queue, t.isProbe = true := by
  induction fuel generalizing s with
  | zero => exact fun t ht => (List.mem_filter.mp ht).2
  | succ fuel ih =>
    rw [State.drain]
    split
    · rename_i hnone
      intro t ht
      simpa using List.filter_eq_nil_iff.mp hnone t ht
    · exact ih _

theorem State.failIssued_isSettled (s : State) : s.failIssued.Settled := by
  unfold State.failIssued
  split
  · rename_i hup
    exact .inl hup
  · exact .inr (s.drain_queue 64)

/-- The write-back list issues nothing, or its oldest day update (R180). -/
theorem State.issueDay_cases (s : State) :
    s.issueDay = s ∧ (s.store.DayQueued ∨ s.store.dayList = []) ∨
      ∃ u later, ¬ s.store.DayQueued ∧ s.store.dayList = u :: later ∧ s.issueDay = { s with
        store := { s.store with dayList := later, queue := s.store.queue ++ [⟨.dayList, .dayUpdate u⟩] } } := by
  unfold State.issueDay
  by_cases hq : s.hasIssued (· == .dayList) = true
  · rw [if_pos hq]
    exact .inl ⟨rfl, .inl (s.hasIssued_day.mp hq)⟩
  · rw [if_neg hq]
    cases hd : s.store.dayList with
    | nil => exact .inl ⟨rfl, .inr rfl⟩
    | cons u later => exact .inr ⟨u, later, fun e => hq (s.hasIssued_day.mpr e), rfl, rfl⟩

theorem State.issueDay_issued (s : State) : s.store.DayIssued s.issueDay.store := by
  rcases s.issueDay_cases with ⟨heq, hstop⟩ | ⟨u, later, hqueued, hlist, heq⟩
  · rw [heq]
    refine ⟨fun _ => rfl, fun u later hlist hqueued => ?_⟩
    rcases hstop with h | h
    · exact absurd h hqueued
    · rw [h] at hlist
      cases hlist
  · rw [heq]
    refine ⟨fun h => ?_, fun v rest hv _ => ?_⟩
    · rcases h with h | h
      · rw [h] at hlist
        cases hlist
      · exact absurd h hqueued
    · rw [hlist] at hv
      cases hv
      rfl

/-- Once the list has issued it is empty or has a day update in the queue. -/
theorem State.issueDay_quiet (s : State) : s.issueDay.store.dayList = [] ∨ s.issueDay.store.DayQueued := by
  rcases s.issueDay_cases with ⟨heq, hstop⟩ | ⟨u, later, -, -, heq⟩
  · rw [heq]
    exact hstop.symm
  · rw [heq]
    exact .inr ⟨_, List.mem_append_right _ (List.mem_singleton_self _), rfl⟩

/-- The refresher leaves the list alone, and the queue but for what it adds at the tail (R181). -/
theorem State.refresh_store_keeps (s : State) :
    s.refresh.store.dayList = s.store.dayList ∧ s.refresh.store.state = s.store.state ∧
      ∀ t ∈ s.store.queue, t ∈ s.refresh.store.queue := by
  unfold State.refresh
  split
  · exact ⟨rfl, rfl, fun _ => id⟩
  · split
    · exact ⟨rfl, rfl, fun _ => List.mem_append_left _⟩
    · split
      · exact ⟨rfl, rfl, fun _ => List.mem_append_left _⟩
      · exact ⟨rfl, rfl, fun _ => id⟩

/-- Once the refresher has issued, no machine has a mark or one of its updates is in the queue (R181). -/
theorem State.refresh_quiet (s : State) :
    (∀ m, look s.refresh.store.lockoutMarks m = false ∧ look s.refresh.store.refreshMarks m = false) ∨
      s.refresh.store.RefresherQueued := by
  by_cases hq : s.hasIssued Issuer.isRefresher = true
  · rw [State.refresh, if_pos hq]
    exact .inr (s.hasIssued_refresher.mp hq)
  · rw [State.refresh, if_neg hq]
    cases hlockout : firstFrom s.store.pointer (fun m => look s.store.lockoutMarks m) with
    | some m => exact .inr ⟨_, List.mem_append_right _ (List.mem_singleton_self _), m, true, rfl⟩
    | none =>
      cases hrefresh : firstFrom s.store.pointer (fun m => look s.store.refreshMarks m) with
      | some m => exact .inr ⟨_, List.mem_append_right _ (List.mem_singleton_self _), m, false, rfl⟩
      | none => exact .inl fun m => ⟨(firstFrom_none _ _).mp hlockout m, (firstFrom_none _ _).mp hrefresh m⟩

/-- The store port's own issuers, in their order (log entry 43). -/
theorem State.issueOwn_up {s : State} (hup : s.storeUp = true) (hoff : s.scan.at_ = .off) : s.issueOwn = s.issueDay.refresh := by
  simp [State.issueOwn, hup, hoff]

theorem State.issueOwn_waits {s : State} (h : s.storeUp = false ∨ s.scan.at_ ≠ .off) : s.issueOwn = s := by
  rcases h with h | h <;> simp [State.issueOwn, h]

/-- The store's state is none of its issuers'. -/
theorem State.issueOwn_state (s : State) : s.issueOwn.store.state = s.store.state := by
  by_cases h : s.storeUp = true ∧ s.scan.at_ = .off
  · obtain ⟨hup, hoff⟩ := h
    obtain ⟨-, hstate, -⟩ := s.issueDay.refresh_store_keeps
    rw [State.issueOwn_up hup hoff, hstate]
    rcases s.issueDay_cases with ⟨heq, -⟩ | ⟨u, later, -, -, heq⟩ <;> rw [heq]
  · rw [State.issueOwn_waits]
    by_cases hup : s.storeUp = true
    · exact .inr fun hoff => h ⟨hup, hoff⟩
    · exact .inl (by simpa using hup)

theorem State.issueOwn_settled {s : State} (h : s.Settled) : s.issueOwn.Settled := by
  by_cases hup : s.storeUp = true
  · refine .inl ?_
    rw [State.storeUp, s.issueOwn_state]
    exact hup
  · rw [State.issueOwn_waits (.inl (by simpa using hup))]
    exact h

/-- Once the store port's own issuers have issued, they have nothing left to issue (R180, R181). -/
theorem State.issueOwn_quiet {s : State} (hup : s.storeUp = true) (hoff : s.scan.at_ = .off) :
    (s.issueOwn.store.dayList = [] ∨ s.issueOwn.store.DayQueued) ∧
      ((∀ m, look s.issueOwn.store.lockoutMarks m = false ∧ look s.issueOwn.store.refreshMarks m = false) ∨
        s.issueOwn.store.RefresherQueued) := by
  rw [State.issueOwn_up hup hoff]
  obtain ⟨hlist, -, hqueue⟩ := s.issueDay.refresh_store_keeps
  refine ⟨?_, s.issueDay.refresh_quiet⟩
  rcases s.issueDay_quiet with h | ⟨t, ht, hissuer⟩
  · exact .inl (hlist.trans h)
  · exact .inr ⟨t, hqueue t ht, hissuer⟩

/-! ## Quiet states -/

/-- The end of an event leaves nothing waiting that could go on. -/
theorem State.conclude_quiet (s : State) : s.conclude.Quiet := by
  obtain ⟨u, hu⟩ : ∃ u, u = s.failIssued := ⟨_, rfl⟩
  have hconclude : s.conclude = u.issueOwn.arbitrate.beginExchange.transmit := by rw [hu, State.conclude]
  have hset : u.issueOwn.Settled := State.issueOwn_settled (hu ▸ s.failIssued_isSettled)
  have hscan : u.issueOwn.scan = u.scan := by rw [u.issueOwn_eq]
  have hstate : u.issueOwn.storeUp = u.storeUp := by rw [State.storeUp, u.issueOwn_state, State.storeUp]
  rw [hconclude]
  refine ⟨HostLink.transmit_quiet _, LineController.begin_quiet _, Cache.arbitrate_quiet _, hset, fun hup hoff => ?_⟩
  have hup : u.issueOwn.storeUp = true := hup
  have hoff : u.issueOwn.scan.at_ = .off := hoff
  rw [hstate] at hup
  rw [hscan] at hoff
  exact State.issueOwn_quiet hup hoff

/-- A state in which the blocks of Quiet have their reset values is quiet. -/
theorem State.quiet_at_reset {u : State} (hhost : u.host = HostLink.initial) (hline : u.line = LineController.initial)
    (hcache : u.cache = Cache.initial) (hstore : u.store = StorePort.initial) (hscan : u.scan = Scan.initial) : u.Quiet := by
  rw [← State.conclude_at_reset hhost hline hcache hstore hscan]
  exact u.conclude_quiet

/-- Settles O3: every event ends with the choices that leave nothing waiting, and the store port's own issuers issue from the list and
then from the refresher. -/
theorem quietIsKept : Obligations.QuietIsKept := by
  refine ⟨fun s t hs h => step_keeps (P := State.Quiet) (fun _ _ hu => hu) hs h (fun _ _ _ hu => hu) (fun u _ => u.powerUp.conclude_quiet)
    (fun u cut _ => State.quiet_at_reset rfl rfl rfl rfl rfl) (fun c u _ _ => (effect c u).conclude_quiet), fun s =>
    ⟨s.issueOwn_eq, fun hup hoff => ⟨s.issueDay.store, s.issueDay_issued, ?_⟩, fun h => by rw [State.issueOwn_waits h]⟩⟩
  have hissued := s.issueDay.refresh_issued
  have hmachine : ∀ m, s.issueDay.machine m = s.machine m := fun m => by rw [State.machine, s.issueDay_engine, State.machine]
  rw [State.issueOwn_up hup hoff]
  simpa only [State.RefreshIssued, hmachine] using hissued

end Sys2Proof.Machine
end

section
/-! SUPPORT. A grant pass of the feeder budget unit, grant by grant, and what it keeps (R142, R146 to R148). -/
namespace Sys2Proof.Machine

/-! ## Sums over the rooms -/

/-- A sum over a table's indexes, as a sum over the finite type. -/
theorem sum_indexes {n : Nat} (f : Fin n → Nat) : ((indexes n).map f).sum = ∑ k, f k := (Fin.sum_univ_def f).symm

/-- One term of a sum raised. -/
theorem sum_indexes_add {n : Nat} {f g : Fin n → Nat} (r : Fin n) {d : Nat} (hr : g r = f r + d)
    (hother : ∀ k, k ≠ r → g k = f k) : ((indexes n).map g).sum = ((indexes n).map f).sum + d := by
  have hg : ∀ k, g k = f k + if k = r then d else 0 := by
    intro k
    by_cases hk : k = r
    · rw [hk, hr, if_pos rfl]
    · rw [hother k hk, if_neg hk, Nat.add_zero]
  rw [sum_indexes, sum_indexes]
  simp only [hg, Finset.sum_add_distrib, Finset.sum_ite_eq', Finset.mem_univ, if_true]

/-! ## Tables -/

@[simp] theorem look_set_self {α : Type} {n : Nat} (v : Vector α n) (i : Fin n) (x : α) : look (v.set i.1 x) i = x := by
  simp [look]

theorem look_set_other {α : Type} {n : Nat} (v : Vector α n) {i k : Fin n} (x : α) (h : k ≠ i) :
    look (v.set i.1 x) k = look v k := by
  have hne : i.1 ≠ k.1 := fun e => h (Fin.ext e.symm)
  simp [look, hne]

/-! ## A grant -/

namespace Feeder

variable (f : Feeder) (r : RoomNo) (q : Turn) (c : Claim)

@[simp] theorem loadOf_append (a b : List Claim) : loadOf (a ++ b) = loadOf a + loadOf b := by simp [loadOf]

@[simp] theorem afterGrant_grants_self : (look (f.afterGrant r q c).rooms r).grants = (look f.rooms r).grants ++ [c] := by
  simp [afterGrant]

theorem afterGrant_room_other {k : RoomNo} (h : k ≠ r) : look (f.afterGrant r q c).rooms k = look f.rooms k := by
  simp [afterGrant, look_set_other _ _ h]

@[simp] theorem afterGrant_capacity (k : RoomNo) :
    (look (f.afterGrant r q c).rooms k).capacity = (look f.rooms k).capacity := by
  by_cases hk : k = r
  · subst hk
    simp [afterGrant]
  · rw [f.afterGrant_room_other r q c hk]

@[simp] theorem afterGrant_effectiveLimit : (f.afterGrant r q c).effectiveLimit = f.effectiveLimit := rfl

@[simp] theorem afterGrant_order : (f.afterGrant r q c).order = f.order ++ [c.machine] := rfl

theorem afterGrant_granted_self : (f.afterGrant r q c).granted r = f.granted r + c.load := by
  simp [granted, loadOf]

theorem afterGrant_granted_other {k : RoomNo} (h : k ≠ r) : (f.afterGrant r q c).granted k = f.granted k := by
  simp [granted, f.afterGrant_room_other r q c h]

theorem afterGrant_total : (f.afterGrant r q c).total = f.total + c.load :=
  sum_indexes_add r (f.afterGrant_granted_self r q c) fun _ => f.afterGrant_granted_other r q c

variable {f r q c}

/-- The head granted leaves the queues. -/
theorem afterGrant_waiting (h : f.HeadFits r q c) : (f.afterGrant r q c).waiting + 1 = f.waiting := by
  obtain ⟨hhead, -⟩ := h
  refine (sum_indexes_add (g := fun k => (look f.rooms k).newQueue.length + (look f.rooms k).resumeQueue.length) r ?_ fun k hk => ?_).symm
  · cases q with
    | new =>
      cases hq : (look f.rooms r).newQueue with
      | nil => simp [RoomFeeder.queue, hq] at hhead
      | cons d rest => simp [afterGrant, hq]; omega
    | resume =>
      cases hq : (look f.rooms r).resumeQueue with
      | nil => simp [RoomFeeder.queue, hq] at hhead
      | cons d rest => simp [afterGrant, hq]; omega
  · rw [f.afterGrant_room_other r q c hk]

/-- A grant of what fits keeps the bounds (R146). -/
theorem afterGrant_bounded (h : f.HeadFits r q c) (hb : f.Bounded) : (f.afterGrant r q c).Bounded := by
  obtain ⟨-, hroom, hbuilding⟩ := h
  obtain ⟨hrooms, -⟩ := hb
  refine ⟨fun k => ?_, by rw [afterGrant_total]; exact hbuilding⟩
  by_cases hk : k = r
  · subst hk
    rw [afterGrant_granted_self, afterGrant_capacity]
    exact hroom
  · rw [f.afterGrant_granted_other r q c hk, afterGrant_capacity]
    exact hrooms k

theorem afterGrant_prefix (k : RoomNo) : (look f.rooms k).grants <+: (look (f.afterGrant r q c).rooms k).grants := by
  by_cases hk : k = r
  · subst hk
    rw [afterGrant_grants_self]
    exact List.prefix_append _ _
  · rw [f.afterGrant_room_other r q c hk]

/-- A visit grants the first choice's head, or the other queue's where the first choice's does not fit (R148). -/
theorem visitGrants_iff : f.VisitGrants r q c ↔
    f.HeadFits r q c ∧ (q = f.firstChoice r ∨ ∀ d, ¬ f.HeadFits r (f.firstChoice r) d) := Iff.rfl

/-- The queue visited is the first choice, whose head fits, or the other, where no head of the first choice does. -/
theorem VisitGrants.turn_cases (h : f.VisitGrants r q c) :
    (q = f.firstChoice r ∧ ∃ d, f.HeadFits r (f.firstChoice r) d) ∨
      (q = (f.firstChoice r).other ∧ ∀ d, ¬ f.HeadFits r (f.firstChoice r) d) := by
  obtain ⟨hfits, hq⟩ := visitGrants_iff.mp h
  rcases hq with rfl | hnone
  · exact .inl ⟨rfl, c, hfits⟩
  · refine .inr ⟨?_, hnone⟩
    have hne : q ≠ f.firstChoice r := by
      rintro rfl
      exact hnone c hfits
    revert hne
    generalize f.firstChoice r = first
    cases q <;> cases first <;> simp [Turn.other]

/-- A visit grants one head at most. -/
theorem VisitGrants.unique {p : Turn} {d : Claim} (h : f.VisitGrants r q c) (k : f.VisitGrants r p d) : p = q ∧ d = c := by
  have hturn : p = q := by
    rcases h.turn_cases with ⟨rfl, e, he⟩ | ⟨rfl, hnone⟩ <;> rcases k.turn_cases with ⟨rfl, e', he'⟩ | ⟨rfl, knone⟩
    · rfl
    · exact absurd he (knone e)
    · exact absurd he' (hnone e')
    · rfl
  subst hturn
  have hhead : ((look f.rooms r).queue p).head? = some c := h.1.1
  rw [k.1.1] at hhead
  exact ⟨rfl, Option.some.inj hhead⟩

/-- A visit grants what it may grant. -/
theorem visit_of_grants (h : f.VisitGrants r q c) : f.visit r = some (f.afterGrant r q c, c.machine) := by
  rcases f.visit_cases r with ⟨-, hnone⟩ | ⟨p, d, hgrants, hvisit⟩
  · exact absurd h.1 (hnone q c)
  · obtain ⟨rfl, rfl⟩ := h.unique hgrants
    exact hvisit

theorem visit_of_none (h : ∀ q c, ¬ f.HeadFits r q c) : f.visit r = none := by
  rcases f.visit_cases r with ⟨hvisit, -⟩ | ⟨p, d, hgrants, -⟩
  · exact hvisit
  · exact absurd hgrants.1 (h p d)

/-- A room with a head that fits has a visit that grants. -/
theorem exists_visitGrants {p : Turn} {d : Claim} (h : f.HeadFits r p d) : ∃ q c, f.VisitGrants r q c := by
  rcases f.visit_cases r with ⟨-, hnone⟩ | ⟨q, c, hgrants, -⟩
  · exact absurd h (hnone p d)
  · exact ⟨q, c, hgrants⟩

/-! ## Visits -/

/-- With no head that fits no visit grants. -/
theorem visits_of_drained (h : f.Drained) (fuel idle : Nat) (r : RoomNo) : visits fuel idle r f = (f, []) := by
  induction fuel generalizing idle r with
  | zero => rfl
  | succ fuel ih =>
    rw [visits]
    split
    · rfl
    · rw [visit_of_none (h r)]
      exact ih _ _

/-- Fuel for four visits to each entry and for those left of the last round is enough: more changes nothing. -/
theorem visits_fuel {fuel idle : Nat} (h : 4 * f.waiting + 4 ≤ fuel + idle) (more : Nat) :
    visits (fuel + more) idle r f = visits fuel idle r f := by
  induction fuel generalizing idle r f with
  | zero =>
    cases more with
    | zero => rfl
    | succ more => 
      have hidle : 4 ≤ idle := by omega
      simp [visits, hidle]
  | succ fuel ih =>
    rw [Nat.add_right_comm, visits, visits]
    split
    · rfl
    · rename_i hidle
      rcases f.visit_cases r with ⟨hvisit, -⟩ | ⟨q, c, ⟨hfits, -⟩, hvisit⟩
      · simp only [hvisit]
        exact ih (by omega)
      · have hwaiting := afterGrant_waiting hfits
        simp only [hvisit, ih (f := f.afterGrant r q c) (idle := 0) (r := next r) (by omega)]

/-- The visits from a room on, with fuel enough: a pass is the visits from the room after the pointer's. -/
def round (f : Feeder) (r : RoomNo) : Feeder × List MachineNo := visits (4 * (f.waiting + 1)) 0 r f

theorem visits_eq_round {fuel : Nat} (h : 4 * f.waiting + 4 ≤ fuel) : visits fuel 0 r f = f.round r := by
  obtain ⟨more, rfl⟩ : ∃ more, fuel = 4 * (f.waiting + 1) + more := ⟨fuel - 4 * (f.waiting + 1), by omega⟩
  exact visits_fuel (by omega) more

theorem pass_eq_round : f.pass = f.round (next f.pointer) := visits_eq_round (by omega)

theorem next_eq_room (r : RoomNo) : next r = r + 1 := by
  revert r
  decide

/-- Going round from a room, one further is one step less away. -/
theorem room_distance {r k : RoomNo} (h : r ≠ k) : (k - (r + 1)).1 + 1 = (k - r).1 := by
  revert r k
  decide

/-- The first room, going round, with a head that fits has its head granted, and the visits go on after it. -/
theorem visits_grant {fuel idle : Nat} {start : RoomNo} (hfuel : 4 * f.waiting + 4 ≤ fuel + idle)
    (hidle : idle + (r - start).1 < 4) (hbefore : ∀ k p d, (k - start).1 < (r - start).1 → ¬ f.HeadFits k p d)
    (h : f.VisitGrants r q c) :
    visits fuel idle start f =
      (((f.afterGrant r q c).round (next r)).1, c.machine :: ((f.afterGrant r q c).round (next r)).2) := by
  have hwaiting := afterGrant_waiting h.1
  induction fuel generalizing idle start with
  | zero => omega
  | succ fuel ih =>
    rw [visits, if_neg (by omega)]
    by_cases hstart : start = r
    · subst hstart
      simp only [visit_of_grants h]
      rw [visits_eq_round (by omega)]
    · have hdistance := room_distance hstart
      have hnone : f.visit start = none :=
        visit_of_none fun p d => hbefore start p d (by rw [sub_self]; show 0 < (r - start).1; omega)
      simp only [hnone, next_eq_room start]
      refine ih (idle := idle + 1) (start := start + 1) (by omega) (by omega) fun k p d hk => ?_
      by_cases hkstart : start = k
      · subst hkstart
        exact hbefore start p d (by rw [sub_self]; show 0 < (r - start).1; omega)
      · have hkdistance := room_distance hkstart
        exact hbefore k p d (by omega)

/-- The first grant of a pass, and the pass that goes on from there (R147, R148). -/
theorem pass_of_grant (hbefore : ∀ k p d, (k - (f.pointer + 1)).1 < (r - (f.pointer + 1)).1 → ¬ f.HeadFits k p d)
    (h : f.VisitGrants r q c) :
    f.pass = ((f.afterGrant r q c).pass.1, c.machine :: (f.afterGrant r q c).pass.2) := by
  have hpass : (f.afterGrant r q c).pass = (f.afterGrant r q c).round (next r) := pass_eq_round
  rw [hpass, pass, next_eq_room f.pointer]
  exact visits_grant (by omega) (by omega) hbefore h

theorem pass_of_drained (h : f.Drained) : f.pass = (f, []) := visits_of_drained h _ _ _

/-- Where some head fits, there is a first room, going round, whose visit grants. -/
theorem exists_first_grant (h : ¬ f.Drained) :
    ∃ r q c, f.VisitGrants r q c ∧
      ∀ k p d, (k - (f.pointer + 1)).1 < (r - (f.pointer + 1)).1 → ¬ f.HeadFits k p d := by
  have hexists : ∃ n k p d, (k - (f.pointer + 1)).1 = n ∧ f.HeadFits k p d := by
    by_contra hnone
    exact h fun k p d hfits => hnone ⟨_, k, p, d, rfl, hfits⟩
  classical
  obtain ⟨r, p, d, hr, hfits⟩ := Nat.find_spec hexists
  obtain ⟨q, c, hgrants⟩ := exists_visitGrants hfits
  exact ⟨r, q, c, hgrants, fun k p d hk hfits => Nat.find_min hexists (by rwa [← hr]) ⟨k, p, d, rfl, hfits⟩⟩

/-- A pass, grant by grant: what holds of a pass that grants nothing, and of one more grant before a pass, holds of every pass. -/
theorem pass_induction {P : Feeder → Feeder × List MachineNo → Prop} (drained : ∀ f, f.Drained → P f (f, []))
    (grant : ∀ f r q c, f.VisitGrants r q c → P (f.afterGrant r q c) (f.afterGrant r q c).pass →
      P f ((f.afterGrant r q c).pass.1, c.machine :: (f.afterGrant r q c).pass.2)) (f : Feeder) : P f f.pass := by
  induction hn : f.waiting generalizing f with
  | zero =>
    by_cases h : f.Drained
    · rw [pass_of_drained h]
      exact drained f h
    · obtain ⟨r, q, c, hgrants, -⟩ := exists_first_grant h
      have hwaiting := afterGrant_waiting hgrants.1
      omega
  | succ n ih =>
    by_cases h : f.Drained
    · rw [pass_of_drained h]
      exact drained f h
    · obtain ⟨r, q, c, hgrants, hbefore⟩ := exists_first_grant h
      have hwaiting := afterGrant_waiting hgrants.1
      rw [pass_of_grant hbefore hgrants]
      exact grant f r q c hgrants (ih _ (by omega))

/-! ## What a pass keeps -/

theorem pass_drained (f : Feeder) : f.pass.1.Drained :=
  pass_induction (P := fun _ p => p.1.Drained) (fun _ h => h) (fun _ _ _ _ _ ih => ih) f

theorem pass_bounded {f : Feeder} : f.Bounded → f.pass.1.Bounded :=
  pass_induction (P := fun f p => f.Bounded → p.1.Bounded) (fun _ _ hb => hb)
    (fun _ _ _ _ hgrants ih hb => ih (afterGrant_bounded hgrants.1 hb)) f

theorem pass_order (f : Feeder) : f.pass.1.order = f.order ++ f.pass.2 :=
  pass_induction (P := fun f p => p.1.order = f.order ++ p.2) (fun f _ => (List.append_nil f.order).symm)
    (fun f r q c _ ih => by simp [ih, afterGrant_order]) f

theorem pass_waiting (f : Feeder) : f.pass.1.waiting + f.pass.2.length = f.waiting :=
  pass_induction (P := fun f p => p.1.waiting + p.2.length = f.waiting) (fun _ _ => rfl)
    (fun f r q c hgrants ih => by
      have hwaiting := afterGrant_waiting hgrants.1
      simp only [List.length_cons]
      omega) f

theorem pass_prefix (f : Feeder) (k : RoomNo) : (look f.rooms k).grants <+: (look f.pass.1.rooms k).grants :=
  pass_induction (P := fun f p => (look f.rooms k).grants <+: (look p.1.rooms k).grants) (fun _ _ => List.prefix_rfl)
    (fun _ _ _ _ _ ih => (afterGrant_prefix k).trans ih) f

/-- What a grant pass leaves of the unit: everything but the lists, the turns, the order and the pointer. -/
theorem pass_keeps (f : Feeder) :
    f.pass.1 = { f with rooms := f.pass.1.rooms, order := f.pass.1.order, pointer := f.pass.1.pointer } ∧
      ∀ k, (look f.pass.1.rooms k).capacity = (look f.rooms k).capacity :=
  pass_induction (P := fun f p => p.1 = { f with rooms := p.1.rooms, order := p.1.order, pointer := p.1.pointer } ∧
      ∀ k, (look p.1.rooms k).capacity = (look f.rooms k).capacity) (fun _ _ => ⟨rfl, fun _ => rfl⟩)
    (fun f r q c _ ih => ⟨ih.1, fun k => (ih.2 k).trans (f.afterGrant_capacity r q c k)⟩) f

end Feeder

end Sys2Proof.Machine
end

section
/-! SUPPORT. The places of the machines in the feeder's lists, and shedding, withdrawal by withdrawal (R138, R143, R150). -/
namespace Sys2Proof.Machine.Feeder

variable {f : Feeder} {r k : RoomNo} {q : Turn} {c d : Claim}

/-! ## Places -/

/-- The machines in a room's lists. -/
def roomPlaces (x : RoomFeeder) : List MachineNo := (x.grants ++ x.newQueue ++ x.resumeQueue).map Claim.machine

/-- The machines in all the unit's lists. -/
def places (f : Feeder) : List MachineNo := (indexes 4).flatMap fun r => roomPlaces (look f.rooms r)

theorem consistent_iff : f.Consistent ↔
    (∀ r, ∀ c ∈ (look f.rooms r).grants, c.machine ∈ f.order) ∧ f.places.Nodup := Iff.rfl

/-- Rooms whose lists hold the same machines leave the places as they are. -/
theorem places_perm {g : Feeder} (h : ∀ r, (roomPlaces (look g.rooms r)).Perm (roomPlaces (look f.rooms r))) :
    g.places.Perm f.places :=
  List.Perm.flatMap_left _ fun r _ => h r

theorem places_sublist {g : Feeder} (h : ∀ r, (roomPlaces (look g.rooms r)).Sublist (roomPlaces (look f.rooms r))) :
    g.places.Sublist f.places := by
  unfold places
  induction indexes 4 with
  | nil => exact List.Sublist.refl _
  | cons r rest ih =>
    rw [List.flatMap_cons, List.flatMap_cons]
    exact (h r).append ih

theorem roomPlaces_nodup (h : f.Consistent) (r : RoomNo) : (roomPlaces (look f.rooms r)).Nodup :=
  (List.nodup_flatMap.mp h.2).1 r (List.mem_finRange r)

/-- A machine holds one grant at most. -/
theorem grant_unique (h : f.Consistent) (hc : c ∈ (look f.rooms r).grants) (hd : d ∈ (look f.rooms k).grants)
    (hm : d.machine = c.machine) : k = r ∧ d = c := by
  have hplace : ∀ {j e}, e ∈ (look f.rooms j).grants → e.machine ∈ roomPlaces (look f.rooms j) := fun he =>
    List.mem_map_of_mem (List.mem_append_left _ (List.mem_append_left _ he))
  have hroom : k = r := by
    by_contra hne
    have hsymm : Std.Symm fun i j => List.Disjoint (roomPlaces (look f.rooms i)) (roomPlaces (look f.rooms j)) :=
      ⟨fun _ _ h => h.symm⟩
    have hpairs : (indexes 4).Pairwise fun i j => List.Disjoint (roomPlaces (look f.rooms i)) (roomPlaces (look f.rooms j)) :=
      (List.nodup_flatMap.mp h.2).2
    have hdisjoint := hpairs.forall (List.mem_finRange k) (List.mem_finRange r) hne
    exact hdisjoint (hplace hd) (hm ▸ hplace hc)
  subst hroom
  have hnodup : ((look f.rooms k).grants.map Claim.machine).Nodup := by
    have hall := roomPlaces_nodup h k
    rw [roomPlaces, List.map_append, List.map_append, List.append_assoc] at hall
    exact hall.of_append_left
  exact ⟨rfl, List.inj_on_of_nodup_map hnodup hd hc hm⟩

/-- A grant leaves every machine its place (R147). -/
theorem afterGrant_places (hfits : f.HeadFits r q c) : (f.afterGrant r q c).places.Perm f.places := by
  obtain ⟨hhead, -⟩ := hfits
  refine places_perm fun k => ?_
  by_cases hk : k = r
  · subst hk
    cases q with
    | new =>
      cases hq : (look f.rooms k).newQueue with
      | nil => simp [RoomFeeder.queue, hq] at hhead
      | cons e rest =>
        obtain rfl : e = c := by simpa [RoomFeeder.queue, hq] using hhead
        simp [afterGrant, roomPlaces, hq]
    | resume =>
      cases hq : (look f.rooms k).resumeQueue with
      | nil => simp [RoomFeeder.queue, hq] at hhead
      | cons e rest =>
        obtain rfl : e = c := by simpa [RoomFeeder.queue, hq] using hhead
        simp [afterGrant, roomPlaces, hq]
        exact List.Perm.append_left _ List.perm_middle.symm
  · rw [f.afterGrant_room_other r q c hk]

/-- A grant keeps the building order consistent (R138, R147). -/
theorem afterGrant_consistent (hfits : f.HeadFits r q c) (h : f.Consistent) : (f.afterGrant r q c).Consistent := by
  obtain ⟨horder, hnodup⟩ := h
  refine ⟨fun k d hd => ?_, (afterGrant_places hfits).nodup_iff.mpr hnodup⟩
  rw [afterGrant_order, List.mem_append]
  by_cases hk : k = r
  · subst hk
    rw [afterGrant_grants_self, List.mem_append, List.mem_singleton] at hd
    rcases hd with hd | rfl
    · exact .inl (horder k d hd)
    · exact .inr (List.mem_singleton_self _)
  · rw [f.afterGrant_room_other r q c hk] at hd
    exact .inl (horder k d hd)

theorem pass_consistent (f : Feeder) : f.Consistent → f.pass.1.Consistent :=
  pass_induction (P := fun f p => f.Consistent → p.1.Consistent) (fun _ _ h => h)
    (fun _ _ _ _ hgrants ih h => ih (afterGrant_consistent hgrants.1 h)) f

/-! ## A withdrawal -/

section
variable (isDryer : MachineNo → Bool) (among : List RoomNo)

/-- The grants that shedding among some rooms may withdraw (R150). -/
def Eligible (f : Feeder) (among : List RoomNo) (k : RoomNo) (d : Claim) : Prop :=
  k ∈ among ∧ d ∈ (look f.rooms k).grants ∧ 0 < d.load

/-- Which machine's grant stands in a room. -/
theorem grantOf_eq_some (h : f.Consistent) (m : MachineNo) :
    f.grantOf among m = some (k, d) ↔ k ∈ among ∧ d ∈ (look f.rooms k).grants ∧ d.machine = m := by
  constructor
  · intro hsome
    obtain ⟨j, hj, hfind⟩ := List.exists_of_findSome?_eq_some hsome
    obtain ⟨e, he, heq⟩ := Option.map_eq_some_iff.mp hfind
    cases heq
    exact ⟨hj, List.mem_of_find?_eq_some he, by simpa using List.find?_some he⟩
  · rintro ⟨hk, hd, rfl⟩
    have hfind : ((look f.rooms k).grants.find? (·.machine == d.machine)).isSome = true :=
      List.find?_isSome.mpr ⟨d, hd, beq_self_eq_true _⟩
    cases hgrant : f.grantOf among d.machine with
    | none =>
      have hnone := List.findSome?_eq_none_iff.mp hgrant k hk
      rw [Option.map_eq_none_iff] at hnone
      rw [hnone] at hfind
      cases hfind
    | some x =>
      obtain ⟨j, hj, hmap⟩ := List.exists_of_findSome?_eq_some hgrant
      obtain ⟨e, he, rfl⟩ := Option.map_eq_some_iff.mp hmap
      obtain ⟨rfl, rfl⟩ := grant_unique h hd (List.mem_of_find?_eq_some he) (by simpa using List.find?_some he)
      rfl

/-- The grants eligible, latest in the building order first (R150). -/
def eligibleGrants (f : Feeder) (among : List RoomNo) : List (RoomNo × Claim) :=
  (f.order.reverse.filterMap (f.grantOf among)).filter fun x => decide (0 < x.2.load)

theorem victim_eq : f.victim isDryer among =
    ((f.eligibleGrants among).find? fun x => isDryer x.2.machine).or (f.eligibleGrants among).head? := by
  simp [victim, eligibleGrants]

/-- The eligible grants with their machine in a part of the building order. -/
theorem mem_eligible (h : f.Consistent) {l : List MachineNo} {x : RoomNo × Claim}
    (hx : x ∈ (l.filterMap (f.grantOf among)).filter fun x => decide (0 < x.2.load)) :
    f.Eligible among x.1 x.2 ∧ x.2.machine ∈ l := by
  obtain ⟨hmem, hload⟩ := List.mem_filter.mp hx
  obtain ⟨m, hm, hgrant⟩ := List.mem_filterMap.mp hmem
  obtain ⟨hroom, hin, rfl⟩ := (grantOf_eq_some among h m).mp hgrant
  exact ⟨⟨hroom, hin, of_decide_eq_true hload⟩, hm⟩

/-- The grant that R150 withdraws next is the model's. -/
theorem victim_of_withdraws (h : f.Consistent) (hw : f.Withdraws isDryer among r c) : f.victim isDryer among = some (r, c) := by
  obtain ⟨⟨hroom, hgrant, hload⟩, before, after, horder, hlatest⟩ := hw
  let kept (l : List MachineNo) := (l.filterMap (f.grantOf among)).filter fun x => decide (0 < x.2.load)
  have hsplit : f.eligibleGrants among = kept after.reverse ++ (r, c) :: kept before.reverse := by
    have hfound := (grantOf_eq_some among h c.machine).mpr ⟨hroom, hgrant, rfl⟩
    simp [eligibleGrants, kept, horder, hfound, hload]
  have hafter : ∀ x ∈ kept after.reverse, f.Eligible among x.1 x.2 ∧ x.2.machine ∈ after := fun x hx => by
    obtain ⟨helig, hin⟩ := mem_eligible among h hx
    exact ⟨helig, List.mem_reverse.mp hin⟩
  rw [victim_eq, hsplit]
  rcases hlatest with ⟨hdryer, hdryers⟩ | ⟨hwasher, hnone⟩
  · have hskip : (kept after.reverse).find? (fun x => isDryer x.2.machine) = none :=
      List.find?_eq_none.mpr fun x hx hxdryer => hdryers x.1 x.2 (hafter x hx).1 hxdryer (hafter x hx).2
    simp [List.find?_append, hskip, hdryer]
  · have hempty : kept after.reverse = [] :=
      List.eq_nil_iff_forall_not_mem.mpr fun x hx => (hnone x.1 x.2 (hafter x hx).1).2 (hafter x hx).2
    have hnodryer : (kept before.reverse).find? (fun x => isDryer x.2.machine) = none :=
      List.find?_eq_none.mpr fun x hx => by
        have helig : f.Eligible among x.1 x.2 := (mem_eligible among h hx).1
        simp [(hnone x.1 x.2 helig).1]
    simp [hempty, hwasher, hnodryer]

/-- The latest entry of a list that a predicate accepts. -/
theorem exists_latest {α : Type} {l : List α} {p : α → Prop} (h : ∃ x ∈ l, p x) :
    ∃ before x after, l = before ++ x :: after ∧ p x ∧ ∀ y ∈ after, ¬ p y := by
  classical
  obtain ⟨x, hx, hpx⟩ := h
  have hfound : (l.reverse.find? fun y => decide (p y)).isSome = true :=
    List.find?_isSome.mpr ⟨x, List.mem_reverse.mpr hx, decide_eq_true hpx⟩
  obtain ⟨y, hy⟩ := Option.isSome_iff_exists.mp hfound
  obtain ⟨hpy, after, before, hsplit, hafter⟩ := List.find?_eq_some_iff_append.mp hy
  refine ⟨before.reverse, y, after.reverse, ?_, of_decide_eq_true hpy, fun z hz => ?_⟩
  · simpa using congrArg List.reverse hsplit
  · simpa using hafter z (List.mem_reverse.mp hz)

/-- Where some grant is eligible, R150 names one to withdraw. -/
theorem exists_withdraws (h : f.Consistent) (he : ∃ k d, f.Eligible among k d) : ∃ r c, f.Withdraws isDryer among r c := by
  have latest (p : RoomNo → Claim → Prop) (hp : ∃ k d, f.Eligible among k d ∧ p k d) : ∃ r c before after,
      f.Eligible among r c ∧ p r c ∧ f.order = before ++ c.machine :: after ∧
        ∀ k d, f.Eligible among k d → p k d → d.machine ∉ after := by
    obtain ⟨k, d, helig, hpd⟩ := hp
    obtain ⟨before, m, after, hsplit, ⟨r, c, hc, hpc, rfl⟩, hafter⟩ :=
      exists_latest (l := f.order) (p := fun m => ∃ k d, f.Eligible among k d ∧ p k d ∧ d.machine = m)
        ⟨d.machine, h.1 k d helig.2.1, k, d, helig, hpd, rfl⟩
    exact ⟨r, c, before, after, hc, hpc, hsplit, fun k d helig hpd hin => hafter _ hin ⟨k, d, helig, hpd, rfl⟩⟩
  by_cases hdryer : ∃ k d, f.Eligible among k d ∧ isDryer d.machine = true
  · obtain ⟨r, c, before, after, helig, hc, hsplit, hafter⟩ := latest _ hdryer
    exact ⟨r, c, helig, before, after, hsplit, .inl ⟨hc, hafter⟩⟩
  · obtain ⟨k, d, helig⟩ := he
    obtain ⟨r, c, before, after, helig, -, hsplit, hafter⟩ := latest (fun _ _ => True) ⟨k, d, helig, trivial⟩
    have hwasher : ∀ k d, f.Eligible among k d → isDryer d.machine = false := fun k d hd => by
      simpa using fun e => hdryer ⟨k, d, hd, e⟩
    exact ⟨r, c, helig, before, after, hsplit, .inr ⟨hwasher r c helig, fun k d hd => ⟨hwasher k d hd, hafter k d hd trivial⟩⟩⟩

end

end Sys2Proof.Machine.Feeder
end

section
/-! SUPPORT. What a withdrawal makes of the unit, and shedding from room to room and over the building (R150). -/
namespace Sys2Proof.Machine.Feeder

variable {f : Feeder} {r k : RoomNo} {c d : Claim}

/-! ## The unit after a withdrawal -/

theorem afterWithdrawal_room_self : look (f.afterWithdrawal r c).rooms r = { look f.rooms r with
    grants := (look f.rooms r).grants.filter fun d => d.machine != c.machine
    resumeQueue := (look f.rooms r).resumeQueue ++ [c] } := look_set_self _ _ _

theorem afterWithdrawal_room_other (h : k ≠ r) : look (f.afterWithdrawal r c).rooms k = look f.rooms k :=
  look_set_other _ _ h

@[simp] theorem afterWithdrawal_capacity : (look (f.afterWithdrawal r c).rooms k).capacity = (look f.rooms k).capacity := by
  by_cases hk : k = r
  · subst hk
    rw [afterWithdrawal_room_self]
  · rw [afterWithdrawal_room_other hk]

@[simp] theorem afterWithdrawal_effectiveLimit : (f.afterWithdrawal r c).effectiveLimit = f.effectiveLimit := rfl

theorem afterWithdrawal_grants (h : f.Consistent) (hc : c ∈ (look f.rooms r).grants) (k : RoomNo) :
    (look (f.afterWithdrawal r c).rooms k).grants = (look f.rooms k).grants.filter fun d => d.machine != c.machine := by
  by_cases hk : k = r
  · subst hk
    rw [afterWithdrawal_room_self]
  · rw [afterWithdrawal_room_other hk, List.filter_eq_self.mpr]
    intro d hd
    have hne : d.machine ≠ c.machine := fun e => hk (grant_unique h hc hd e).1
    simpa using hne

/-- A room's grants without one of them. -/
theorem grants_perm (h : f.Consistent) (hc : c ∈ (look f.rooms r).grants) :
    ((look f.rooms r).grants.filter fun d => d.machine != c.machine) = (look f.rooms r).grants.erase c := by
  have hnodup : (look f.rooms r).grants.Nodup := by
    have hall := roomPlaces_nodup h r
    rw [roomPlaces, List.map_append, List.map_append, List.append_assoc] at hall
    exact List.Nodup.of_map _ hall.of_append_left
  rw [hnodup.erase_eq_filter]
  refine List.filter_congr fun d hd => ?_
  by_cases hdc : d = c
  · simp [hdc]
  · have hne : d.machine ≠ c.machine := fun e => hdc (grant_unique h hc hd e).2
    rw [bne_iff_ne.mpr hne, bne_iff_ne.mpr hdc]

theorem afterWithdrawal_granted_self (h : f.Consistent) (hc : c ∈ (look f.rooms r).grants) :
    f.granted r = (f.afterWithdrawal r c).granted r + c.load := by
  have hperm := (List.perm_cons_erase hc).map Claim.load
  simp only [granted, loadOf, afterWithdrawal_room_self]
  rw [grants_perm h hc, hperm.sum_eq, List.map_cons, List.sum_cons, Nat.add_comm]

theorem afterWithdrawal_granted_other (h : k ≠ r) : (f.afterWithdrawal r c).granted k = f.granted k := by
  simp only [granted, afterWithdrawal_room_other h]

theorem afterWithdrawal_granted_le (h : f.Consistent) (hc : c ∈ (look f.rooms r).grants) (k : RoomNo) :
    (f.afterWithdrawal r c).granted k ≤ f.granted k := by
  by_cases hk : k = r
  · subst hk
    rw [afterWithdrawal_granted_self h hc]
    exact Nat.le_add_right _ _
  · rw [afterWithdrawal_granted_other hk]

theorem afterWithdrawal_total (h : f.Consistent) (hc : c ∈ (look f.rooms r).grants) :
    f.total = (f.afterWithdrawal r c).total + c.load :=
  sum_indexes_add r (afterWithdrawal_granted_self h hc) fun _ hk => (afterWithdrawal_granted_other hk).symm

theorem afterWithdrawal_waiting : (f.afterWithdrawal r c).waiting = f.waiting + 1 := by
  refine sum_indexes_add r ?_ fun k hk => ?_
  · simp only [afterWithdrawal_room_self, List.length_append, List.length_singleton]
    omega
  · simp only [afterWithdrawal_room_other hk]

theorem afterWithdrawal_consistent (h : f.Consistent) (hc : c ∈ (look f.rooms r).grants) :
    (f.afterWithdrawal r c).Consistent := by
  obtain ⟨horder, hnodup⟩ := consistent_iff.mp h
  refine consistent_iff.mpr ⟨fun k d hd => ?_, (places_perm fun k => ?_).nodup_iff.mpr hnodup⟩
  · rw [afterWithdrawal_grants h hc, List.mem_filter] at hd
    exact List.mem_filter.mpr ⟨horder k d hd.1, hd.2⟩
  · by_cases hk : k = r
    · subst hk
      rw [afterWithdrawal_room_self]
      simp only [roomPlaces, List.map_append, grants_perm h hc, List.map_cons, List.map_nil]
      have hgrants : ((look f.rooms k).grants.map Claim.machine).Perm
          (c.machine :: ((look f.rooms k).grants.erase c).map Claim.machine) := (List.perm_cons_erase hc).map _
      refine List.Perm.trans ?_ ((hgrants.append_right _).append_right _).symm
      rw [← List.append_assoc]
      exact List.perm_append_singleton _ _
    · rw [afterWithdrawal_room_other hk]

theorem afterWithdrawal_order_length (h : f.Consistent) (hc : c ∈ (look f.rooms r).grants) :
    (f.afterWithdrawal r c).order.length < f.order.length := by
  refine List.length_filter_lt_length_iff_exists.mpr ⟨c.machine, h.1 r c hc, ?_⟩
  simp

/-! ## Shedding while a bound is exceeded -/

section
variable {isDryer : MachineNo → Bool} {among : List RoomNo} {excess : Feeder → Bool}

theorem shedWhile_of_kept (h : excess f = false) (fuel : Nat) : shedWhile isDryer among excess fuel f = (f, []) := by
  cases fuel <;> simp [shedWhile, h]

theorem shedWhile_of_withdraws {fuel : Nat} (hc : f.Consistent) (h : excess f = true) (hw : f.Withdraws isDryer among r c) :
    shedWhile isDryer among excess (fuel + 1) f =
      ((shedWhile isDryer among excess fuel (f.afterWithdrawal r c)).1,
        c.machine :: (shedWhile isDryer among excess fuel (f.afterWithdrawal r c)).2) := by
  rw [shedWhile, if_pos h, victim_of_withdraws isDryer among hc hw]
  rfl

/-- As many withdrawals as the building order is long are enough. -/
theorem shedWhile_fuel (hexcess : ∀ g : Feeder, g.Consistent → excess g = true → ∃ k d, g.Eligible among k d)
    {fuel fuel' : Nat} (hc : f.Consistent) (hfuel : f.order.length ≤ fuel) (hfuel' : f.order.length ≤ fuel') :
    shedWhile isDryer among excess fuel f = shedWhile isDryer among excess fuel' f := by
  induction fuel generalizing f fuel' with
  | zero =>
    have hkept : excess f = false := by
      rw [← Bool.not_eq_true]
      intro he
      obtain ⟨k, d, -, hgrant, -⟩ := hexcess f hc he
      have hlength := List.length_pos_of_mem (hc.1 k d hgrant)
      omega
    rw [shedWhile_of_kept hkept, shedWhile_of_kept hkept]
  | succ fuel ih =>
    cases he : excess f with
    | false => rw [shedWhile_of_kept he, shedWhile_of_kept he]
    | true =>
      obtain ⟨r, c, hw⟩ := exists_withdraws isDryer among hc (hexcess f hc he)
      have hgrant : c ∈ (look f.rooms r).grants := hw.1.2.1
      have hshort := afterWithdrawal_order_length hc hgrant
      obtain ⟨n, rfl⟩ : ∃ n, fuel' = n + 1 := ⟨fuel' - 1, by omega⟩
      rw [shedWhile_of_withdraws hc he hw, shedWhile_of_withdraws hc he hw,
        ih (afterWithdrawal_consistent hc hgrant) (by omega) (show _ ≤ n by omega)]

end

/-! ## The rooms and the building -/

section
variable (isDryer : MachineNo → Bool)

/-- A load above 0 is some grant's. -/
theorem exists_of_loadOf_pos {l : List Claim} (h : 0 < loadOf l) : ∃ d ∈ l, 0 < d.load := by
  by_contra hnone
  have hzero : loadOf l = 0 := by
    refine List.sum_eq_zero fun n hn => ?_
    obtain ⟨d, hd, rfl⟩ := List.mem_map.mp hn
    by_contra hne
    exact hnone ⟨d, hd, Nat.pos_of_ne_zero hne⟩
  omega

theorem eligible_of_above (h : (look f.rooms r).capacity < f.granted r) : ∃ k d, f.Eligible [r] k d := by
  obtain ⟨d, hd, hload⟩ := exists_of_loadOf_pos (show 0 < loadOf (look f.rooms r).grants from by
    unfold granted at h
    omega)
  exact ⟨r, d, List.mem_singleton_self r, hd, hload⟩

theorem eligible_of_total (h : f.effectiveLimit < f.total) : ∃ k d, f.Eligible (indexes 4) k d := by
  by_contra hnone
  have hzero : f.total = 0 := by
    refine List.sum_eq_zero fun n hn => ?_
    obtain ⟨k, -, rfl⟩ := List.mem_map.mp hn
    by_contra hne
    obtain ⟨d, hd, hload⟩ := exists_of_loadOf_pos (Nat.pos_of_ne_zero hne)
    exact hnone ⟨k, d, List.mem_finRange k, hd, hload⟩
  omega

/-- Whether a room is above its capacity (R150 step 1). -/
def above (r : RoomNo) (g : Feeder) : Bool := decide ((look g.rooms r).capacity < g.granted r)

/-- Whether the building is above the effective limit (R150 step 2). -/
def overLimit (g : Feeder) : Bool := decide (g.effectiveLimit < g.total)

theorem eligible_of_above_eq (g : Feeder) (_ : g.Consistent) (h : above r g = true) : ∃ k d, g.Eligible [r] k d :=
  eligible_of_above (of_decide_eq_true h)

theorem eligible_of_overLimit (g : Feeder) (_ : g.Consistent) (h : overLimit g = true) : ∃ k d, g.Eligible (indexes 4) k d :=
  eligible_of_total (of_decide_eq_true h)

/-- Shedding of the building (R150 step 2). -/
def shedBuilding (f : Feeder) : Feeder × List MachineNo := shedWhile isDryer (indexes 4) overLimit f.order.length f

/-- Shedding of the rooms listed, in their order, and then of the building. -/
def shedFrom : List RoomNo → Feeder → Feeder × List MachineNo
  | [], f => shedBuilding isDryer f
  | r :: rest, f =>
    let x := shedRoom isDryer f r
    let y := shedFrom rest x.1
    (y.1, x.2 ++ y.2)

theorem shed_eq_shedFrom (f : Feeder) : shed isDryer f = shedFrom isDryer (indexes 4) f := by
  obtain ⟨hunit, hlist⟩ := shed_parts isDryer f
  have hover : (fun g : Feeder => decide (g.effectiveLimit < g.total)) = overLimit := rfl
  rw [hover] at hunit hlist
  rw [show indexes 4 = [0, 1, 2, 3] from rfl, show shed isDryer f = ((shed isDryer f).1, (shed isDryer f).2) from rfl, hunit, hlist]
  simp only [shedFrom, shedBuilding, List.append_assoc]

theorem shedRoom_of_kept (h : ¬ (look f.rooms r).capacity < f.granted r) : shedRoom isDryer f r = (f, []) :=
  shedWhile_of_kept (decide_eq_false h) _

theorem shedRoom_of_withdraws (hc : f.Consistent) (h : (look f.rooms r).capacity < f.granted r)
    (hw : f.Withdraws isDryer [r] r c) :
    shedRoom isDryer f r =
      ((shedRoom isDryer (f.afterWithdrawal r c) r).1, c.machine :: (shedRoom isDryer (f.afterWithdrawal r c) r).2) := by
  have hgrant : c ∈ (look f.rooms r).grants := hw.1.2.1
  have hshort := afterWithdrawal_order_length hc hgrant
  obtain ⟨n, hn⟩ : ∃ n, f.order.length = n + 1 := ⟨f.order.length - 1, by omega⟩
  have hexceeds : above r f = true := decide_eq_true h
  have hfirst : shedRoom isDryer f r = shedWhile isDryer [r] (above r) (n + 1) f := by
    rw [← hn]
    rfl
  rw [hfirst, shedWhile_of_withdraws hc hexceeds hw,
    shedWhile_fuel eligible_of_above_eq (afterWithdrawal_consistent hc hgrant) (show _ ≤ n by omega) le_rfl]
  rfl

theorem shedBuilding_of_kept (h : f.total ≤ f.effectiveLimit) : shedBuilding isDryer f = (f, []) :=
  shedWhile_of_kept (decide_eq_false (Nat.not_lt.mpr h)) _

theorem shedBuilding_of_withdraws (hc : f.Consistent) (h : f.effectiveLimit < f.total)
    (hw : f.Withdraws isDryer (indexes 4) r c) :
    shedBuilding isDryer f =
      ((shedBuilding isDryer (f.afterWithdrawal r c)).1, c.machine :: (shedBuilding isDryer (f.afterWithdrawal r c)).2) := by
  have hgrant : c ∈ (look f.rooms r).grants := hw.1.2.1
  have hshort := afterWithdrawal_order_length hc hgrant
  obtain ⟨n, hn⟩ : ∃ n, f.order.length = n + 1 := ⟨f.order.length - 1, by omega⟩
  have hexceeds : overLimit f = true := decide_eq_true h
  rw [shedBuilding, hn, shedWhile_of_withdraws hc hexceeds hw,
    shedWhile_fuel eligible_of_overLimit (afterWithdrawal_consistent hc hgrant) (show _ ≤ n by omega) le_rfl]
  rfl

/-- A room that is not above its capacity is not after a withdrawal. -/
theorem afterWithdrawal_kept (hc : f.Consistent) (hgrant : c ∈ (look f.rooms r).grants)
    (h : ¬ (look f.rooms k).capacity < f.granted k) :
    ¬ (look (f.afterWithdrawal r c).rooms k).capacity < (f.afterWithdrawal r c).granted k := by
  have hle := afterWithdrawal_granted_le hc hgrant k
  rw [afterWithdrawal_capacity]
  omega

/-- The first withdrawal, where the rooms listed before one above its capacity are not above theirs. -/
theorem shedFrom_of_room (hc : f.Consistent) {l : List RoomNo} (hr : r ∈ l) (hsorted : l.Pairwise (· < ·))
    (h : (look f.rooms r).capacity < f.granted r)
    (hbefore : ∀ k, k < r → ¬ (look f.rooms k).capacity < f.granted k) (hw : f.Withdraws isDryer [r] r c) :
    shedFrom isDryer l f = ((shedFrom isDryer l (f.afterWithdrawal r c)).1,
      c.machine :: (shedFrom isDryer l (f.afterWithdrawal r c)).2) := by
  induction l with
  | nil => cases hr
  | cons j rest ih =>
    obtain ⟨hfirst, hrest⟩ := List.pairwise_cons.mp hsorted
    by_cases hj : j = r
    · subst hj
      simp only [shedFrom]
      rw [shedRoom_of_withdraws isDryer hc h hw]
      rfl
    · have hin : r ∈ rest := (List.mem_cons.mp hr).resolve_left fun e => hj e.symm
      have hkept := hbefore j (hfirst r hin)
      simp only [shedFrom]
      rw [shedRoom_of_kept isDryer hkept, shedRoom_of_kept isDryer (afterWithdrawal_kept hc hw.1.2.1 hkept)]
      simpa using ih hin hrest

/-- The first withdrawal, where no room is above its capacity. -/
theorem shedFrom_of_building (hc : f.Consistent) (l : List RoomNo)
    (hrooms : ∀ k, ¬ (look f.rooms k).capacity < f.granted k) (h : f.effectiveLimit < f.total)
    (hw : f.Withdraws isDryer (indexes 4) r c) :
    shedFrom isDryer l f = ((shedFrom isDryer l (f.afterWithdrawal r c)).1,
      c.machine :: (shedFrom isDryer l (f.afterWithdrawal r c)).2) := by
  induction l with
  | nil => exact shedBuilding_of_withdraws isDryer hc h hw
  | cons j rest ih =>
    simp only [shedFrom]
    rw [shedRoom_of_kept isDryer (hrooms j), shedRoom_of_kept isDryer (afterWithdrawal_kept hc hw.1.2.1 (hrooms j))]
    simpa using ih

theorem shedFrom_of_kept (l : List RoomNo) (hrooms : ∀ k, ¬ (look f.rooms k).capacity < f.granted k)
    (h : f.total ≤ f.effectiveLimit) : shedFrom isDryer l f = (f, []) := by
  induction l with
  | nil => exact shedBuilding_of_kept isDryer h
  | cons j rest ih =>
    simp only [shedFrom]
    rw [shedRoom_of_kept isDryer (hrooms j), ih]
    rfl

theorem shed_of_kept (hrooms : ∀ k, ¬ (look f.rooms k).capacity < f.granted k) (h : f.total ≤ f.effectiveLimit) :
    shed isDryer f = (f, []) := by
  rw [shed_eq_shedFrom]
  exact shedFrom_of_kept isDryer _ hrooms h

/-- Shedding, withdrawal by withdrawal: what holds where the bounds are kept, and of one more withdrawal before shedding, holds of all
shedding. -/
theorem shed_induction {P : Feeder → Feeder × List MachineNo → Prop} (kept : ∀ f, f.Consistent → f.Bounded → P f (f, []))
    (withdrawn : ∀ f r c x, f.Consistent → c ∈ (look f.rooms r).grants → 0 < c.load →
      shed isDryer (f.afterWithdrawal r c) = x → P (f.afterWithdrawal r c) x → P f (x.1, c.machine :: x.2))
    (hc : f.Consistent) : P f (shed isDryer f) := by
  induction hn : f.order.length using Nat.strong_induction_on generalizing f with
  | _ n ih =>
    have next {among : List RoomNo} {r : RoomNo} {c : Claim} (hw : f.Withdraws isDryer among r c)
        (heq : shed isDryer f = ((shed isDryer (f.afterWithdrawal r c)).1,
          c.machine :: (shed isDryer (f.afterWithdrawal r c)).2)) : P f (shed isDryer f) := by
      obtain ⟨⟨-, hgrant, hload⟩, -⟩ := hw
      rw [heq]
      exact withdrawn f r c _ hc hgrant hload rfl
        (ih _ (hn ▸ afterWithdrawal_order_length hc hgrant) (afterWithdrawal_consistent hc hgrant) rfl)
    by_cases hrooms : ∀ k, ¬ (look f.rooms k).capacity < f.granted k
    · by_cases h : f.total ≤ f.effectiveLimit
      · rw [shed_of_kept isDryer hrooms h]
        exact kept f hc ⟨fun k => Nat.not_lt.mp (hrooms k), h⟩
      · obtain ⟨r, c, hw⟩ := exists_withdraws isDryer (indexes 4) hc (eligible_of_total (Nat.lt_of_not_le h))
        have hfirst := shedFrom_of_building isDryer hc (indexes 4) hrooms (Nat.lt_of_not_le h) hw
        rw [← shed_eq_shedFrom, ← shed_eq_shedFrom] at hfirst
        exact next hw hfirst
    · obtain ⟨k, hk⟩ : ∃ k, (look f.rooms k).capacity < f.granted k := by simpa using hrooms
      obtain ⟨r, hr, hmin⟩ := WellFounded.has_min wellFounded_lt {k | (look f.rooms k).capacity < f.granted k} ⟨k, hk⟩
      obtain ⟨j, c, hw⟩ := exists_withdraws isDryer [r] hc (eligible_of_above hr)
      obtain rfl : j = r := List.mem_singleton.mp hw.1.1
      have hfirst := shedFrom_of_room isDryer hc (List.mem_finRange j) (List.pairwise_lt_finRange 4) hr
        (fun k hk habove => hmin k habove hk) hw
      rw [← indexes, ← shed_eq_shedFrom, ← shed_eq_shedFrom] at hfirst
      exact next hw hfirst

/-! ## What shedding leaves -/

/-- A room's lists once the machines listed have been withdrawn, in that order (R150). -/
def roomWithout (x : RoomFeeder) (ms : List MachineNo) : RoomFeeder :=
  { x with
    grants := x.grants.filter fun c => !ms.contains c.machine
    resumeQueue := x.resumeQueue ++ ms.filterMap fun m => x.grants.find? fun c => c.machine == m }

theorem roomWithout_nil (x : RoomFeeder) : roomWithout x [] = x := by simp [roomWithout]

/-- Withdrawing first one machine and then others of the rest. -/
theorem roomWithout_cons (h : f.Consistent) (hc : c ∈ (look f.rooms r).grants) {ms : List MachineNo} (hms : c.machine ∉ ms)
    (k : RoomNo) : roomWithout (look (f.afterWithdrawal r c).rooms k) ms = roomWithout (look f.rooms k) (c.machine :: ms) := by
  have hgrants := afterWithdrawal_grants h hc k
  have hfind : ∀ m ∈ ms, (look (f.afterWithdrawal r c).rooms k).grants.find? (fun d => d.machine == m) =
      (look f.rooms k).grants.find? fun d => d.machine == m := by
    intro m hm
    rw [hgrants, List.find?_filter]
    refine List.find?_congr fun d _ => ?_
    by_cases hd : d.machine = m
    · have hne : d.machine ≠ c.machine := fun e => hms (by rwa [← e, hd])
      simp [hd, hd ▸ hne]
    · simp [hd]
  have hlist : ms.filterMap (fun m => (look (f.afterWithdrawal r c).rooms k).grants.find? fun d => d.machine == m) =
      ms.filterMap fun m => (look f.rooms k).grants.find? fun d => d.machine == m := List.filterMap_congr hfind
  have hkept : ((look (f.afterWithdrawal r c).rooms k).grants.filter fun d => !ms.contains d.machine) =
      (look f.rooms k).grants.filter fun d => !(c.machine :: ms).contains d.machine := by
    rw [hgrants, List.filter_filter]
    refine List.filter_congr fun d _ => ?_
    by_cases hd : d.machine = c.machine <;> simp [hd]
  unfold roomWithout
  rw [hkept, hlist]
  by_cases hk : k = r
  · subst hk
    have hself : (look f.rooms k).grants.find? (fun d => d.machine == c.machine) = some c := by
      cases hsome : (look f.rooms k).grants.find? (fun d => d.machine == c.machine) with
      | none => simpa using List.find?_eq_none.mp hsome c hc
      | some d =>
        have hd : d.machine = c.machine := by simpa using List.find?_some hsome
        rw [(grant_unique h hc (List.mem_of_find?_eq_some hsome) hd).2]
    rw [afterWithdrawal_room_self]
    simp [hself]
  · have hnone : (look f.rooms k).grants.find? (fun d => d.machine == c.machine) = none :=
      List.find?_eq_none.mpr fun d hd e => hk (grant_unique h hc hd (by simpa using e)).1
    rw [afterWithdrawal_room_other hk]
    simp [hnone]

/-- Only machines that hold a grant are withdrawn. -/
theorem shed_mem (hc : f.Consistent) : ∀ m ∈ (shed isDryer f).2, ∃ k, ∃ d ∈ (look f.rooms k).grants, d.machine = m := by
  refine shed_induction isDryer (f := f) (P := fun f x => ∀ m ∈ x.2, ∃ k, ∃ d ∈ (look f.rooms k).grants, d.machine = m)
    (fun _ _ _ => nofun) (fun f r c x hc hgrant _ _ ih m hm => ?_) hc
  rcases List.mem_cons.mp hm with rfl | hm
  · exact ⟨r, c, hgrant, rfl⟩
  · obtain ⟨k, d, hd, hmachine⟩ := ih m hm
    rw [afterWithdrawal_grants hc hgrant k] at hd
    exact ⟨k, d, (List.mem_filter.mp hd).1, hmachine⟩

/-- A machine withdrawn is not withdrawn again. -/
theorem shed_notMem_withdrawn (hc : f.Consistent) (hgrant : c ∈ (look f.rooms r).grants) :
    c.machine ∉ (shed isDryer (f.afterWithdrawal r c)).2 := by
  intro hm
  obtain ⟨k, d, hd, hmachine⟩ := shed_mem isDryer (afterWithdrawal_consistent hc hgrant) _ hm
  rw [afterWithdrawal_grants hc hgrant k, List.mem_filter] at hd
  simp [hmachine] at hd

theorem shed_bounded (hc : f.Consistent) : (shed isDryer f).1.Bounded := by
  refine shed_induction isDryer (f := f) (P := fun _ x => x.1.Bounded) (fun _ _ hb => hb) (fun f r c x _ _ _ _ ih => ?_) hc
  exact ih

theorem shed_consistent (hc : f.Consistent) : (shed isDryer f).1.Consistent := by
  refine shed_induction isDryer (f := f) (P := fun _ x => x.1.Consistent) (fun _ h _ => h) (fun f r c x _ _ _ _ ih => ?_) hc
  exact ih

theorem shed_waiting (hc : f.Consistent) : (shed isDryer f).1.waiting = f.waiting + (shed isDryer f).2.length := by
  refine shed_induction isDryer (f := f) (P := fun f x => x.1.waiting = f.waiting + x.2.length) (fun _ _ _ => rfl)
    (fun f r c x _ _ _ _ ih => ?_) hc
  rw [ih, afterWithdrawal_waiting, List.length_cons]
  omega

theorem shed_frame (hc : f.Consistent) : (shed isDryer f).1 = { f with
    rooms := (shed isDryer f).1.rooms, order := f.order.filter fun m => !(shed isDryer f).2.contains m } := by
  refine shed_induction isDryer (f := f) (P := fun f x => x.1 = { f with
    rooms := x.1.rooms, order := f.order.filter fun m => !x.2.contains m }) (fun f _ _ => ?_) (fun f r c x _ _ _ _ ih => ?_) hc
  · simp
  · have horder : ((f.afterWithdrawal r c).order.filter fun m => !x.2.contains m) =
        f.order.filter fun m => !(c.machine :: x.2).contains m := by
      rw [afterWithdrawal, List.filter_filter]
      refine List.filter_congr fun m _ => ?_
      by_cases hm : m = c.machine <;> simp [hm]
    rw [horder] at ih
    exact ih

theorem shed_rooms (hc : f.Consistent) (k : RoomNo) :
    look (shed isDryer f).1.rooms k = roomWithout (look f.rooms k) (shed isDryer f).2 := by
  refine shed_induction isDryer (f := f) (P := fun f x => look x.1.rooms k = roomWithout (look f.rooms k) x.2)
    (fun _ _ _ => (roomWithout_nil _).symm) (fun f r c x hc hgrant _ hx ih => ?_) hc
  rw [ih, roomWithout_cons hc hgrant (hx ▸ shed_notMem_withdrawn isDryer hc hgrant)]

/-- No grant of load 0 is withdrawn (R150). -/
theorem shed_keeps_zero (hc : f.Consistent) (k : RoomNo) :
    ∀ d ∈ (look f.rooms k).grants, d.load = 0 → d ∈ (look (shed isDryer f).1.rooms k).grants := by
  refine shed_induction isDryer (f := f) (P := fun f x => ∀ d ∈ (look f.rooms k).grants, d.load = 0 → d ∈ (look x.1.rooms k).grants)
    (fun _ _ _ _ hd _ => hd) (fun f r c x hc hgrant hload _ ih d hd hzero => ih d ?_ hzero) hc
  rw [afterWithdrawal_grants hc hgrant k]
  refine List.mem_filter.mpr ⟨hd, ?_⟩
  have hne : d.machine ≠ c.machine := by
    intro e
    rw [(grant_unique hc hgrant hd e).2] at hzero
    omega
  simpa using hne

end

/-- Settles O40: the first withdrawal by which bound is exceeded, and what is left of the unit by induction on the withdrawals. -/
theorem sheddingRestoresBounds : Obligations.SheddingRestoresBounds := by
  intro f isDryer hc x above withdraws
  refine ⟨shed_of_kept isDryer, fun r hr hbefore c hw => ?room, fun hrooms h r c hw => ?building, shed_bounded isDryer hc,
    shed_consistent isDryer hc, shed_waiting isDryer hc, shed_frame isDryer hc, shed_rooms isDryer hc,
    fun r => shed_keeps_zero isDryer hc r⟩
  case room =>
    have hfirst := shedFrom_of_room isDryer hc (List.mem_finRange r) (List.pairwise_lt_finRange 4) hr hbefore hw
    rwa [← indexes, ← shed_eq_shedFrom, ← shed_eq_shedFrom] at hfirst
  case building =>
    have hfirst := shedFrom_of_building isDryer hc (indexes 4) hrooms h hw
    rwa [← shed_eq_shedFrom, ← shed_eq_shedFrom] at hfirst

end Sys2Proof.Machine.Feeder
end

section
/-! SUPPORT. What an event's end and a request's reply leave of each block, and the requests that set one item of a block alone. -/
namespace Sys2Proof.Machine

/-! ## The end of an event, block by block -/

/-- `t` is what an event that made `u` of the state leads to. -/
structure State.Concludes (u t : State) : Prop where
  powered : t.powered = u.powered
  startUp : t.startUp = u.startUp
  clock : t.clock = u.clock
  host : t.host = u.host.transmit
  line : t.line = u.line.begin
  engine : t.engine = u.engine
  directory : t.directory = u.directory
  cache : t.cache = u.cache.arbitrate
  payment : t.payment = u.payment
  tariff : t.tariff = u.tariff
  feeder : t.feeder = u.feeder
  supervisor : t.supervisor = u.supervisor
  lamps : t.lamps = u.lamps
  store : t.store = u.issueOwn.store
  scan : t.scan = u.scan
  fram : t.fram = u.fram
  freeIndex : t.freeIndex = u.freeIndex
  pending : t.pending = u.pending

theorem State.Settled.concludes {u : State} (h : u.Settled) : u.Concludes u.conclude := by
  rw [u.conclude_settled h]
  constructor <;> rfl

theorem State.Settled.reply {u : State} (h : u.Settled) (st : Status) (res : List Byte) : (u.reply st res).Settled :=
  h.of_store (State.reply_store u st res)

/-- An event of a running part, from what its effect makes of the state. -/
theorem leads_of_effect {c : Instr} {s u : State} {xs : List Block} {holds : State → Prop} (hc : isEvent c) (hr : s.Runs)
    (he : effect c s = u) (hk : Kept xs s u) (hset : u.Settled) (hh : ∀ t, u.Concludes t → holds t) : Leads (exec c s) s xs holds :=
  leads_event hc hr he hk hset (hh _ hset.concludes)

/-! ## Requests at their owners -/

/-- A request that its owner answers, from what the owner makes of the state before it hands the reply over. -/
theorem replies_owned {c : Instr} {s u : State} {tag : Byte} {q : Request} {st : Status} {res : List Byte} {xs : List Block}
    {holds : State → Prop} (h : s.Takes) (hc : c.request? = some (tag, q)) (hp : Request.passes q = true)
    (ho : (s.withRequest tag q).own q = u.reply st res) (hhost : u.host = { s.host with buffer := [requestFrame tag q] })
    (hset : u.Settled) (hk : Kept (.host :: xs) s u) (hh : ∀ t, (u.reply st res).Concludes t → holds t) :
    Replies (exec c s) s tag q st res xs holds :=
  RepliesFrom.intro s.host h.1.1 (exec_request c s tag q hc) ((s.request_owner tag q h hp).trans ho) hhost hset hk
    (hh _ (hset.reply st res).concludes)

/-- A request that its owner refuses. -/
theorem refuses_owned {c : Instr} {s : State} {tag : Byte} {q : Request} {st : Status} (h : s.Takes)
    (hc : c.request? = some (tag, q)) (hp : Request.passes q = true)
    (ho : (s.withRequest tag q).own q = (s.withRequest tag q).refuse st) : Refuses (exec c s) s tag q st :=
  Replies.of_own h hc hp ho

/-- A request that the judgement of its index refuses (R204). -/
theorem refuses_unindexed {c : Instr} {s : State} {tag : Byte} {q : Request} (h : s.Takes) (hc : c.request? = some (tag, q))
    (hp : Request.passes q = false) : Refuses (exec c s) s tag q .badArgument :=
  refuses_served hc h.1 h.2.2 (by simp [State.serve, hp])

/-! ## Items -/

/-- A CONFIG_SET whose owner refuses a bad item, or whose index is refused before, and otherwise gives some blocks new values. -/
theorem sets_item {c : Instr} {s : State} {tag : Byte} {i : ConfigItem} {bad : Prop} {xs : List Block} {holds : State → Prop}
    (h : s.Takes) (hc : c.request? = some (tag, .configSet i))
    (hbad : bad → ConfigItem.indexed i = false ∨ (ConfigItem.indexed i = true ∧
      (s.withRequest tag (.configSet i)).configSet i = (s.withRequest tag (.configSet i)).refuse .badArgument))
    (hgood : ¬ bad → ConfigItem.indexed i = true ∧ ∃ u, (s.withRequest tag (.configSet i)).configSet i = u.accept ∧
      u.host = { s.host with buffer := [requestFrame tag (.configSet i)] } ∧ u.store = s.store ∧ Kept (.host :: xs) s u ∧
      ∀ t, u.accept.Concludes t → holds t) : Sets c s tag i bad xs holds := by
  refine ⟨fun hb => ?_, fun hb => ?_⟩
  · rcases hbad hb with hindex | ⟨hindex, hrefused⟩
    · exact refuses_unindexed h hc hindex
    · exact refuses_owned h hc hindex hrefused
  · obtain ⟨hindex, u, heq, hhost, hstore, hk, hh⟩ := hgood hb
    exact replies_owned h hc hindex heq hhost (h.1.2.of_store hstore) hk hh

/-- An index judged. -/
theorem index?_val {n : Nat} (k : Fin n) : index? n k.1 = some k := by simp [index?]

theorem index?_of_lt {n k : Nat} (h : k < n) : index? n k = some ⟨k, h⟩ := by simp [index?, h]

theorem index?_of_le {n k : Nat} (h : n ≤ k) : index? n k = none := by simp [index?, Nat.not_lt.mpr h]

@[simp] theorem State.withIndex_val (s : State) {n : Nat} (k : Fin n) (f : Fin n → State) : s.withIndex n k.1 f = f k := by
  simp [State.withIndex, index?]

/-- The tariff alone is given a new value. -/
theorem kept_tariff (s : State) (tag : Byte) (q : Request) (t : Tariff) :
    Kept [.host, .tariff] s { s.withRequest tag q with tariff := t } := by
  refine ⟨rfl, fun b hb => ?_⟩
  cases b
  case host | tariff => simp at hb
  all_goals rfl

/-- A CONFIG_SET of an item of the tariff. -/
theorem sets_tariff {c : Instr} {s : State} {tag : Byte} {i : ConfigItem} {bad : Prop} {holds : State → Prop} (h : s.Takes)
    (hc : c.request? = some (tag, .configSet i))
    (hbad : bad → ConfigItem.indexed i = false ∨ (ConfigItem.indexed i = true ∧
      (s.withRequest tag (.configSet i)).configSet i = (s.withRequest tag (.configSet i)).refuse .badArgument))
    (hgood : ¬ bad → ConfigItem.indexed i = true ∧ ∃ new, (s.withRequest tag (.configSet i)).configSet i =
      (s.withRequest tag (.configSet i)).setTariff new ∧ ∀ t, t.tariff = new → holds t) :
    Sets c s tag i bad [.tariff] holds :=
  sets_item h hc hbad fun hb => by
    obtain ⟨hindex, new, heq, hh⟩ := hgood hb
    exact ⟨hindex, { s.withRequest tag (.configSet i) with tariff := new }, heq, rfl, rfl, kept_tariff _ _ _ _,
      fun t ht => hh t (ht.tariff.trans (State.reply_tariff _ _ _))⟩

/-- An item whose index is judged before its other fields. -/
theorem indexed_or {n k : Nat} {bad p : Prop} (hbad : n ≤ k ∨ bad) (hp : k < n → bad → p) :
    decide (k < n) = false ∨ (decide (k < n) = true ∧ p) := by
  by_cases hk : k < n
  · exact .inr ⟨decide_eq_true hk, hp hk (hbad.resolve_left (Nat.not_le.mpr hk))⟩
  · exact .inl (decide_eq_false hk)

theorem State.withIndex_of_lt (s : State) {n k : Nat} (h : k < n) (f : Fin n → State) : s.withIndex n k f = f ⟨k, h⟩ := by
  simp [State.withIndex, index?_of_lt h]

/-- Settles O19: each item by its range and its setter, and CAP also by the largest hold. -/
theorem tariffItemsAreSet : Obligations.TariffItemsAreSet := by
  intro s tag h
  refine ⟨fun b start factor => ?band, fun g d => ?group, fun n => ?surcharge, fun n => ?grace, fun a k => ?pause,
    fun n hhold => ?cap, fun n hlow hhigh hcap hhold => ?limit⟩
  case band =>
    refine sets_tariff h rfl (fun hbad => indexed_or hbad fun hb hrest => ?_) fun hgood => ?_
    · exact (State.withIndex_of_lt _ hb _).trans (if_pos hrest)
    · obtain ⟨hb, hrest⟩ := not_or.mp hgood
      have hb := Nat.lt_of_not_le hb
      exact ⟨decide_eq_true hb, _, (State.withIndex_of_lt _ hb _).trans (if_neg hrest), fun t ht => ⟨⟨b, hb⟩, rfl, ht⟩⟩
  case group =>
    refine sets_tariff h rfl (fun hbad => indexed_or hbad fun hg hrest => ?_) fun hgood => ?_
    · exact (State.withIndex_of_lt _ hg _).trans (if_pos hrest)
    · obtain ⟨hg, hrest⟩ := not_or.mp hgood
      have hg := Nat.lt_of_not_le hg
      exact ⟨decide_eq_true hg, _, (State.withIndex_of_lt _ hg _).trans (if_neg hrest), fun t ht => ⟨⟨g, hg⟩, rfl, ht⟩⟩
  case surcharge =>
    exact sets_tariff h rfl (fun hbad => .inr ⟨rfl, if_pos hbad⟩) fun hgood => ⟨rfl, _, if_neg hgood, fun t ht => ht⟩
  case grace =>
    exact sets_tariff h rfl (fun hbad => .inr ⟨rfl, if_pos hbad⟩) fun hgood => ⟨rfl, _, if_neg hgood, fun t ht => ht⟩
  case pause =>
    exact sets_tariff h rfl (fun hbad => .inr ⟨rfl, if_pos hbad⟩) fun hgood => ⟨rfl, _, if_neg hgood, fun t ht => ht⟩
  case cap =>
    refine sets_tariff h rfl (fun hbad => .inr ⟨rfl, if_pos hbad⟩) fun hgood =>
      ⟨rfl, { s.tariff with cap := n }, (if_neg hgood).trans (if_neg ?_), fun t ht => ht⟩
    rintro ⟨hcap, hlarger⟩
    exact absurd (hhold hcap) (Nat.not_le.mpr hlarger)
  case limit =>
    refine refuses_owned h rfl rfl ((if_neg ?_).trans (if_pos ⟨hcap, hhold⟩))
    omega

/-! ## Programmes -/

/-- Whether a session of a class and programme is present (R122). -/
theorem State.programmeInUse_iff (s : State) (cls : MachineClass) (p : ProgrammeNo) :
    s.programmeInUse cls p = true ↔ ∃ m x, (s.machine m).cls = cls ∧ s.session m = some x ∧ x.programme.1 = p.1 := by
  simp only [State.programmeInUse, List.any_eq_true, Bool.and_eq_true, beq_iff_eq, Option.any_eq_true]
  constructor
  · rintro ⟨m, -, hcls, x, hx, hp⟩
    exact ⟨m, x, hcls, hx, congrArg Fin.val hp⟩
  · rintro ⟨m, x, hcls, hx, hp⟩
    exact ⟨m, List.mem_finRange m, hcls, x, hx, Fin.ext hp⟩

/-- The index of a washer's PROGRAMME item judged (R204). -/
theorem State.setProgramme_washer (s : State) {i : Nat} (hi : i < 8) (price duration heat : Nat) :
    s.setProgramme (.washer i price duration heat) = s.setWasher ⟨i, hi⟩ price duration heat := by
  simp [State.setProgramme, index?_of_lt hi]

/-- The index of a dryer's PROGRAMME item judged (R204). -/
theorem State.setProgramme_dryer (s : State) {i : Nat} (hi : i < 8) (price length maximum heat : Nat) :
    s.setProgramme (.dryer i price length maximum heat) = s.setDryer ⟨i, hi⟩ price length maximum heat := by
  simp [State.setProgramme, index?_of_lt hi]

/-- Settles O20: each class by its ranges, then by the programme's use, then by the setter. -/
theorem programmeIsSet : Obligations.ProgrammeIsSet := by
  intro s tag i h inUse
  have used (q : Request) (hi : i < 8) (cls : MachineClass) :
      (s.withRequest tag q).programmeInUse cls ⟨i, hi⟩ = true ↔ inUse cls := State.programmeInUse_iff _ cls ⟨i, hi⟩
  refine ⟨?washer, ?dryer⟩
  case' dryer => intro price length maximum heat p bad same
  case' washer => intro price duration heat p bad
  all_goals refine ⟨?_, ?_⟩
  · intro k hk hheat huse hgood
    obtain ⟨-, hrest⟩ := not_or.mp hgood
    subst hk
    refine refuses_owned h rfl (decide_eq_true k.2) ?_
    exact (State.setProgramme_washer _ k.2 _ _ _).trans
      ((if_neg hrest).trans (if_pos ⟨hheat, (used _ k.2 .washer).mpr huse⟩))
  · intro hfree
    refine sets_tariff h rfl (fun hbad => indexed_or hbad fun hi hrest => ?_) fun hgood => ?_
    · exact (State.setProgramme_washer _ hi _ _ _).trans (if_pos hrest)
    · obtain ⟨hi, hrest⟩ := not_or.mp hgood
      have hi := Nat.lt_of_not_le hi
      refine ⟨decide_eq_true hi, _, (State.setProgramme_washer _ hi _ _ _).trans ((if_neg hrest).trans (if_neg ?_)),
        fun t ht => ⟨⟨i, hi⟩, rfl, ht⟩⟩
      rintro ⟨hheat, huse⟩
      exact (hfree ⟨i, hi⟩ rfl).elim hheat fun hnone => hnone ((used _ hi .washer).mp huse)
  · intro k hk hsame huse hgood
    obtain ⟨-, hrest⟩ := not_or.mp hgood
    subst hk
    refine refuses_owned h rfl (decide_eq_true k.2) ?_
    exact (State.setProgramme_dryer _ k.2 _ _ _ _).trans
      ((if_neg hrest).trans (if_pos ⟨not_and_or.mp hsame, (used _ k.2 .dryer).mpr huse⟩))
  · intro hfree
    refine sets_tariff h rfl (fun hbad => indexed_or hbad fun hi hrest => ?_) fun hgood => ?_
    · exact (State.setProgramme_dryer _ hi _ _ _ _).trans (if_pos hrest)
    · obtain ⟨hi, hrest⟩ := not_or.mp hgood
      have hi := Nat.lt_of_not_le hi
      refine ⟨decide_eq_true hi, _, (State.setProgramme_dryer _ hi _ _ _ _).trans ((if_neg hrest).trans (if_neg ?_)),
        fun t ht => ⟨⟨i, hi⟩, rfl, ht⟩⟩
      rintro ⟨hchange, huse⟩
      exact (hfree ⟨i, hi⟩ rfl).elim (not_and_or.mpr hchange) fun hnone => hnone ((used _ hi .dryer).mp huse)

/-! ## The items of the session engine and of the directory -/

theorem kept_engine (s : State) (tag : Byte) (q : Request) (e : SessionEngine) :
    Kept [.host, .engine] s { s.withRequest tag q with engine := e } := by
  refine ⟨rfl, fun b hb => ?_⟩
  cases b
  case host | engine => simp at hb
  all_goals rfl

theorem kept_directory (s : State) (tag : Byte) (q : Request) (d : DirectoryUnit) :
    Kept [.host, .directory] s { s.withRequest tag q with directory := d } := by
  refine ⟨rfl, fun b hb => ?_⟩
  cases b
  case host | directory => simp at hb
  all_goals rfl

/-- A CONFIG_SET of an item of the session engine. -/
theorem sets_engine {c : Instr} {s : State} {tag : Byte} {i : ConfigItem} {bad : Prop} {new : SessionEngine} (h : s.Takes)
    (hc : c.request? = some (tag, .configSet i)) (hindex : ConfigItem.indexed i = true)
    (hbad : bad → (s.withRequest tag (.configSet i)).configSet i = (s.withRequest tag (.configSet i)).refuse .badArgument)
    (hgood : ¬ bad → (s.withRequest tag (.configSet i)).configSet i = (s.withRequest tag (.configSet i)).setEngine new) :
    Sets c s tag i bad [.engine] fun t => t.engine = new :=
  sets_item h hc (fun hb => .inr ⟨hindex, hbad hb⟩) fun hb =>
    ⟨hindex, { s.withRequest tag (.configSet i) with engine := new }, hgood hb, rfl, rfl, kept_engine _ _ _ _,
      fun _ ht => ht.engine.trans (State.reply_engine _ _ _)⟩

/-- A number that may be ANY is in range or not (R49). -/
theorem judgeAny_cases (n : Nat) (x : Option Nat) :
    (∃ k, x = some k ∧ n ≤ k ∧ judgeAny n x = none) ∨ ∃ y : Option (Fin n), judgeAny n x = some y ∧ y.map Fin.val = x := by
  cases x with
  | none => exact .inr ⟨none, rfl, rfl⟩
  | some k =>
    by_cases hk : k < n
    · exact .inr ⟨some ⟨k, hk⟩, by simp [judgeAny, index?_of_lt hk], rfl⟩
    · exact .inl ⟨k, rfl, Nat.not_lt.mp hk, by simp [judgeAny, index?_of_le (Nat.not_lt.mp hk)]⟩

/-- The item that gives a window's action. -/
def WindowAction.asItem : WindowAction → WindowItemAction
  | .free => .free
  | .house a => .house a.1
  | .refuse => .refuse

theorem Window.item_action (w : Window) : w.item.action = w.action.asItem := by
  cases h : w.action <;> simp [Window.item, WindowAction.asItem, h]

/-- A window action names an account of the part or not (R49). -/
theorem judgeAction_cases (a : WindowItemAction) :
    (∃ n, a = .house n ∧ 1024 ≤ n ∧ judgeAction a = none) ∨ ∃ b : WindowAction, judgeAction a = some b ∧ b.asItem = a := by
  cases a with
  | free => exact .inr ⟨.free, rfl, rfl⟩
  | refuse => exact .inr ⟨.refuse, rfl, rfl⟩
  | house n =>
    by_cases hn : n < 1024
    · exact .inr ⟨.house ⟨n, hn⟩, by simp [judgeAction, index?_of_lt hn], rfl⟩
    · exact .inl ⟨n, rfl, Nat.not_lt.mp hn, by simp [judgeAction, index?_of_le (Nat.not_lt.mp hn)]⟩

/-- What R49 refuses of a WINDOW item's fields. -/
def WindowItem.outOfRange (w : WindowItem) : Prop :=
  63 < w.floorHigh ∨ w.floorHigh < w.floorLow ∨ (∃ n, w.flat = some n ∧ 15 < n) ∨ (∃ n, w.ordinal = some n ∧ 3 < n) ∨
    ∃ a, w.action = .house a ∧ 1023 < a

/-- A WINDOW item out of range is no window, and another is the window whose item it is. -/
theorem judgeWindow_cases (w : WindowItem) :
    (WindowItem.outOfRange w ∧ judgeWindow w = none) ∨ (¬ WindowItem.outOfRange w ∧ ∃ x, judgeWindow w = some x ∧ x.item = w) := by
  rcases judgeAny_cases 16 w.flat with ⟨n, hn, hrange, hflat⟩ | ⟨flat, hflat, hflatItem⟩
  · exact .inl ⟨.inr (.inr (.inl ⟨n, hn, hrange⟩)), by simp [judgeWindow, hflat]⟩
  rcases judgeAny_cases 4 w.ordinal with ⟨n, hn, hrange, hordinal⟩ | ⟨ordinal, hordinal, hordinalItem⟩
  · exact .inl ⟨.inr (.inr (.inr (.inl ⟨n, hn, hrange⟩))), by simp [judgeWindow, hordinal]⟩
  rcases judgeAction_cases w.action with ⟨a, ha, hrange, haction⟩ | ⟨action, haction, hactionItem⟩
  · exact .inl ⟨.inr (.inr (.inr (.inr ⟨a, ha, hrange⟩))), by simp [judgeWindow, haction]⟩
  by_cases hfloors : w.floorHigh < 64 ∧ w.floorLow ≤ w.floorHigh
  · refine .inr ⟨?_, ⟨w.enabled, w.site, w.floorLow, w.floorHigh, flat, ordinal, w.filter, action⟩,
      by simp [judgeWindow, hflat, hordinal, haction, hfloors], ?_⟩
    · rintro (hhigh | hlow | ⟨n, hn, hrange⟩ | ⟨n, hn, hrange⟩ | ⟨a, ha, hrange⟩)
      · omega
      · omega
      · cases flat with
        | none => simp [hn] at hflatItem
        | some k => simp [hn] at hflatItem; omega
      · cases ordinal with
        | none => simp [hn] at hordinalItem
        | some k => simp [hn] at hordinalItem; omega
      · cases action <;> simp [WindowAction.asItem, ha] at hactionItem
        omega
    · have heta : Window.item ⟨w.enabled, w.site, w.floorLow, w.floorHigh, flat, ordinal, w.filter, action⟩ =
          ⟨w.enabled, w.site, w.floorLow, w.floorHigh, flat.map Fin.val, ordinal.map Fin.val, w.filter, action.asItem⟩ := by
        cases action <;> rfl
      rw [heta, hflatItem, hordinalItem, hactionItem]
  · refine .inl ⟨?_, by simp [judgeWindow, hflat, hordinal, haction, hfloors]⟩
    rcases not_and_or.mp hfloors with hhigh | hlow
    · exact .inl (by omega)
    · exact .inr (.inl (by omega))

/-- Settles O21: the session engine's items by their ranges, SITE by its setter, and WINDOW by its judgement. -/
theorem sessionAndDirectoryItemsAreSet : Obligations.SessionAndDirectoryItemsAreSet := by
  refine ⟨fun s tag n h => ⟨?arm, ?overrun, ?nodeGrace⟩, fun s tag h => ⟨fun n => ?site, fun i w => ?window⟩⟩
  case arm => exact sets_engine h rfl rfl (fun hbad => if_pos hbad) fun hgood => if_neg hgood
  case overrun => exact sets_engine h rfl rfl (fun hbad => if_pos hbad) fun hgood => if_neg hgood
  case nodeGrace => exact sets_engine h rfl rfl (fun hbad => if_pos hbad) fun hgood => if_neg hgood
  case site =>
    exact sets_item h rfl False.elim fun _ =>
      ⟨rfl, { s.withRequest tag (.configSet (.site n)) with directory := { s.directory with site := n } }, rfl, rfl, rfl,
        kept_directory _ _ _ _, fun t ht => ht.directory.trans (State.reply_directory _ _ _)⟩
  case window =>
    refine sets_item h rfl (fun hbad => indexed_or hbad fun hi hrest => ?_) fun hgood => ?_
    · rcases judgeWindow_cases w with ⟨-, hnone⟩ | ⟨hrange, -⟩
      · exact (State.withIndex_of_lt _ hi _).trans (by simp only [State.setWindow, hnone])
      · exact absurd hrest hrange
    · obtain ⟨hi, hrest⟩ := not_or.mp hgood
      have hi := Nat.lt_of_not_le hi
      rcases judgeWindow_cases w with ⟨hrange, -⟩ | ⟨-, x, hx, hitem⟩
      · exact absurd hrange hrest
      · refine ⟨decide_eq_true hi, { s.withRequest tag (.configSet (.window i w)) with
            directory := { s.directory with windows := s.directory.windows.set i x } }, ?_, rfl, rfl, kept_directory _ _ _ _,
            fun t ht => ⟨⟨i, hi⟩, x, rfl, hitem, ht.directory.trans (State.reply_directory _ _ _)⟩⟩
        exact (State.withIndex_of_lt _ hi _).trans (by simp only [State.setWindow, hx]; rfl)

end Sys2Proof.Machine
end

section
/-! SUPPORT. What the cache's operations make of each set and way, the requests and events that change the cache alone, and the
arbiter's choice (R83 to R91). -/
namespace Sys2Proof.Machine

/-! ## Tables changed at every index -/

/-- An entry of a table that is changed at some indexes, each once. -/
theorem look_foldl_update_of_nodup {α : Type} {n : Nat} (f : Fin n → α → α) (ks : List (Fin n)) (h : ks.Nodup) (v : Vector α n)
    (i : Fin n) : look (ks.foldl (fun v k => update v k (f k)) v) i = if i ∈ ks then f i (look v i) else look v i := by
  induction ks generalizing v with
  | nil => simp
  | cons k ks ih =>
    obtain ⟨hk, hks⟩ := List.nodup_cons.mp h
    rw [List.foldl_cons, ih hks]
    by_cases hik : i = k
    · subst hik
      simp [hk, State.look_update_self]
    · rw [State.look_update_other _ _ _ _ (Ne.symm hik)]
      simp [hik]

/-- An entry of a table that is changed at every index. -/
theorem look_foldl_update {α : Type} {n : Nat} (f : Fin n → α → α) (v : Vector α n) (i : Fin n) :
    look ((indexes n).foldl (fun v k => update v k (f k)) v) i = f i (look v i) := by
  rw [look_foldl_update_of_nodup f (indexes n) (List.nodup_finRange n)]
  exact if_pos (List.mem_finRange i)

/-! ## The ways of a set and the sets of the cache -/

/-- A set whose ways are changed one after the other. -/
theorem CacheSet.foldl_ways (g : CacheSet → Fin 4 → CacheSet) (f : Fin 4 → Option CacheEntry → Option CacheEntry)
    (hg : ∀ u w, g u w = { u with ways := update u.ways w (f w) }) (ws : List (Fin 4)) (t : CacheSet) :
    ws.foldl g t = { t with ways := ws.foldl (fun v w => update v w (f w)) t.ways } := by
  induction ws generalizing t with
  | nil => rfl
  | cons w ws ih => rw [List.foldl_cons, ih, hg]; rfl

/-- A set without some of its entries, way by way. -/
theorem CacheSet.drop_eq (t : CacheSet) (p : CacheEntry → Bool) :
    t.drop p = { t with ways := (indexes 4).foldl (fun v w => update v w (Option.filter fun e => !p e)) t.ways } := by
  refine CacheSet.foldl_ways _ _ (fun u w => ?_) _ t
  cases h : look u.ways w with
  | none =>
    have hu : u.ways.set w.1 none = u.ways := by rw [← h]; simp [look]
    simp [update, h, hu]
  | some e =>
    by_cases he : p e = true
    · simp [CacheSet.put, update, h, he, Option.filter]
    · have hu : u.ways.set w.1 (some e) = u.ways := by rw [← h]; simp [look]
      simp [update, h, he, Option.filter, hu]

theorem CacheSet.drop_way (t : CacheSet) (p : CacheEntry → Bool) (w : Fin 4) :
    look (t.drop p).ways w = (look t.ways w).filter fun e => !p e := by
  rw [CacheSet.drop_eq]
  exact look_foldl_update (fun _ => Option.filter fun e => !p e) _ _

@[simp] theorem CacheSet.drop_order (t : CacheSet) (p : CacheEntry → Bool) : (t.drop p).order = t.order := by
  rw [CacheSet.drop_eq]

@[simp] theorem CacheSet.drop_pointer (t : CacheSet) (p : CacheEntry → Bool) : (t.drop p).pointer = t.pointer := by
  rw [CacheSet.drop_eq]

/-- A cache whose sets are changed one after the other. -/
theorem Cache.foldl_modSet (f : CacheSet → CacheSet) (ks : List (Fin 8)) (c : Cache) :
    ks.foldl (fun d k => d.modSet k f) c = { c with sets := ks.foldl (fun v k => update v k f) c.sets } := by
  induction ks generalizing c with
  | nil => rfl
  | cons k ks ih => rw [List.foldl_cons, ih]; rfl

/-- The cache loses the entries that satisfy `gone` and no others; LRU orders and pointers are kept. -/
def Cache.Lost (gone : CacheEntry → Bool) (before after : Cache) : Prop :=
  ∀ k : Fin 8, (look after.sets k).order = (look before.sets k).order ∧
    (look after.sets k).pointer = (look before.sets k).pointer ∧
      ∀ w, look (look after.sets k).ways w = (look (look before.sets k).ways w).filter fun e => !gone e

theorem Cache.drop_frame (c : Cache) (p : CacheEntry → Bool) : c.drop p = { c with sets := (c.drop p).sets } := by
  simp only [Cache.drop, Cache.foldl_modSet]

theorem Cache.drop_set (c : Cache) (p : CacheEntry → Bool) (k : Fin 8) : look (c.drop p).sets k = (look c.sets k).drop p := by
  rw [Cache.drop, Cache.foldl_modSet]
  exact look_foldl_update (fun _ t => CacheSet.drop t p) c.sets k

theorem Cache.drop_lost (c : Cache) (p : CacheEntry → Bool) : Cache.Lost p c (c.drop p) := by
  intro k
  simp only [Cache.drop_set, CacheSet.drop_order, CacheSet.drop_pointer, CacheSet.drop_way, implies_true, and_self]

/-! ## The cache alone given a new value -/

theorem kept_cache (s : State) (tag : Byte) (q : Request) (c : Cache) :
    Kept [.host, .cache] s { s.withRequest tag q with cache := c } := by
  refine ⟨rfl, fun b hb => ?_⟩
  cases b
  case host | cache => simp at hb
  all_goals rfl

theorem kept_cacheBlock (s : State) (c : Cache) : Kept [.cache] s { s with cache := c } := by
  refine ⟨rfl, fun b hb => ?_⟩
  cases b
  case cache => simp at hb
  all_goals rfl

/-- A request that is answered OK with the cache given a new value. -/
theorem replies_cache {c : Instr} {s : State} {tag : Byte} {q : Request} {res : List Byte} {new : Cache} {holds : State → Prop}
    (h : s.Takes) (hc : c.request? = some (tag, q)) (hp : Request.passes q = true)
    (ho : (s.withRequest tag q).own q = ({ s.withRequest tag q with cache := new }).reply .ok res)
    (hh : ∀ t : State, t.cache = new.arbitrate → holds t) : Replies (exec c s) s tag q .ok res [.cache] holds :=
  replies_owned h hc hp ho rfl (h.1.2.of_store rfl) (kept_cache _ _ _ _) fun _ ht =>
    hh _ (ht.cache.trans (congrArg Cache.arbitrate (State.reply_cache _ _ _)))

/-! ## The CACHE item -/

theorem CacheItem.inRange_iff (i : CacheItem) : CacheItem.inRange i = true ↔
    ¬ (i.sweepBurst < 1 ∨ 16 < i.sweepBurst ∨ i.lookupBurst < 1 ∨ 16 < i.lookupBurst) := by
  simp only [CacheItem.inRange, Bool.and_eq_true, decide_eq_true_eq]
  omega

/-- A set as a CACHE item leaves it, which switches the ways that `changed` names. -/
def CacheSet.switched (t : CacheSet) (changed : Fin 4 → Bool) : CacheSet :=
  (indexes 4).foldl (fun u w => if changed w then u.put w none else u) t

theorem CacheSet.switched_eq (t : CacheSet) (changed : Fin 4 → Bool) : t.switched changed =
    { t with ways := (indexes 4).foldl (fun v w => update v w fun e => if changed w then none else e) t.ways } := by
  refine CacheSet.foldl_ways _ _ (fun u w => ?_) _ t
  by_cases hw : changed w = true
  · simp [hw, CacheSet.put]
  · simp [hw, update, look]

/-- The CACHE item applied, set by set. -/
theorem Cache.configure_eq (c : Cache) (i : CacheItem) : c.configure i =
    { c with
      sets := (indexes 8).foldl (fun v k => update v k fun t => t.switched fun w => look c.mask w != look i.mask w) c.sets
      mask := i.mask, replacement := i.replacement, sweepBurst := i.sweepBurst, lookupBurst := i.lookupBurst } := by
  have h := Cache.foldl_modSet (fun t => t.switched fun w => look c.mask w != look i.mask w) (indexes 8) c
  simp only [CacheSet.switched] at h
  simp only [Cache.configure, h, CacheSet.switched]

theorem Cache.configure_set (c : Cache) (i : CacheItem) (k : Fin 8) :
    look (c.configure i).sets k = (look c.sets k).switched fun w => look c.mask w != look i.mask w := by
  rw [Cache.configure_eq]
  exact look_foldl_update (fun _ t => CacheSet.switched t fun w => look c.mask w != look i.mask w) c.sets k

/-- Settles O22: the item by its ranges, and the cache configured set by set and way by way. -/
theorem cacheItemIsSet : Obligations.CacheItemIsSet := by
  intro s tag i h
  refine sets_item h rfl (fun hbad => .inr ⟨rfl, if_neg fun hin => (CacheItem.inRange_iff i).mp hin hbad⟩) fun hgood =>
    ⟨rfl, { s.withRequest tag (.configSet (.cache i)) with cache := s.cache.configure i },
      if_pos ((CacheItem.inRange_iff i).mpr hgood), rfl, rfl, kept_cache _ _ _ _, fun t ht => ?_⟩
  refine ⟨s.cache.configure i, ht.cache.trans (congrArg Cache.arbitrate (State.reply_cache _ _ _)), ?_, fun k => ?_⟩
  · rw [Cache.configure_eq]
  · rw [Cache.configure_set, CacheSet.switched_eq]
    refine ⟨rfl, rfl, fun w => ?_⟩
    refine (look_foldl_update (fun w e => if look s.cache.mask w != look i.mask w then none else e) _ w).trans ?_
    by_cases hw : look s.cache.mask w = look i.mask w <;> simp [hw]

/-! ## Flushes -/

theorem Cache.flushAll_frame (c : Cache) : c.flushAll = { c with
    sets := c.flushAll.sets, sweepQueue := [], inFlight := none
    access := if c.access = some .sweep then none else c.access } := by
  simp only [Cache.flushAll]
  rw [Cache.drop_frame]

/-- Settles O36: a flush at once by what a drop loses, a flush by sweep by the cases of the sweep queue. -/
theorem flushInvalidates : Obligations.FlushInvalidates := by
  intro s tag h lost valid all swept
  have allOf {c : Instr} {q : Request} (hc : c.request? = some (tag, q)) (hp : Request.passes q = true)
      (ho : (s.withRequest tag q).own q = (s.withRequest tag q).flushNow 0 (fun _ => true) s.cache.flushAll) : all c q :=
    replies_cache h hc hp ho fun t ht =>
      ⟨s.cache.flushAll, ht, Cache.drop_lost _ _, Cache.flushAll_frame _⟩
  have sweptOf {c : Instr} {q : Request} {scope : Nat} {w : Sweep} (hc : c.request? = some (tag, q))
      (hp : Request.passes q = true) (ho : (s.withRequest tag q).own q = (s.withRequest tag q).flushSweep scope w) :
      swept c q scope w := by
    refine ⟨fun hmem => ?waits, fun hmem hroom => ?queued, fun hmem hfull => allOf hc hp (ho.trans ?full)⟩
    case waits =>
      have hr : s.cache.requestSweep w = (s.cache, false) := by simp [Cache.requestSweep, hmem]
      exact Replies.of_own h hc hp (ho.trans (by simp only [State.flushSweep, State.withRequest, hr]; rfl))
    case queued =>
      have hr : s.cache.requestSweep w = ({ s.cache with sweepQueue := s.cache.sweepQueue ++ [w] }, false) := by
        simp [Cache.requestSweep, hmem, Config.sweepQueueSize, hroom]
      refine replies_cache h hc hp (ho.trans ?_) fun t ht => ht
      simp only [State.flushSweep, State.withRequest, hr, List.length_append, List.length_singleton]
      rfl
    case full =>
      have hr : s.cache.requestSweep w = (s.cache.flushAll, true) := by
        simp [Cache.requestSweep, hmem, Config.sweepQueueSize, Nat.not_lt.mpr hfull]
      simp only [State.flushSweep, State.withRequest, hr, if_true]
  refine ⟨allOf rfl rfl rfl, ?residents, fun f => sweptOf rfl rfl ?floor, fun f n => sweptOf rfl rfl ?flat, fun f hf => ?_,
    fun f n hfn => ?_⟩
  case residents =>
    exact replies_cache h rfl rfl rfl fun t ht =>
      ⟨s.cache.flushResidents, ht, Cache.drop_lost _ _, Cache.drop_frame _ _⟩
  case floor => simp [State.own, State.cacheFlush, index?_val]
  case flat => simp [State.own, State.cacheFlush, index?_val]
  · exact refuses_owned h rfl rfl (by simp [State.own, State.cacheFlush, index?_of_le (show 64 ≤ f from hf)])
  · refine refuses_owned h rfl rfl ?_
    rcases hfn with hf | hn
    · simp [State.own, State.cacheFlush, index?_of_le (show 64 ≤ f from hf)]
    · simp [State.own, State.cacheFlush, index?_of_le (show 16 ≤ n from hn)]

/-! ## Sweep steps and the arbiter -/

/-- A sweep step of the set that the sweep in flight has come to (R86). -/
theorem Cache.sweepStep_of_inFlight {c : Cache} {w : Sweep} {k : Fin 8} (h : c.inFlight = some (w, k)) :
    c.sweepStep = { c.modSet k fun t => t.drop w.matches with inFlight := if k = 7 then none else some (w, next k) } := by
  simp [Cache.sweepStep, h]

/-- The set after set `k`, as long as there is one. -/
theorem nextSet_eq (w : Sweep) (k : Fin 8) : (if k = 7 then none else some (w, next k)) =
    if h : k.1 + 1 < 8 then some (w, (⟨k.1 + 1, h⟩ : Fin 8)) else none := by
  by_cases hk : k = 7
  · subst hk
    rfl
  · have hlt : k.1 + 1 < 8 := by omega
    simp [hk, hlt, next]

/-- The cache with a lookup chosen as the array's next access, the run at `run` (R87). -/
def Cache.looking (c : Cache) (run : Nat) : Cache := { c with phase := .lookup, run := run, access := some .lookup }

/-- The cache with a sweep step chosen as the array's next access, the run at `run` (R86, R87). -/
def Cache.stepping (c : Cache) (run : Nat) : Cache := { c with
  phase := .sweep, run := run, access := some .sweep
  inFlight := match c.inFlight with | some x => some x | none => c.sweepQueue.head?.map fun w => (w, 0)
  sweepQueue := match c.inFlight with | some _ => c.sweepQueue | none => c.sweepQueue.tail }

theorem Cache.start_lookup (c : Cache) : c.start .lookup = c.looking (if c.phase = .lookup then c.run + 1 else 1) := by
  cases h : c.phase <;> simp [Cache.start, Cache.count1, Cache.looking, h]

theorem Cache.beginSweep_eq (c : Cache) : c.beginSweep = { c with
    inFlight := match c.inFlight with | some x => some x | none => c.sweepQueue.head?.map fun w => (w, 0)
    sweepQueue := match c.inFlight with | some _ => c.sweepQueue | none => c.sweepQueue.tail } := by
  obtain ⟨sets, mask, policy, sweepBurst, lookupBurst, lookups, queue, flight, phase, run, access⟩ := c
  cases flight <;> cases queue <;> rfl

theorem Cache.start_sweep (c : Cache) : c.start .sweep = c.stepping (if c.phase = .sweep then c.run + 1 else 1) := by
  cases h : c.phase <;> simp [Cache.start, Cache.count1, Cache.stepping, h, Cache.beginSweep_eq]

theorem Cache.sweepOutstanding_iff (c : Cache) : c.sweepOutstanding = true ↔ c.inFlight ≠ none ∨ c.sweepQueue ≠ [] := by
  simp [Cache.sweepOutstanding, Option.isSome_iff_ne_none]

theorem Cache.arbitrate_of_choose {c : Cache} {a : CacheAccess} (h : c.access = none) (hc : c.choose = some a) :
    c.arbitrate = c.start a := by simp [Cache.arbitrate, h, hc]

/-- R87's table in the phase LOOKUP, with the array idle. -/
theorem Cache.arbitrate_lookup {c : Cache} (h : c.access = none) (hp : c.phase = .lookup) :
    (c.lookups ≠ [] → c.sweepOutstanding = false ∨ c.run < c.lookupBurst → c.arbitrate = c.looking (c.run + 1)) ∧
      (c.sweepOutstanding = true → ¬ (c.lookups ≠ [] ∧ c.run < c.lookupBurst) → c.arbitrate = c.stepping 1) := by
  constructor
  · intro hw hor
    have hc : c.choose = some .lookup := by simp [Cache.choose, hp, hw, hor]
    rw [Cache.arbitrate_of_choose h hc, Cache.start_lookup, if_pos hp]
  · intro hs hor
    have hc : c.choose = some .sweep := by
      have hno : ¬ (c.lookups ≠ [] ∧ (c.sweepOutstanding = false ∨ c.run < c.lookupBurst)) := by simpa [hs] using hor
      simp [Cache.choose, hp, hs] at hno ⊢
      exact hno
    rw [Cache.arbitrate_of_choose h hc, Cache.start_sweep, if_neg (by rw [hp]; decide)]

/-- R87's table in the phase SWEEP, with the array idle. -/
theorem Cache.arbitrate_sweep {c : Cache} (h : c.access = none) (hp : c.phase = .sweep) :
    (c.sweepOutstanding = true → c.lookups = [] ∨ c.run < c.sweepBurst → c.arbitrate = c.stepping (c.run + 1)) ∧
      (c.lookups ≠ [] → ¬ (c.sweepOutstanding = true ∧ c.run < c.sweepBurst) → c.arbitrate = c.looking 1) := by
  constructor
  · intro hs hor
    have hc : c.choose = some .sweep := by simp [Cache.choose, hp, hs, hor]
    rw [Cache.arbitrate_of_choose h hc, Cache.start_sweep, if_pos hp]
  · intro hw hor
    have hc : c.choose = some .lookup := by
      simp [Cache.choose, hp, hw] at hor ⊢
      exact hor
    rw [Cache.arbitrate_of_choose h hc, Cache.start_lookup, if_neg (by rw [hp]; decide)]

/-- With neither side waiting the array stays idle. -/
theorem Cache.arbitrate_idle {c : Cache} (h : c.access = none) (hw : c.lookups = []) (hs : c.sweepOutstanding = false) :
    c.arbitrate = c := by
  have hc : c.choose = none := by cases hp : c.phase <;> simp [Cache.choose, hp, hw, hs]
  simp [Cache.arbitrate, h, hc]

theorem Cache.arbitrate_busy {c : Cache} (h : c.access ≠ none) : c.arbitrate = c := by
  obtain ⟨a, ha⟩ := Option.ne_none_iff_exists'.mp h
  simp [Cache.arbitrate, ha]

/-- Settles O37: a step of the sweep in flight set by set, a step that is not due, and the arbiter's table by phase. -/
theorem sweepStepInvalidatesSet : Obligations.SweepStepInvalidatesSet := by
  refine ⟨fun s w k hr hacc hflight => ?step, fun s hr hacc => ?late, fun c => ?arbiter⟩
  case step =>
    have hstep := Cache.sweepStep_of_inFlight hflight
    refine leads_of_effect (u := { s with cache := { s.cache.sweepStep with access := none } }) ⟨nofun, nofun⟩ hr (if_pos hacc)
      (kept_cacheBlock s _) (hr.2.of_store rfl) fun t ht => ⟨{ s.cache.sweepStep with access := none }, ht.cache, ?_, ?_, ?_⟩
    · rw [hstep, nextSet_eq]
      rfl
    · intro i hi
      rw [hstep]
      exact State.look_update_other _ _ _ _ (Ne.symm hi)
    · have hset : look ({ s.cache.sweepStep with access := none } : Cache).sets k = (look s.cache.sets k).drop w.matches := by
        rw [hstep]
        exact State.look_update_self _ _ _
      rw [hset]
      exact ⟨CacheSet.drop_order _ _, CacheSet.drop_pointer _ _, CacheSet.drop_way _ _⟩
  case late =>
    exact leads_nothing ⟨nofun, nofun⟩ hr (if_neg hacc)
  case arbiter =>
    have outstanding := c.sweepOutstanding_iff
    have idle : c.sweepOutstanding = false ↔ ¬ (c.inFlight ≠ none ∨ c.sweepQueue ≠ []) := by
      rw [← outstanding, Bool.not_eq_true]
    refine ⟨Cache.arbitrate_busy, fun h => ⟨fun hp => ⟨fun hw hor => ?_, fun hs hor => ?_⟩,
      fun hp => ⟨fun hs hor => ?_, fun hw hor => ?_⟩, fun hw hs => ?_⟩⟩
    · exact (Cache.arbitrate_lookup h hp).1 hw (hor.imp_left idle.mpr)
    · exact (Cache.arbitrate_lookup h hp).2 (outstanding.mpr hs) hor
    · exact (Cache.arbitrate_sweep h hp).1 (outstanding.mpr hs) (hor.imp_left not_not.mp)
    · exact (Cache.arbitrate_sweep h hp).2 hw fun ⟨hs, hrun⟩ => hor ⟨outstanding.mp hs, hrun⟩
    · exact Cache.arbitrate_idle h (not_not.mp hw) (idle.mpr hs)

end Sys2Proof.Machine
end

section
/-! SUPPORT. The tariff: the band in force, the price and the captured charge (6.2 to 6.4). -/
namespace Sys2Proof.Machine

/-! ## Endings -/

/-- An ending before its time: ABORTED or FAULT (R134). -/
def Ending.early (e : Ending) : Prop := e.cause = .aborted ∨ ∃ k, e.cause = .fault k

theorem delayCredit_le (e : Ending) (n : Nat) : delayCredit e n ≤ n := by
  unfold delayCredit
  split
  · exact Nat.sub_le _ _
  · exact le_refl _

theorem delayCredit_zero (e : Ending) : delayCredit e 0 = 0 := by simp [delayCredit]

namespace Tariff

/-! ## The band in force -/

/-- Band `b` is, of a list of bands, one with the latest start, and of equal starts the higher-numbered one (R124). -/
def IsLatest (t : Tariff) (bs : List (Fin 4)) (b : Fin 4) : Prop :=
  b ∈ bs ∧ ∀ k ∈ bs, (look t.bands k).start < (look t.bands b).start ∨ ((look t.bands k).start = (look t.bands b).start ∧ k ≤ b)

/-- One more band, with a higher number, is looked at. -/
theorem IsLatest.concat {t : Tariff} {bs : List (Fin 4)} {a b : Fin 4} (h : t.IsLatest bs a) (hb : ∀ k ∈ bs, k < b) :
    t.IsLatest (bs ++ [b]) (if (look t.bands a).start ≤ (look t.bands b).start then b else a) := by
  obtain ⟨hmem, hall⟩ := h
  by_cases hab : (look t.bands a).start ≤ (look t.bands b).start
  · rw [if_pos hab]
    refine ⟨by simp, fun k hk => ?_⟩
    rcases List.mem_append.mp hk with hk | hk
    · have hkb := hb k hk
      rcases hall k hk with hlt | ⟨heq, -⟩
      · exact .inl (by omega)
      · rcases Nat.lt_or_ge (look t.bands k).start (look t.bands b).start with hlt | hge
        · exact .inl hlt
        · exact .inr ⟨by omega, hkb.le⟩
    · rw [List.mem_singleton.mp hk]
      exact .inr ⟨rfl, le_refl b⟩
  · rw [if_neg hab]
    refine ⟨by simp [hmem], fun k hk => ?_⟩
    rcases List.mem_append.mp hk with hk | hk
    · exact hall k hk
    · rw [List.mem_singleton.mp hk]
      exact .inl (by omega)

/-- The latest of bands, one more looked at. -/
theorem latest_concat (t : Tariff) (bs : List (Fin 4)) (b : Fin 4) : t.latest (bs ++ [b]) =
    some (match t.latest bs with
      | none => b
      | some a => if (look t.bands a).start ≤ (look t.bands b).start then b else a) := by
  rw [latest, List.foldl_append, ← latest]
  cases t.latest bs with
  | none => rfl
  | some a => exact (apply_ite some _ _ _).symm

/-- The latest of bands in number order. -/
theorem latest_isLatest (t : Tariff) (bs : List (Fin 4)) (h : bs.Pairwise (· < ·)) :
    (t.latest bs = none → bs = []) ∧ ∀ b, t.latest bs = some b → t.IsLatest bs b := by
  induction bs using List.reverseRecOn with
  | nil => exact ⟨fun _ => rfl, nofun⟩
  | append_singleton bs b ih =>
    obtain ⟨hbs, -, hb⟩ := List.pairwise_append.mp h
    obtain ⟨hnone, hsome⟩ := ih hbs
    rw [latest_concat]
    refine ⟨nofun, fun c hc => ?_⟩
    obtain rfl := Option.some.inj hc
    cases hl : t.latest bs with
    | none =>
      rw [hnone hl]
      exact ⟨by simp, by simp⟩
    | some a => exact (hsome a hl).concat fun k hk => hb k hk b (by simp)

theorem bandsWhere_pairwise (t : Tariff) (p : Nat → Bool) : (t.bandsWhere p).Pairwise (· < ·) :=
  (List.pairwise_lt_finRange 4).filter _

theorem mem_bandsWhere (t : Tariff) (p : Nat → Bool) (k : Fin 4) : k ∈ t.bandsWhere p ↔ p (look t.bands k).start = true := by
  simp [bandsWhere, indexes]

/-- The band in force with the clock set: of the bands begun, or of all where none has begun, the latest (R124). -/
theorem bandInForce_isLatest (t : Tariff) (clock : Timebase) (h : clock.clockSet = true) :
    let begun := t.bandsWhere fun m => decide (m ≤ clock.minute)
    (begun ≠ [] → t.IsLatest begun (t.bandInForce clock)) ∧ (begun = [] → t.IsLatest (indexes 4) (t.bandInForce clock)) := by
  have hbegun := t.latest_isLatest _ (t.bandsWhere_pairwise fun m => decide (m ≤ clock.minute))
  have hall := t.latest_isLatest (indexes 4) (List.pairwise_lt_finRange 4)
  simp only [bandInForce, h, if_true]
  constructor
  · intro hne
    cases hl : t.latest (t.bandsWhere fun m => decide (m ≤ clock.minute)) with
    | none => exact absurd (hbegun.1 hl) hne
    | some b => exact hbegun.2 b hl
  · intro hnil
    rw [hnil]
    cases hl : t.latest (indexes 4) with
    | none => exact absurd (hall.1 hl) (by decide)
    | some b => exact hall.2 b hl

/-! ## The charge -/

theorem usedMinutes_le (t : Tariff) (cls : MachineClass) (p : ProgrammeNo) (start units elapsed : Nat) :
    t.usedMinutes cls p start units elapsed ≤ units := by
  cases cls with
  | washer => exact Nat.min_le_right _ _
  | dryer =>
    simp only [usedMinutes]
    split
    · exact Nat.zero_le _
    · exact Nat.min_le_left _ _

theorem chargeBeforeCredit_le (t : Tariff) (e : Ending) (price start units : Nat) :
    t.chargeBeforeCredit e price start units ≤ price := by
  have hprorated : price * t.usedMinutes e.cls e.programme start units e.elapsed / units ≤ price :=
    Nat.div_le_of_le_mul (by rw [Nat.mul_comm units]; exact Nat.mul_le_mul_left _ (t.usedMinutes_le ..))
  simp only [chargeBeforeCredit]
  split
  · exact le_refl _
  · exact Nat.zero_le _
  all_goals
    split
    · exact Nat.zero_le _
    · exact hprorated

theorem charge_le (t : Tariff) (e : Ending) (p : Part) : t.charge e p ≤ p.price :=
  (delayCredit_le e _).trans (t.chargeBeforeCredit_le e _ _ _)

theorem charge_of_early (t : Tariff) {e : Ending} (h : e.early) (p : Part) : t.charge e p = delayCredit e
    (if e.elapsed < e.rules.grace then 0
      else p.price * t.usedMinutes e.cls e.programme p.start p.units e.elapsed / p.units) := by
  rcases h with h | ⟨k, h⟩ <;> simp only [charge, chargeBeforeCredit, h]

end Tariff

/-- Settles O60: the band by the latest of the bands listed, the price by its stages, the charge by the end cause. -/
theorem priceAndChargeAreBounded : Obligations.PriceAndChargeAreBounded := by
  refine ⟨fun t clock => ?band, fun t clock demand q => ?price, fun t e p => ?charge⟩
  case band =>
    refine ⟨fun h => ?_, fun h => ?_⟩
    · simp [Tariff.bandInForce, h]
    · obtain ⟨hbegun, hall⟩ := t.bandInForce_isLatest clock h
      have hmem (k : Fin 4) := t.mem_bandsWhere (fun m => decide (m ≤ clock.minute)) k
      simp only [decide_eq_true_eq] at hmem
      refine ⟨fun ⟨k, hk⟩ => ?_, fun hnone => ?_⟩
      · obtain ⟨hb, hlatest⟩ := hbegun (List.ne_nil_of_mem ((hmem k).mpr hk))
        exact ⟨(hmem _).mp hb, fun j hj => hlatest j ((hmem j).mpr hj)⟩
      · have hnil : t.bandsWhere (fun m => decide (m ≤ clock.minute)) = [] :=
          List.eq_nil_iff_forall_not_mem.mpr fun k hk => Nat.not_le.mpr (hnone k) ((hmem k).mp hk)
        exact fun k => (hall hnil).2 k (List.mem_finRange k)
  case price =>
    have hfits : t.countFits q.cls q.programme q.count = true ↔
        (q.cls = .washer ∨ (1 ≤ q.count ∧ q.count ≤ (look t.dryers q.programme).maximum)) := by
      cases h : q.cls <;> simp [Tariff.countFits]
    have hfactor (b : Fin 4) (x : Bool) :
        t.factor b x = max 500 (min 2500 ((look t.bands b).factor + if x then t.surcharge else 0)) :=
      congrArg (max 500) (Nat.min_comm _ _)
    refine ⟨fun hout => if_neg (mt hfits.mp hout), fun hin =>
      ⟨_, if_pos (hfits.mpr hin), ?_, rfl, rfl, ?_, ?_, ?_, ?_⟩⟩
    · exact hfactor _ _
    · dsimp only
      split
      · exact Nat.zero_le _
      · exact Nat.min_le_right _ _
    · exact fun hfree => if_pos hfree
    · exact fun hfree => (if_neg (by simp [hfree])).trans (by rw [hfactor])
    · cases h : q.cls <;> simp [Tariff.units, h]
  case charge =>
    refine ⟨t.charge_le e p, fun h => ?_, fun h => ?_, fun h hgrace => ?_, fun h hgrace => ?_⟩
    · simp only [Tariff.charge, Tariff.chargeBeforeCredit, h, delayCredit]
    · simp only [Tariff.charge, Tariff.chargeBeforeCredit, h, delayCredit_zero]
    · rw [t.charge_of_early h, if_pos hgrace, delayCredit_zero]
    · rw [t.charge_of_early h, if_neg (Nat.not_lt.mpr hgrace)]
      refine ⟨fun hcls hstart => ?_, fun hcls hstart => ?_, fun hcls hstart => ?_⟩
      · rw [hcls, hstart]
        rfl
      · simp [hcls, Tariff.usedMinutes, hstart, delayCredit_zero]
      · simp only [hcls, Tariff.usedMinutes, if_neg (Nat.not_le.mpr hstart)]
        rfl

end Sys2Proof.Machine
end

section
/-! SUPPORT. The requests that join the payment request queue, their operands judged before (R62, R70, R73, R114 to R118). -/
namespace Sys2Proof.Machine

theorem State.notConfigured_iff (s : State) : s.notConfigured = true ↔ s.startUp = .notConfigured := by
  simp [State.notConfigured]

/-! ## Joining the queue -/

theorem kept_payment (s : State) (tag : Byte) (q : Request) (p : PaymentUnit) :
    Kept [.host, .payment] s { s.withRequest tag q with payment := p } := by
  refine ⟨rfl, fun b hb => ?_⟩
  cases b
  case host | payment => simp at hb
  all_goals rfl

/-- A request that its owner puts into the payment request queue. -/
theorem queues_owned {c : Instr} {s : State} {tag : Byte} {q : Request} {p : PayRequest} (h : s.Takes)
    (hc : c.request? = some (tag, q)) (hp : Request.passes q = true)
    (ho : (s.withRequest tag q).own q = (s.withRequest tag q).enqueue p) : Queues (exec c s) s tag q p := by
  have heffect : effect c s = (s.withRequest tag q).enqueue p :=
    (effect_request s hc).trans ((s.request_owner tag q h hp).trans ho)
  exact leads_of_effect (isEvent_of_request hc) h.1 heffect (kept_payment s tag q _) (h.1.2.of_store rfl) fun t ht =>
    ⟨ht.host, ht.payment⟩

/-! ## Account requests -/

/-- An account request whose owner judges its index, then its operands, then the part and the store (R114). -/
theorem queueAccount_judged {c : Instr} {s : State} {tag : Byte} {q : Request} {a : Nat} {judged : Option AccountOp} {bad : Prop}
    {op : AccountOp} (h : s.Takes) (hc : c.request? = some (tag, q)) (hp : Request.passes q = true)
    (ho : ∀ u : State, u.own q = u.queueAccount a judged) (hbad : bad → judged = none) (hgood : ¬ bad → judged = some op) :
    (1023 < a ∨ bad → Refuses (exec c s) s tag q .badArgument) ∧
      ∀ k : AccountNo, k.1 = a → ¬ bad →
        (s.startUp = .notConfigured → Refuses (exec c s) s tag q .notReady) ∧
          (s.startUp ≠ .notConfigured → s.storeUp = false → Refuses (exec c s) s tag q .storeUnavailable) ∧
            (s.startUp ≠ .notConfigured → s.storeUp = true → Queues (exec c s) s tag q (.account k op)) := by
  refine ⟨fun hor => refuses_owned h hc hp ((ho _).trans ?_), fun k hk hb => ?_⟩
  · rcases hor with ha | hb
    · simp [State.queueAccount, index?_of_le (show 1024 ≤ a from ha)]
    · simp only [State.queueAccount, hbad hb]
      cases index? 1024 a <;> rfl
  · subst hk
    have hown : (s.withRequest tag q).own q = if s.notConfigured then (s.withRequest tag q).refuse .notReady
        else if !s.storeUp then (s.withRequest tag q).refuse .storeUnavailable
        else (s.withRequest tag q).enqueue (.account k op) := by
      simp only [ho, State.queueAccount, index?_val, hgood hb]
      rfl
    refine ⟨fun hn => refuses_owned h hc hp ?_, fun hn hd => refuses_owned h hc hp ?_, fun hn hu => queues_owned h hc hp ?_⟩
    · rw [hown, if_pos (s.notConfigured_iff.mpr hn)]
    · rw [hown, if_neg (mt s.notConfigured_iff.mp hn), hd]; rfl
    · rw [hown, if_neg (mt s.notConfigured_iff.mp hn), hu]; rfl

/-- Settles O35: each request's operands by its judgement, then its owner's refusals. -/
theorem accountRequestsQueue : Obligations.AccountRequestsQueue := by
  intro s tag a h judged
  refine ⟨?read, ?close, fun n => ?credit, fun z => ?adjust, fun o g => ?opened, fun st o g => ?set, fun st z o g v d => ?setAll,
    fun g hg => ⟨fun o => ?_, fun st o => ?_, fun st z o v d => ?_⟩⟩
  case read => exact queueAccount_judged h rfl rfl (fun _ => rfl) False.elim fun _ => rfl
  case close => exact queueAccount_judged h rfl rfl (fun _ => rfl) False.elim fun _ => rfl
  case credit =>
    exact queueAccount_judged h rfl rfl (fun _ => rfl) (fun hbad => if_neg (by omega)) fun hgood => if_pos (by omega)
  case adjust =>
    exact queueAccount_judged h rfl rfl (fun _ => rfl) (fun hbad => if_neg (by omega)) fun hgood => if_pos (by omega)
  case opened =>
    refine queueAccount_judged h rfl rfl (fun _ => rfl) (fun hbad => if_neg (Nat.not_le.mpr hbad)) fun hgood => ?_
    exact (if_pos (Nat.not_lt.mp hgood)).trans (by rw [index?_val]; rfl)
  case set =>
    have hover : (o.any fun n => decide (Config.overdraftMax < n)) = true ↔ ∃ n, o = some n ∧ 10000 < n := by
      cases o with
      | none => simp
      | some n =>
        have hover : decide (Config.overdraftMax < n) = true ↔ 10000 < n := decide_eq_true_iff
        simpa using hover
    have hgroup : g.map Fin.val = none ↔ g = none := Option.map_eq_none_iff
    refine queueAccount_judged h rfl rfl (fun _ => rfl) (fun hbad => ?_) fun hgood => ?_
    · simp only [judgeSetArgs, hgroup, hover]
      rcases hbad with hnothing | hrange
      · exact if_pos hnothing
      · by_cases hnothing : st = none ∧ o = none ∧ g = none
        · exact if_pos hnothing
        · exact (if_neg hnothing).trans (if_pos hrange)
    · obtain ⟨hnothing, hrange⟩ := not_or.mp hgood
      simp only [judgeSetArgs, hgroup, hover, if_neg hnothing, if_neg hrange]
      cases g with
      | none => rfl
      | some g => simp [judgeAny, index?_val]
  case setAll =>
    refine queueAccount_judged h rfl rfl (fun _ => rfl) (fun hbad => if_neg ?_) fun hgood => (if_pos ?_).trans ?_
    · simp only [Config.balanceMin, Config.balanceMax, Config.overdraftMax]
      omega
    · simp only [Config.balanceMin, Config.balanceMax, Config.overdraftMax]
      omega
    · rw [index?_val]; rfl
  · refine (queueAccount_judged (bad := True) (op := .read) h rfl rfl (fun _ => rfl) (fun _ => ?_) (absurd trivial)).1 (.inr trivial)
    rw [judgeOpenArgs, index?_of_le hg]
    split <;> rfl
  · refine (queueAccount_judged (bad := True) (op := .read) h rfl rfl (fun _ => rfl) (fun _ => ?_) (absurd trivial)).1 (.inr trivial)
    simp only [judgeSetArgs, judgeAny, index?_of_le (show 8 ≤ g from hg), Option.map_none, ite_self]
  · refine (queueAccount_judged (bad := True) (op := .read) h rfl rfl (fun _ => rfl) (fun _ => ?_) (absurd trivial)).1 (.inr trivial)
    simp only [judgeSetAllArgs, index?_of_le (show 8 ≤ g from hg), Option.map_none, ite_self]

/-! ## Directory requests and probes -/

/-- The path a request gives for a directory path (10.5). -/
def DirPath.raw : DirPath → RawPath
  | .floor f => ⟨.floor, f.1, 0, 0⟩
  | .flat f n => ⟨.flat, f.1, n.1, 0⟩
  | .card c => ⟨.card, c.floor.1, c.flat.1, c.ordinal.1⟩

theorem judgePath_raw (x : DirPath) : judgePath x.raw = some x := by
  cases x with
  | floor f => simp [DirPath.raw, judgePath, index?]
  | flat f n => simp [DirPath.raw, judgePath, index?]
  | card c => simp [DirPath.raw, judgePath, index?_val]

theorem DirPath.raw_zeroBelow (x : DirPath) : RawPath.zeroBelow x.raw = true := by cases x <;> rfl

/-- A path with a field out of range is refused (R62, R70). -/
theorem judgePath_outOfRange {p : RawPath} (h : 63 < p.floor ∨ (p.level ≠ .floor ∧ 15 < p.flat) ∨ (p.level = .card ∧ 3 < p.ordinal)) :
    judgePath p = none := by
  obtain ⟨level, floor, flat, ordinal⟩ := p
  rcases h with hf | ⟨hl, hn⟩ | ⟨hl, ho⟩
  · simp [judgePath, index?_of_le (show 64 ≤ floor from hf)]
  · cases level <;> simp_all [judgePath, index?_of_le (show 16 ≤ flat from hn)]
  · subst hl
    simp [judgePath, index?_of_le (show 4 ≤ ordinal from ho)]

/-- A path judged at the level CARD. -/
theorem judgePath_card {p : RawPath} {x : DirPath} (h : judgePath p = some x) (hl : p.level = .card) :
    ∃ c : CardPath, x = .card c ∧ c.floor.1 = p.floor ∧ c.flat.1 = p.flat ∧ c.ordinal.1 = p.ordinal := by
  obtain ⟨level, floor, flat, ordinal⟩ := p
  subst hl
  by_cases hf : floor < 64
  · by_cases hn : flat < 16
    · by_cases ho : ordinal < 4
      · simp only [judgePath, index?_of_lt hf, index?_of_lt hn, index?_of_lt ho, Option.some.injEq] at h
        exact ⟨_, h.symm, rfl, rfl, rfl⟩
      · simp [judgePath, index?_of_le (Nat.not_lt.mp ho)] at h
    · simp [judgePath, index?_of_le (Nat.not_lt.mp hn)] at h
  · simp [judgePath, index?_of_le (Nat.not_lt.mp hf)] at h

/-- A path judged at another level. -/
theorem judgePath_notCard {p : RawPath} {x : DirPath} (h : judgePath p = some x) (hl : p.level ≠ .card) (c : CardPath) :
    x ≠ .card c := by
  obtain ⟨level, floor, flat, ordinal⟩ := p
  rintro rfl
  cases level
  case card => exact hl rfl
  case floor => cases hf : index? 64 floor <;> simp [judgePath, hf] at h
  case flat => cases hf : index? 64 floor <;> cases hn : index? 16 flat <;> simp [judgePath, hf, hn] at h

/-! ## Descriptors -/

/-- A request gives, for a descriptor to be written at a path, a descriptor in its level's range (R62, R67). -/
def descriptorGives (d : RawDescriptor) (x : DirPath) (n : NewDescriptor) : Prop :=
  match x, n with
  | .card _, .invalid => d.kind = .invalid
  | .card _, .account a attrs hold => d.kind = .account ∧ d.account = a.1 ∧ d.attributes = attrs ∧ d.hold = hold ∧
      ¬ (attrs.washersOnly = true ∧ attrs.dryersOnly = true)
  | .card c, .indirect t hold => d.kind = .indirect ∧ d.targetFloor = t.floor.1 ∧ d.targetFlat = t.flat.1 ∧
      d.targetOrdinal = t.ordinal.1 ∧ d.hold = hold ∧ t ≠ c
  | .floor _, .table on hold | .flat _ _, .table on hold => d.kind = (if on then .table else .invalid) ∧ d.hold = hold
  | _, _ => False

theorem judgeDescriptor_gives {d : RawDescriptor} {x : DirPath} {n : NewDescriptor} (h : descriptorGives d x n) :
    judgeDescriptor d x = some n := by
  cases x with
  | card c =>
    cases n with
    | invalid => simp [judgeDescriptor, show d.kind = .invalid from h]
    | account a attrs hold =>
      obtain ⟨hkind, haccount, rfl, rfl, hboth⟩ := h
      simp [judgeDescriptor, hkind, haccount, index?_val, hboth]
    | indirect t hold =>
      obtain ⟨hkind, hfloor, hflat, hordinal, rfl, hne⟩ := h
      simp [judgeDescriptor, judgeTarget, hkind, hfloor, hflat, hordinal, index?_val, hne]
    | table on hold => exact h.elim
  | floor f =>
    cases n with
    | table on hold =>
      obtain ⟨hkind, rfl⟩ := h
      cases on <;> simp [judgeDescriptor, hkind]
    | invalid | account a attrs hold | indirect t hold => exact h.elim
  | flat f k =>
    cases n with
    | table on hold =>
      obtain ⟨hkind, rfl⟩ := h
      cases on <;> simp [judgeDescriptor, hkind]
    | invalid | account a attrs hold | indirect t hold => exact h.elim

/-- What R62 refuses of a card-level descriptor at the path `p`. -/
def descriptorOutOfRange (d : RawDescriptor) (p : RawPath) : Prop :=
  d.kind = .table ∨ (d.kind = .account ∧ (1023 < d.account ∨
    (d.attributes.washersOnly = true ∧ d.attributes.dryersOnly = true))) ∨
    (d.kind = .indirect ∧ (63 < d.targetFloor ∨ 15 < d.targetFlat ∨ 3 < d.targetOrdinal ∨
      (d.targetFloor = p.floor ∧ d.targetFlat = p.flat ∧ d.targetOrdinal = p.ordinal)))

theorem judgeTarget_outOfRange {d : RawDescriptor} {c : CardPath} (h : 63 < d.targetFloor ∨ 15 < d.targetFlat ∨
    3 < d.targetOrdinal ∨ (d.targetFloor = c.floor.1 ∧ d.targetFlat = c.flat.1 ∧ d.targetOrdinal = c.ordinal.1)) :
    judgeTarget d c = none := by
  rcases h with hf | hn | ho | ⟨hf, hn, ho⟩
  · simp [judgeTarget, index?_of_le (show 64 ≤ _ from hf)]
  · simp [judgeTarget, index?_of_le (show 16 ≤ _ from hn)]
  · simp [judgeTarget, index?_of_le (show 4 ≤ _ from ho)]
  · simp [judgeTarget, hf, hn, ho, index?_val]

theorem judgeDescriptor_card_outOfRange {d : RawDescriptor} {p : RawPath} {c : CardPath} (hf : c.floor.1 = p.floor)
    (hn : c.flat.1 = p.flat) (ho : c.ordinal.1 = p.ordinal) (h : descriptorOutOfRange d p) : judgeDescriptor d (.card c) = none := by
  rcases h with hkind | ⟨hkind, hrange | ⟨hw, hd⟩⟩ | ⟨hkind, hrange⟩
  · simp [judgeDescriptor, hkind]
  · simp [judgeDescriptor, hkind, index?_of_le (show 1024 ≤ _ from hrange)]
  · simp [judgeDescriptor, hkind, hw, hd]
  · rw [← hf, ← hn, ← ho] at hrange
    simp [judgeDescriptor, hkind, judgeTarget_outOfRange hrange]

theorem judgeDescriptor_notCard {d : RawDescriptor} {x : DirPath} (hx : ∀ c, x ≠ .card c)
    (h : d.kind = .account ∨ d.kind = .indirect) : judgeDescriptor d x = none := by
  cases x with
  | card c => exact absurd rfl (hx c)
  | floor f => rcases h with h | h <;> simp [judgeDescriptor, h]
  | flat f n => rcases h with h | h <;> simp [judgeDescriptor, h]

/-- A directory request whose operands pass: refused for the store, then for the part, and otherwise queued (R62, R70). -/
theorem queueDirectory_judged {c : Instr} {s : State} {tag : Byte} {q : Request} {p : PayRequest} (h : s.Takes)
    (hc : c.request? = some (tag, q)) (hp : Request.passes q = true) (ho : ∀ u : State, u.own q = u.queueDirectory p) :
    (s.storeUp = false → Refuses (exec c s) s tag q .storeUnavailable) ∧
      (s.storeUp = true → s.startUp = .notConfigured → Refuses (exec c s) s tag q .notReady) ∧
        (s.storeUp = true → s.startUp ≠ .notConfigured → Queues (exec c s) s tag q p) := by
  have hown : (s.withRequest tag q).own q = if !s.storeUp then (s.withRequest tag q).refuse .storeUnavailable
      else if s.notConfigured then (s.withRequest tag q).refuse .notReady else (s.withRequest tag q).enqueue p := ho _
  refine ⟨fun hd => refuses_owned h hc hp ?_, fun hu hn => refuses_owned h hc hp ?_, fun hu hn => queues_owned h hc hp ?_⟩
  · rw [hown, hd]; rfl
  · rw [hown, hu, s.notConfigured_iff.mpr hn]; rfl
  · rw [hown, hu, if_neg (mt s.notConfigured_iff.mp hn)]; rfl

/-- Settles O34: operands by the judgements of path and descriptor, then the owner's refusals. -/
theorem directoryRequestsQueue : Obligations.DirectoryRequestsQueue := by
  intro s tag h
  refine ⟨fun card cls => ?probe, fun x w => ?good, fun p hrange hp => ⟨?read, fun d => ?write⟩, fun p d hp hbad => ?descriptor⟩
  case probe =>
    have hown : (s.withRequest tag (.cardProbe card cls)).own (.cardProbe card cls) =
        if s.notConfigured then (s.withRequest tag (.cardProbe card cls)).refuse .notReady
        else (s.withRequest tag (.cardProbe card cls)).enqueue (.probe card cls) := rfl
    refine ⟨fun hn => refuses_owned h rfl rfl ?_, fun hn => queues_owned h rfl rfl ?_⟩
    · rw [hown, if_pos (s.notConfigured_iff.mpr hn)]
    · rw [hown, if_neg (mt s.notConfigured_iff.mp hn)]
  case good =>
    intro p q c hgives
    have hp : p = x.raw := by cases x <;> rfl
    cases w with
    | none =>
      refine queueDirectory_judged h rfl ?_ fun u => ?_
      · exact (congrArg RawPath.zeroBelow hp).trans x.raw_zeroBelow
      · simp only [q, State.own, State.directoryRead, hp, judgePath_raw, Option.map_none]
    | some d =>
      have hgives : descriptorGives d.1 x d.2 := hgives d rfl
      refine queueDirectory_judged h rfl ?_ fun u => ?_
      · exact (congrArg RawPath.zeroBelow hp).trans x.raw_zeroBelow
      · simp only [q, State.own, State.directoryWrite, hp, judgePath_raw, judgeDescriptor_gives hgives, Option.map_some]
  case read => exact refuses_owned h rfl hp (by simp only [State.own, State.directoryRead, judgePath_outOfRange hrange])
  case write => exact refuses_owned h rfl hp (by simp only [State.own, State.directoryWrite, judgePath_outOfRange hrange])
  case descriptor =>
    refine refuses_owned h rfl hp ?_
    cases hx : judgePath p with
    | none => simp only [State.own, State.directoryWrite, hx]
    | some x =>
      have hnone : judgeDescriptor d x = none := by
        rcases hbad with ⟨hl, hrange⟩ | ⟨hl, hkind⟩
        · obtain ⟨c, rfl, hf, hn, ho⟩ := judgePath_card hx hl
          exact judgeDescriptor_card_outOfRange hf hn ho hrange
        · exact judgeDescriptor_notCard (judgePath_notCard hx hl) hkind
      simp only [State.own, State.directoryWrite, hx, hnone]

end Sys2Proof.Machine
end

section
/-! SUPPORT. The requests that report what is in force (CONFIG_GET, BUDGET_QUERY, FAULT_READ), the fault log's marks and lock, and
CONFIG_SAVE (11.1, 7.7, 8.1, 8.3). -/
namespace Sys2Proof.Machine

/-! ## CONFIG_GET -/

/-- CONFIG_GET of a code and index that name an item in every state. -/
theorem configGet_answers {s : State} {tag : Byte} {code index : Nat} (item : State → ConfigItem) (h : s.Takes)
    (hi : ∀ u : State, u.item? code index = some (item u)) :
    Replies (exec (.configGet tag code index) s) s tag (.configGet code index) .ok
      (itemBytes (item (s.withRequest tag (.configGet code index)))) [] fun _ => True := by
  refine Replies.of_own h rfl (by simp only [Request.passes, hi, Option.isSome_some]) ?_
  simp only [State.own, State.configGet, hi]

/-- CONFIG_GET of a code and index that name no item. -/
theorem configGet_refused {s : State} {tag : Byte} {code index : Nat} (h : s.Takes) (hi : ∀ u : State, u.item? code index = none) :
    Refuses (exec (.configGet tag code index) s) s tag (.configGet code index) .badArgument :=
  refuses_unindexed h rfl (by simp only [Request.passes, hi, Option.isSome_none])

/-- The codes and indexes R204 refuses. -/
def itemUnnamed (code index : Nat) : Prop :=
  code < 1 ∨ 18 < code ∨ (code ∉ [2, 3, 4, 5, 6, 14] ∧ index ≠ 0) ∨ (code ∈ [2, 5, 14] ∧ 3 < index) ∨
    (code = 3 ∧ 63 < index) ∨ (code = 6 ∧ 7 < index) ∨ (code = 4 ∧ 7 < index ∧ (index < 128 ∨ 135 < index))

theorem State.programmeItem_none (s : State) {index : Nat} (h : 7 < index ∧ (index < 128 ∨ 135 < index)) :
    s.programmeItem index = none := by
  obtain ⟨hlow, hrange⟩ := h
  by_cases hw : index < 128
  · rw [State.programmeItem, if_pos hw, index?_of_le (show 8 ≤ index from hlow)]
    rfl
  · rw [State.programmeItem, if_neg hw, index?_of_le (show 8 ≤ index - 128 by omega)]
    rfl

/-- An index out of range at one of the codes with a table. -/
theorem itemUnnamed_indexed {n index : Nat} {α : Type} (f : Fin n → α) (h : n ≤ index) : (index? n index).map f = none := by
  rw [index?_of_le h]
  rfl

/-- Past the six tables, and at an index other than 0, no code names an item. -/
theorem State.item?_single_none (s : State) {code index : Nat} (hcode : code ∉ [2, 3, 4, 5, 6, 14]) (hindex : index ≠ 0) :
    s.item? code index = none := by
  unfold State.item?
  split
  case h_7 => exact if_pos hindex
  all_goals exact absurd (by decide) hcode

theorem State.item?_zero (s : State) (index : Nat) : s.item? 0 index = none := ite_self none

theorem State.item?_above (s : State) (k index : Nat) : s.item? (k + 19) index = none := ite_self none

theorem State.item?_none (s : State) {code index : Nat} (h : itemUnnamed code index) : s.item? code index = none := by
  rcases h with hlow | hhigh | ⟨hcode, hindex⟩ | ⟨hcode, hindex⟩ | ⟨rfl, hindex⟩ | ⟨rfl, hindex⟩ | ⟨rfl, hindex⟩
  · obtain rfl := Nat.lt_one_iff.mp hlow
    exact s.item?_zero index
  · obtain ⟨k, rfl⟩ := Nat.exists_eq_add_of_le' hhigh
    exact s.item?_above k index
  · exact s.item?_single_none hcode hindex
  · simp only [List.mem_cons, List.not_mem_nil, or_false] at hcode
    obtain rfl | rfl | rfl := hcode <;> exact itemUnnamed_indexed _ hindex
  · exact itemUnnamed_indexed _ hindex
  · exact itemUnnamed_indexed _ hindex
  · exact s.programmeItem_none hindex

/-- Settles O26: each item by its code and index, and the codes and indexes that name none. -/
theorem configGetAnswersItem : Obligations.ConfigGetAnswersItem := by
  intro s tag h gets
  refine ⟨?_, fun r => ?_, fun m => ?_, fun p => ?_, fun p => ?_, fun b => ?_, fun g => ?_, ?_, ?_, ?_, ?_, ?_, ?_, ?_, fun n => ?_,
    ?_, ?_, ?_, ?_, fun code index hbad => configGet_refused h fun u => u.item?_none hbad⟩
  · exact configGet_answers (fun u => .site u.directory.site) h fun _ => rfl
  · exact configGet_answers (fun u => u.roomItem r) h fun u => by rw [State.item?, index?_val]; rfl
  · exact configGet_answers (fun u => u.machineItem m) h fun u => by rw [State.item?, index?_val]; rfl
  · exact configGet_answers (fun u => let x := look u.tariff.washers p
      .programme (.washer p.1 x.price x.duration x.heat)) h fun u => by
        rw [State.item?, State.programmeItem, if_pos (by omega), index?_val]; rfl
  · exact configGet_answers (fun u => let x := look u.tariff.dryers p
      .programme (.dryer p.1 x.price x.length x.maximum x.heat)) h fun u => by
        rw [State.item?, State.programmeItem, if_neg (by omega), Nat.add_sub_cancel_left, index?_val]; rfl
  · exact configGet_answers (fun u => .band b.1 (look u.tariff.bands b).start (look u.tariff.bands b).factor) h fun u => by
      rw [State.item?, index?_val]; rfl
  · exact configGet_answers (fun u => .tariffGroup g.1 (look u.tariff.discounts g)) h fun u => by
      rw [State.item?, index?_val]; rfl
  · exact configGet_answers (fun u => .surcharge u.tariff.surcharge) h fun _ => rfl
  · exact configGet_answers (fun u => .cap u.tariff.cap) h fun _ => rfl
  · exact configGet_answers (fun u => .grace u.tariff.grace) h fun _ => rfl
  · exact configGet_answers (fun u => .pause u.tariff.allowance u.tariff.credit) h fun _ => rfl
  · exact configGet_answers (fun u => .arm u.engine.armSeconds) h fun _ => rfl
  · exact configGet_answers (fun u => .overrun u.engine.overrunMinutes) h fun _ => rfl
  · exact configGet_answers (fun u => .nodeGrace u.engine.graceMinutes) h fun _ => rfl
  · exact configGet_answers (fun u => .window n.1 (look u.directory.windows n).item) h fun u => by
      rw [State.item?, index?_val]; rfl
  · exact configGet_answers
      (fun u => .cache ⟨u.cache.mask, u.cache.replacement, u.cache.sweepBurst, u.cache.lookupBurst⟩) h fun _ => rfl
  · exact configGet_answers (fun u => .grant u.feeder.mode u.feeder.limit u.feeder.high u.feeder.low) h fun _ => rfl
  · exact configGet_answers (fun u => .lamp u.lamps) h fun _ => rfl
  · exact configGet_answers (fun u => .noticeMask u.host.mask) h fun _ => rfl

/-! ## The fault log -/

theorem kept_supervisor (s : State) (tag : Byte) (q : Request) (v : Supervisor) :
    Kept [.host, .supervisor] s { s.withRequest tag q with supervisor := v } := by
  refine ⟨rfl, fun b hb => ?_⟩
  cases b
  case host | supervisor => simp at hb
  all_goals rfl

/-- A request that is accepted with the fault supervisor given a new value. -/
theorem accepts_supervisor {c : Instr} {s : State} {tag : Byte} {q : Request} {new : Supervisor} (h : s.Takes)
    (hc : c.request? = some (tag, q)) (hp : Request.passes q = true)
    (ho : (s.withRequest tag q).own q = ({ s.withRequest tag q with supervisor := new }).accept) :
    Replies (exec c s) s tag q .ok [] [.supervisor] fun t => t.supervisor = new :=
  replies_owned h hc hp ho rfl (h.1.2.of_store rfl) (kept_supervisor _ _ _ _) fun _ ht =>
    ht.supervisor.trans (State.reply_supervisor _ _ _)

/-- Settles O43: each request at its owner, FAULT_ACK by whether the log holds the number. -/
theorem faultLogIsServed : Obligations.FaultLogIsServed := by
  refine ⟨fun s tag start count h => ⟨fun hbad => ?_, fun hlow hhigh => ?_⟩, fun s tag h => ⟨fun n hnone => ?_, fun n hsome => ?_, ?_⟩⟩
  · exact refuses_owned h rfl rfl (if_pos hbad)
  · exact Replies.of_own h rfl rfl (if_neg (by omega))
  · have hrecord : s.supervisor.record? n = none := by
      simpa [Supervisor.record?] using hnone
    exact refuses_owned h rfl rfl (by simp only [State.own, State.faultAck, State.withRequest, hrecord])
  · obtain ⟨r, hr, hn⟩ := hsome
    obtain ⟨x, hrecord⟩ : ∃ x, s.supervisor.record? n = some x :=
      Option.isSome_iff_exists.mp (List.find?_isSome.mpr ⟨r, hr, by simp [hn]⟩)
    exact accepts_supervisor h rfl rfl (by simp only [State.own, State.faultAck, State.withRequest, hrecord]; rfl)
  · exact accepts_supervisor h rfl rfl rfl

/-! ## CONFIG_SAVE -/

theorem State.Concludes.storeFrom {u t : State} (h : u.Concludes t) : t.StoreFrom u.store :=
  h.store.trans (State.issueOwn_store _ _ rfl h.engine.symm h.scan.symm)

theorem kept_saving (s : State) (tag : Byte) (p : StorePort) :
    Kept [.host, .store] s { s.withRequest tag .configSave with store := p } := by
  refine ⟨rfl, fun b hb => ?_⟩
  cases b
  case host | store => simp at hb
  all_goals rfl

theorem kept_storePort (s : State) (p : StorePort) (f : Fram) : Kept [.store, .fram] s { s with store := p, fram := f } := by
  refine ⟨rfl, fun b hb => ?_⟩
  cases b
  case store | fram => simp at hb
  all_goals rfl

theorem kept_storePort_host (s : State) (p : StorePort) (f : Fram) (h : HostLink) :
    Kept [.store, .fram, .host] s { s with store := p, fram := f, host := h } := by
  refine ⟨rfl, fun b hb => ?_⟩
  cases b
  case store | fram | host => simp at hb
  all_goals rfl

/-- The store port once the write of segment `k` of a copy is issued (R206). -/
def StorePort.saves (p : StorePort) (b : ConfigBlock) (k : Fin 4) : StorePort :=
  { p with saving := some ⟨b, k⟩, queue := p.queue ++ [⟨.configWriter, b.access k⟩] }

theorem State.saveSegment_eq (s : State) (b : ConfigBlock) (k : Fin 4) :
    s.saveSegment b k = { s with store := s.store.saves b k } := rfl

/-- A store event of an issuer at the queue's head, the transaction carried out (R178, R179). -/
theorem State.ownEvent_head {s : State} {i : Issuer} {a : Access} {rest : List Transaction} {due : Issuer → Bool}
    (f : Issuer → Result → State → State) (hup : s.storeUp = true) (hq : s.store.queue = ⟨i, a⟩ :: rest) (hi : due i = true) :
    s.ownEvent due f = f i (s.fram.perform a).1
      { s with store := { s.store with queue := rest }, fram := (s.fram.perform a).2 } := by
  simp only [State.ownEvent, hq, hup, hi, Bool.and_self, if_true]
  rfl

/-- The access of a segment after the first. -/
theorem ConfigBlock.access_after (b : ConfigBlock) {k : Fin 4} (h : k ≠ 0) : b.access k =
    if k = 1 then .writeTwo b.two else if k = 2 then .writeThree b.three else .writeFour b.four := if_neg h

/-- Settles O27: the copy by its definition, each completed write by the segment it is of. -/
theorem saveWritesFourSegments : Obligations.SaveWritesFourSegments := by
  refine fun s tag => ⟨fun h hdown => ?refused, fun h hup => ?begun, fun a rest v hr hup hq hv => ?written⟩
  case refused =>
    refine refuses_owned h rfl rfl ?_
    exact if_neg (by rw [show (s.withRequest tag .configSave).storeUp = false from hdown]; decide)
  case begun =>
    have heffect : effect (.configSave tag) s =
        { s.withRequest tag .configSave with store := s.store.saves s.configBlock 0 } :=
      (effect_request s rfl).trans ((s.request_owner tag .configSave h rfl).trans (if_pos hup))
    refine leads_of_effect (isEvent_of_request rfl) h.1 heffect (kept_saving s tag _) (.inl hup) fun t ht =>
      ⟨ht.host, rfl, fun r => ?_, fun m => ?_, rfl, rfl, rfl, ht.storeFrom⟩
    · simp [look, State.configBlock]
    · simp [look, State.configBlock]
  case written =>
    have hhead := State.ownEvent_head (due := (· == .configWriter)) (fun _ _ t => t.segmentDone) hup hq rfl
    refine ⟨fun k hk => ?_, fun hlast f hf => ?_⟩
    · have hne : k ≠ 0 := fun h => by simp [h] at hk
      have hnext : next v.segment = k := by
        have hlt : v.segment.1 + 1 < 4 := by omega
        exact Fin.ext (by simp [next, hlt, hk])
      have hsegment : v.segment ≠ 3 := fun h => by simp [h] at hk; omega
      have heffect : effect .configSegmentWriteDone s =
          { s with store := ({ s.store with queue := rest } : StorePort).saves v.block k, fram := (s.fram.perform a).2 } := by
        refine hhead.trans ?_
        simp only [State.segmentDone, hv, if_neg hsegment, hnext]
        rfl
      refine leads_of_effect ⟨nofun, nofun⟩ hr heffect (kept_storePort s _ _) (.inl hup) fun t ht => ⟨ht.fram, ?_⟩
      have hfrom := ht.storeFrom
      simpa only [StorePort.saves, v.block.access_after hne] using hfrom
    · have heffect : effect .configSegmentWriteDone s =
          { s with store := { s.store with queue := rest, saving := none }, fram := (s.fram.perform a).2
                   host := s.host.answering f .ok [] } := by
        refine hhead.trans ?_
        simp only [State.segmentDone, hv, if_pos hlast]
        exact State.reply_eq _ f _ _ hf
      exact leads_of_effect ⟨nofun, nofun⟩ hr heffect (kept_storePort_host s _ _ _) (.inl hup) fun t ht =>
        ⟨ht.fram, ht.host, ht.storeFrom⟩

/-! ## BUDGET_QUERY -/

theorem kept_minutes (s : State) (tag : Byte) (q : Request) (f : Feeder) (n : Nat) :
    Kept [.host, .free, .feeder] s { s.withRequest tag q with feeder := f, freeIndex := n } := by
  refine ⟨rfl, fun b hb => ?_⟩
  cases b
  case host | free | feeder => simp at hb
  all_goals rfl

theorem demandLimit_eq (d : Option Demand) : (d.map Demand.limit).getD 0 = match d with | some d => d.limit | none => 0 := by
  cases d <;> rfl

/-- A room's block, field by field (10.6). -/
theorem State.roomBytes_eq (s : State) : s.roomBytes = fun r => let x := look s.feeder.rooms r
    [u16 x.capacity, u16 (s.feeder.granted r), u8 x.turn.code, u8 x.grants.length, u8 x.newQueue.length,
      u8 x.resumeQueue.length].flatten := by
  funext r
  simp [State.roomBytes]

/-- A grant's entry, field by field, its class in the load's bit 7 (10.6). -/
theorem State.grantBytes_eq (s : State) : s.grantBytes = fun c => [u8 c.machine.1,
    u8 (c.load + if (s.machine c.machine).cls = .dryer then 128 else 0), u8 (s.feeder.order.idxOf c.machine + 1)].flatten := by
  funext c
  cases h : (s.machine c.machine).cls <;> simp [State.grantBytes, h, MachineClass.code]

/-- A queue's entry, field by field (10.6). -/
theorem claimBytes_eq : claimBytes = fun c => u8 c.machine.1 ++ u8 c.load := rfl

/-- Settles O42: the results' bytes by their layout, and the minutes kept where a limit is active. -/
theorem budgetQueryReports : Obligations.BudgetQueryReports := by
  intro s tag h f minutes
  have hminutes : (s.withRequest tag .budgetQuery).minutesLeft = minutes := by
    simp only [State.minutesLeft, State.withRequest, minutes, f]
    cases s.feeder.demand <;> rfl
  have hown : (s.withRequest tag .budgetQuery).own .budgetQuery = (s.withRequest tag .budgetQuery).keepMinutes.reply .ok
      (s.withRequest tag .budgetQuery).budgetBytes := rfl
  refine (congrArg (Replies _ s tag .budgetQuery .ok · _ _) (a₂ := (s.withRequest tag .budgetQuery).budgetBytes) ?_).mpr ?_
  · have hfeeder : (s.withRequest tag .budgetQuery).feeder = f := rfl
    have hmachine : (s.withRequest tag .budgetQuery).machine = s.machine := rfl
    simp only [State.budgetBytes, hminutes, State.roomBytes_eq, State.grantBytes_eq, claimBytes_eq, demandLimit_eq, hfeeder, hmachine,
      List.flatten_cons, List.flatten_nil, List.append_nil, List.append_assoc, List.flatMap_map] <;> rfl
  · cases hd : f.demand with
    | none =>
      have hkeep : (s.withRequest tag .budgetQuery).keepMinutes = s.withRequest tag .budgetQuery := by
        simp only [State.keepMinutes, State.withRequest, show s.feeder.demand = none from hd]
      refine replies_owned h rfl rfl hown (by rw [hkeep]; rfl) (by rw [hkeep]; exact h.1.2) ?_ fun t ht => ?_
      · rw [hkeep]
        exact kept_host s _
      · rw [ht.feeder, hkeep, State.reply_feeder, Option.map_none, ← hd]
        rfl
    | some d =>
      have hkeep : (s.withRequest tag .budgetQuery).keepMinutes =
          { s.withRequest tag .budgetQuery with
            feeder := { s.feeder with demand := some { d with left := minutes } }, freeIndex := s.freeIndex + 1 } := by
        simp only [State.keepMinutes, hminutes]
        simp only [State.withRequest, show s.feeder.demand = some d from hd]
        rfl
      refine replies_owned h rfl rfl hown (by rw [hkeep]; rfl) (by rw [hkeep]; exact h.1.2) ?_ fun t ht => ?_
      · rw [hkeep, if_neg nofun]
        exact kept_minutes s tag _ _ _
      · rw [ht.feeder, hkeep, State.reply_feeder]
        rfl

end Sys2Proof.Machine
end

section
/-! SUPPORT. One machine's record and its node's link as the operations on that machine leave them, and the requests that do no more
than such operations (R1, R3, R34, R37, R43 to R45, R171). -/
namespace Sys2Proof.Machine

/-! ## One machine's record and link -/

/-- The state with machine `m`'s record and its node's link replaced. -/
def State.placed (s : State) (m : MachineNo) (r : MachineRecord) (l : Link) : State :=
  { s with
    engine := { s.engine with machines := s.engine.machines.set m.1 r }
    line := { s.line with links := s.line.links.set m.1 l } }

section
variable (s : State) (m : MachineNo) (r : MachineRecord) (l : Link)

@[simp] theorem State.placed_machine : (s.placed m r l).machine m = r := look_set_self _ _ _
@[simp] theorem State.placed_link : (s.placed m r l).link m = l := look_set_self _ _ _
theorem State.placed_machine_other {k : MachineNo} (h : k ≠ m) : (s.placed m r l).machine k = s.machine k := look_set_other _ _ h
theorem State.placed_link_other {k : MachineNo} (h : k ≠ m) : (s.placed m r l).link k = s.link k := look_set_other _ _ h
@[simp] theorem State.placed_session : (s.placed m r l).session m = r.session := congrArg MachineRecord.session (s.placed_machine m r l)
@[simp] theorem State.placed_startUp : (s.placed m r l).startUp = s.startUp := rfl
@[simp] theorem State.placed_clock : (s.placed m r l).clock = s.clock := rfl
@[simp] theorem State.placed_host : (s.placed m r l).host = s.host := rfl
@[simp] theorem State.placed_payment : (s.placed m r l).payment = s.payment := rfl
@[simp] theorem State.placed_tariff : (s.placed m r l).tariff = s.tariff := rfl
@[simp] theorem State.placed_feeder : (s.placed m r l).feeder = s.feeder := rfl
@[simp] theorem State.placed_supervisor : (s.placed m r l).supervisor = s.supervisor := rfl
@[simp] theorem State.placed_guard (k : RoomNo) : (s.placed m r l).guard k = s.guard k := rfl
@[simp] theorem State.placed_lamps : (s.placed m r l).lamps = s.lamps := rfl
@[simp] theorem State.placed_store : (s.placed m r l).store = s.store := rfl

@[simp] theorem State.placed_placed (r' : MachineRecord) (l' : Link) : (s.placed m r l).placed m r' l' = s.placed m r' l' := by
  simp [State.placed]

theorem State.placed_self : s.placed m (s.machine m) (s.link m) = s := by
  simp [State.placed, State.machine, State.link, look]

theorem State.placed_line_self : (s.placed m r (s.link m)).line = s.line := by
  simp [State.placed, State.link, look]

end

theorem State.modMachine_eq (s : State) (m : MachineNo) (f : MachineRecord → MachineRecord) :
    s.modMachine m f = s.placed m (f (s.machine m)) (s.link m) := by
  simp [State.modMachine, State.placed, update, State.machine, State.link, look]

theorem State.modLink_eq (s : State) (m : MachineNo) (f : Link → Link) :
    s.modLink m f = s.placed m (s.machine m) (f (s.link m)) := by
  simp [State.modLink, State.placed, update, State.machine, State.link, look]

/-! ## Commands and lamps -/

/-- A node's link with a command queued, unless it is DISABLED (R34). -/
def Link.sent (l : Link) (c : NodeCommand) : Link := if l.state = .disabled then l else { l with table := l.table.put c }

@[simp] theorem Link.sent_state (l : Link) (c : NodeCommand) : (l.sent c).state = l.state := by
  unfold Link.sent
  split <;> rfl

theorem Link.sent_of_ne {l : Link} (h : l.state ≠ .disabled) (c : NodeCommand) : l.sent c = { l with table := l.table.put c } :=
  if_neg h

theorem State.send_eq (s : State) (m : MachineNo) (c : NodeCommand) :
    s.send m c = s.placed m (s.machine m) ((s.link m).sent c) := by
  unfold State.send Link.sent
  split
  · exact (s.placed_self m).symm
  · exact s.modLink_eq m _

/-- The LAMP that recomputing a machine's source queues, from its record, its link and its room (R43, R45). -/
def lampQueued (k : LampMap) (closed : Bool) (r : MachineRecord) (l : Link) : Option Lamp :=
  match lampSource r closed with
  | some x => if l.state = .disabled ∨ lampFor k x = r.lampSent then none else some (lampFor k x)
  | none => none

theorem State.newLamp_eq (s : State) (m : MachineNo) (closed : Bool) :
    s.newLamp m closed = lampQueued s.lamps closed (s.machine m) (s.link m) := rfl

theorem lampQueued_disabled (k : LampMap) (closed : Bool) (r : MachineRecord) {l : Link} (h : l.state = .disabled) :
    lampQueued k closed r l = none := by
  unfold lampQueued
  split
  · exact if_pos (.inl h)
  · rfl

/-- A machine record whose node has been sent a lamp, if one was queued. -/
def MachineRecord.shown (r : MachineRecord) (new : Option Lamp) : MachineRecord := { r with lampSent := new.getD r.lampSent }

/-- A node's link with a lamp queued, if one was. -/
def Link.shown (l : Link) (new : Option Lamp) : Link := { l with table := { l.table with lamp := new <|> l.table.lamp } }

@[simp] theorem MachineRecord.shown_none (r : MachineRecord) : r.shown none = r := rfl
@[simp] theorem Link.shown_none (l : Link) : l.shown none = l := rfl
@[simp] theorem Link.shown_state (l : Link) (new : Option Lamp) : (l.shown new).state = l.state := rfl
theorem MachineRecord.shown_eq (r : MachineRecord) (new : Option Lamp) : r.shown new = { r with lampSent := (r.shown new).lampSent } := rfl
@[simp] theorem MachineRecord.shown_butHeat (r : MachineRecord) (new : Option Lamp) : (r.shown new).butHeat = r.butHeat := rfl
@[simp] theorem Link.shown_butHeat (l : Link) (new : Option Lamp) : (l.shown new).butHeat = l.butHeat := rfl

theorem State.relamp_eq (s : State) (m : MachineNo) :
    s.relamp m = s.placed m ((s.machine m).shown (s.newLamp m (s.guard (s.machine m).room).closed))
      ((s.link m).shown (s.newLamp m (s.guard (s.machine m).room).closed)) := by
  unfold State.relamp State.computedLamp State.newLamp
  cases lampSource (s.machine m) (s.guard (s.machine m).room).closed with
  | none => exact (s.placed_self m).symm
  | some x =>
    simp only [Option.map_some]
    by_cases hl : (s.link m).state = .disabled
    · simp [hl, State.sendLamp, s.placed_self m]
    · by_cases hx : lampFor s.lamps x = (s.machine m).lampSent
      · simp [hx, s.placed_self m]
      · simp [hl, hx, State.sendLamp, State.modMachine_eq, State.send_eq, Link.sent, CommandTable.put, MachineRecord.shown, Link.shown]

/-! ## Entering a state -/

/-- A machine record in a state. -/
def MachineRecord.inState (r : MachineRecord) (st : MachineState) : MachineRecord := { r with state := st }

@[simp] theorem MachineRecord.inState_room (r : MachineRecord) (st : MachineState) : (r.inState st).room = r.room := rfl

theorem State.anyRecovering_iff (s : State) : s.anyRecovering = true ↔ ∃ k, (s.machine k).state = .recovering := by
  simp [State.anyRecovering, indexes]

/-- Nothing of the start-up state changes while another machine is RECOVERING (R209). -/
theorem State.OtherRecovering.endRecovering {s : State} {m : MachineNo} (h : s.OtherRecovering m) : s.endRecovering = s := by
  unfold State.endRecovering
  refine if_neg fun hc => ?_
  rw [Bool.and_eq_true, Bool.not_eq_true', decide_eq_true_eq] at hc
  obtain ⟨hstart, hnone⟩ := hc
  obtain ⟨k, -, hk⟩ := h hstart
  exact absurd (s.anyRecovering_iff.mpr ⟨k, hk⟩) (by simp [hnone])

theorem State.OtherRecovering.placed {s : State} {m : MachineNo} (h : s.OtherRecovering m) (r : MachineRecord) (l : Link) :
    (s.placed m r l).OtherRecovering m := fun hstart => by
  obtain ⟨k, hne, hk⟩ := h hstart
  exact ⟨k, hne, by rw [s.placed_machine_other m r l hne]; exact hk⟩

/-- The LAMP that machine `m`'s entry into a state queues. -/
def State.lampEntering (s : State) (m : MachineNo) (st : MachineState) : Option Lamp :=
  lampQueued s.lamps (s.guard (s.machine m).room).closed ((s.machine m).inState st) (s.link m)

theorem State.enter_eq {s : State} {m : MachineNo} (h : s.OtherRecovering m) (st : MachineState) :
    s.enter m st = s.placed m (((s.machine m).inState st).shown (s.lampEntering m st)) ((s.link m).shown (s.lampEntering m st)) := by
  unfold State.enter
  rw [State.modMachine_eq, State.relamp_eq, State.newLamp_eq]
  simp only [State.placed_machine, State.placed_link, State.placed_lamps, State.placed_guard, State.placed_placed]
  exact (h.placed _ _).endRecovering

/-- Under a DISABLED link the lamp stays as it is (log entry 58). -/
theorem State.enter_disabled {s : State} {m : MachineNo} (h : s.OtherRecovering m) (hl : (s.link m).state = .disabled)
    (st : MachineState) : s.enter m st = s.placed m ((s.machine m).inState st) (s.link m) := by
  rw [State.enter_eq h, State.lampEntering, lampQueued_disabled _ _ _ hl]
  rfl

/-! ## The line's next exchange -/

/-- A link as the line's next exchange leaves it: a slow exchange starts its slow timer (R33, R41). -/
theorem LineController.begin_link_cases (c : LineController) (m : MachineNo) : look c.begin.links m = look c.links m ∨
    ((look c.links m).slowDue = true ∧ look c.begin.links m = { look c.links m with slow := .running }) := by
  unfold LineController.begin
  split
  · exact .inl rfl
  · split
    · exact .inl rfl
    · next k _ =>
      by_cases hk : k = m
      · subst hk
        by_cases hdue : (look c.links k).slowDue = true
        · exact .inr ⟨hdue, (State.look_update_self _ _ _).trans (if_pos hdue)⟩
        · exact .inl ((State.look_update_self _ _ _).trans (if_neg hdue))
      · exact .inl (State.look_update_other _ _ _ _ hk)

theorem LineController.begin_link_of_not_due {c : LineController} {m : MachineNo} (h : (look c.links m).slowDue = false) :
    look c.begin.links m = look c.links m :=
  (c.begin_link_cases m).resolve_right fun ⟨hdue, _⟩ => absurd (h.symm.trans hdue) (by decide)

/-- The next exchange leaves every table and every link state (R41). -/
theorem LineController.begin_table (c : LineController) (m : MachineNo) : (look c.begin.links m).table = (look c.links m).table := by
  rcases c.begin_link_cases m with h | ⟨-, h⟩ <;> rw [h]

theorem LineController.begin_state (c : LineController) (m : MachineNo) : (look c.begin.links m).state = (look c.links m).state := by
  rcases c.begin_link_cases m with h | ⟨-, h⟩ <;> rw [h]

/-! ## Requests that name a machine -/

/-- A request whose machine number is above 63 (log entry 19). -/
theorem refuses_machine {c : Instr} {s : State} {tag : Byte} {q : Request} {n : Nat} {f : State → MachineNo → State} (h : s.Takes)
    (hc : c.request? = some (tag, q)) (hp : Request.passes q = true) (ho : ∀ u : State, u.own q = u.withMachine n (f u)) (hn : 63 < n) :
    Refuses (exec c s) s tag q .badArgument := by
  refine refuses_owned h hc hp ((ho _).trans ?_)
  simp only [State.withMachine, index?_of_le (show 64 ≤ n from hn)]

/-- Of the machines only `m` has changed, and of the links its node's alone, from a state `b` whose machines and links are those of
`s`. -/
theorem othersKeptWith_of_placed {b s t u : State} {m : MachineNo} {r : MachineRecord} {l : Link} (ht : u.Concludes t)
    (hengine : u.engine = (b.placed m r l).engine) (hline : u.line = (b.placed m r l).line)
    (hmachines : ∀ k, b.machine k = s.machine k) (hlinks : ∀ k, b.link k = s.link k) :
    OthersKeptWith [m] b.line.exchange b.line.pointer s t := by
  refine ⟨fun k hk => ?_, u.line, ht.line, ?_, ?_, fun k hk => ?_⟩
  · have hm : t.machine k = (b.placed m r l).machine k :=
      congrArg (fun e : SessionEngine => look e.machines k) (ht.engine.trans hengine)
    rw [hm, b.placed_machine_other m r l (List.ne_of_not_mem_cons hk), hmachines]
  · rw [hline]; rfl
  · rw [hline]; rfl
  · have hl : look u.line.links k = (b.placed m r l).link k := by rw [hline]; rfl
    rw [hl, b.placed_link_other m r l (List.ne_of_not_mem_cons hk), hlinks]

theorem othersKept_of_placed {s t u : State} {m : MachineNo} {r : MachineRecord} {l : Link} (ht : u.Concludes t)
    (hengine : u.engine = (s.placed m r l).engine) (hline : u.line = (s.placed m r l).line) : OthersKept [m] s t :=
  ⟨by rw [ht.engine, hengine]; rfl, othersKeptWith_of_placed ht hengine hline (fun _ => rfl) fun _ => rfl⟩

theorem kept_machine (s : State) (tag : Byte) (q : Request) (m : MachineNo) (r : MachineRecord) (l : Link) :
    Kept [.host, .engine, .line] s ((s.withRequest tag q).placed m r l) := by
  refine ⟨rfl, fun b hb => ?_⟩
  cases b
  case host | engine | line => simp at hb
  all_goals rfl

theorem kept_record (s : State) (tag : Byte) (q : Request) (m : MachineNo) (r : MachineRecord) :
    Kept [.host, .engine] s ((s.withRequest tag q).placed m r (s.link m)) := by
  refine ⟨rfl, fun b hb => ?_⟩
  cases b
  case line => exact s.placed_line_self m r
  case host | engine => simp at hb
  all_goals rfl

/-! ## Enabling and disabling a node -/

/-- A request that is accepted with one machine's record and link replaced. -/
theorem accepts_placed {c : Instr} {s : State} {tag : Byte} {q : Request} {m : MachineNo} {r : MachineRecord} {l : Link}
    {holds : State → Prop} (h : s.Takes) (hc : c.request? = some (tag, q)) (hp : Request.passes q = true)
    (ho : (s.withRequest tag q).own q = ((s.withRequest tag q).placed m r l).accept)
    (hh : ∀ t : State, t.engine = (s.placed m r l).engine → t.line = (s.placed m r l).line.begin → holds t) :
    Replies (exec c s) s tag q .ok [] [.engine, .line] holds :=
  replies_owned h hc hp ho rfl (h.1.2.of_store rfl) (kept_machine _ _ _ _ _ _) fun t ht =>
    hh t (ht.engine.trans (State.reply_engine _ _ _)) (ht.line.trans (congrArg LineController.begin (State.reply_line _ _ _)))

theorem State.startProbing_eq (s : State) (m : MachineNo) :
    s.startProbing m = s.placed m (s.machine m) { Link.initial with state := .probing, slow := .expired } :=
  s.modLink_eq m _

/-- The heater fault flag of machine `m` cleared and its exchange, if it is on the line, to be discarded (R37, R156). -/
def State.detached (s : State) (m : MachineNo) : State :=
  { s with
    line := { s.line with exchange := discarding m s.line.exchange }
    feeder := { s.feeder with heaterFault := s.feeder.heaterFault.set m.1 false } }

theorem State.disableLink_eq (s : State) (m : MachineNo) :
    s.disableLink m = (s.detached m).placed m (s.machine m) Link.initial := by
  unfold State.disableLink
  rw [State.modLink_eq]
  rfl

theorem State.nodeDisable_busy {s : State} {m : MachineNo}
    (h : (s.machine m).state ∈ [.recovering, .authorising, .armed, .delayed, .running, .stranded, .settling]) :
    s.nodeDisable m = s.refuse .busy := by
  unfold State.nodeDisable
  generalize (s.machine m).state = st at h ⊢
  simp only [List.mem_cons, List.not_mem_nil, or_false] at h
  rcases h with rfl | rfl | rfl | rfl | rfl | rfl | rfl <;> rfl

/-- A machine record with the node enabled flag at a value. -/
def MachineRecord.enabling (r : MachineRecord) (on : Bool) : MachineRecord := { r with enabled := on }

theorem State.enter_of_detached {s : State} {m : MachineNo} (h : s.OtherRecovering m) (r : MachineRecord) (st : MachineState) :
    ((s.detached m).placed m r Link.initial).enter m st = (s.detached m).placed m (r.inState st) Link.initial := by
  have hrec : ((s.detached m).placed m r Link.initial).OtherRecovering m :=
    State.OtherRecovering.placed (s := s.detached m) h _ _
  rw [State.enter_disabled hrec (by simp [Link.initial])]
  simp only [State.placed_machine, State.placed_link, State.placed_placed]

/-- NODE_DISABLE of a machine with no session and none being authorised (R3). -/
theorem State.nodeDisable_eq {s : State} {m : MachineNo} (hother : s.OtherRecovering m)
    (h : (s.machine m).state ∈ [.idle, .done, .offline, .lockedOut]) :
    s.nodeDisable m = ((s.detached m).placed m (((s.machine m).enabling false).inState
      (if (s.machine m).state = .lockedOut then .lockedOut else .offline)) Link.initial).accept := by
  have hoff : (s.modMachine m fun r => { r with enabled := false }).disableLink m =
      (s.detached m).placed m ((s.machine m).enabling false) Link.initial := by
    rw [State.modMachine_eq, State.disableLink_eq]
    simp only [State.placed_machine]
    exact (s.detached m).placed_placed m _ _ _ _
  have hlocked (hl : (s.machine m).state = .lockedOut) :
      ((s.machine m).enabling false).inState .lockedOut = (s.machine m).enabling false := by
    rw [← hl]
    rfl
  unfold State.nodeDisable
  simp only [hoff, State.enter_of_detached hother]
  simp only [List.mem_cons, List.not_mem_nil, or_false] at h
  rcases h with h | h | h | h
  · simp only [h, reduceCtorEq, if_false]
  · simp only [h, reduceCtorEq, if_false]
  · simp only [h, reduceCtorEq, if_false]
  · simp only [h, if_true, hlocked h]

theorem kept_detached (s : State) (tag : Byte) (q : Request) (m : MachineNo) (r : MachineRecord) (l : Link) :
    Kept [.host, .engine, .line, .feeder] s (((s.withRequest tag q).detached m).placed m r l) := by
  refine ⟨rfl, fun b hb => ?_⟩
  cases b
  case host | engine | line | feeder => simp at hb
  all_goals rfl

/-- Settles O33: each state's refusals, and the record and the link that each request leaves. -/
theorem nodeSwitchesLink : Obligations.NodeSwitchesLink := by
  intro s tag m h hother r on off
  have ownOn (q) (u : State) : u.own (.nodeEnable q) = u.withMachine q u.nodeEnable := rfl
  have ownOff (q) (u : State) : u.own (.nodeDisable q) = u.withMachine q u.nodeDisable := rfl
  refine ⟨fun n hn => ⟨refuses_machine h rfl rfl (ownOn n) hn, refuses_machine h rfl rfl (ownOff n) hn⟩,
    fun hstate => ⟨?_, ?_⟩, fun hstate => ?enabled, fun hstate => ?busy, fun hstate => ?disabled⟩
  · refine refuses_owned h rfl rfl ((ownOn _ _).trans ((State.withMachine_val _ _ _).trans ?_))
    exact if_pos hstate
  · refine refuses_owned h rfl rfl ((ownOff _ _).trans ((State.withMachine_val _ _ _).trans ?_))
    simp only [State.nodeDisable, show ((s.withRequest tag (.nodeDisable m.1)).machine m).state = .unassigned from hstate]
  case enabled =>
    refine accepts_placed (r := { r with enabled := true }) (l := if (s.link m).state = .disabled then
        { Link.initial with state := .probing, slow := .expired } else s.link m) h rfl rfl
      ((ownOn _ _).trans ((State.withMachine_val _ _ _).trans ((if_neg hstate).trans (congrArg State.accept ?_))))
      fun t he hl => ⟨he, hl.trans (congrArg LineController.begin ?_)⟩
    · rw [State.modMachine_eq]
      by_cases hl : (s.link m).state = .disabled
      · rw [if_pos (show ((s.withRequest tag _).link m).state = .disabled from hl), if_pos hl, State.startProbing_eq, State.placed_placed,
          State.placed_machine]
        rfl
      · rw [if_neg (show ((s.withRequest tag _).link m).state ≠ .disabled from hl), if_neg hl]
        rfl
    · by_cases hl : (s.link m).state = .disabled
      · simp only [if_pos hl]; rfl
      · simp only [if_neg hl]
        exact s.placed_line_self m _
  case busy =>
    exact refuses_owned h rfl rfl ((ownOff _ _).trans ((State.withMachine_val _ _ _).trans (State.nodeDisable_busy hstate)))
  case disabled =>
    exact replies_owned h rfl rfl ((ownOff _ _).trans ((State.withMachine_val _ _ _).trans (State.nodeDisable_eq hother hstate)))
      rfl (h.1.2.of_store rfl) (kept_detached _ _ _ _ _ _) fun t ht =>
        ⟨ht.engine.trans (State.reply_engine _ _ _), ht.line.trans (congrArg LineController.begin (State.reply_line _ _ _)),
          ht.feeder.trans (State.reply_feeder _ _ _)⟩

/-! ## Assigning a machine -/

/-- A machine record with a room, a class and the assigned flag (R3). -/
def MachineRecord.assigning (r : MachineRecord) (room : RoomNo) (cls : MachineClass) (on : Bool) : MachineRecord :=
  { r with room := room, cls := cls, assigned := on }

/-- MACHINE in a state that allows it (R3, R205). -/
theorem State.setMachine_open {s : State} {m : MachineNo} (r : RoomNo) (cls : MachineClass) (on : Bool)
    (h : (s.machine m).state = .unassigned ∨ (s.machine m).state = .idle ∨ (s.machine m).state = .offline) :
    s.setMachine m r.1 cls on = if s.notConfigured && on then s.refuse .notReady
      else (if on then s.assignMachine m r cls else s.unassignMachine m r cls).accept := by
  unfold State.setMachine
  rw [index?_val]
  rcases h with h | h | h <;> simp only [h]

/-- MACHINE in any other state. -/
theorem State.setMachine_busy {s : State} {m : MachineNo} (r : RoomNo) (cls : MachineClass) (on : Bool)
    (h : ¬ ((s.machine m).state = .unassigned ∨ (s.machine m).state = .idle ∨ (s.machine m).state = .offline)) :
    s.setMachine m r.1 cls on = s.refuse .busy := by
  unfold State.setMachine
  rw [index?_val]
  generalize (s.machine m).state = st at h
  cases st
  case unassigned | idle | offline => simp at h
  all_goals rfl

/-- An assigned machine's room or class changes (R3). -/
theorem State.assignMachine_again {s : State} {m : MachineNo} (r : RoomNo) (cls : MachineClass)
    (h : (s.machine m).state ≠ .unassigned) :
    s.assignMachine m r cls = s.placed m ((s.machine m).assigning r cls true) (s.link m) :=
  (if_neg h).trans (s.modMachine_eq m _)

/-- An unassigned machine with a DISABLED link is assigned (R3, R37). -/
theorem State.assignMachine_new {s : State} {m : MachineNo} (hother : s.OtherRecovering m) (r : RoomNo) (cls : MachineClass)
    (h : (s.machine m).state = .unassigned) (hl : (s.link m).state = .disabled) :
    s.assignMachine m r cls = s.placed m (((s.machine m).assigning r cls true).inState .offline)
      (if (s.machine m).enabled then { Link.initial with state := .probing, slow := .expired } else s.link m) := by
  have hoffline : (s.modMachine m fun x => { x with room := r, cls := cls, assigned := true }).enterOffline m =
      s.placed m (((s.machine m).assigning r cls true).inState .offline) (s.link m) := by
    unfold State.enterOffline
    rw [State.modMachine_eq, State.enter_disabled (hother.placed _ _) (by simpa using hl)]
    simp only [State.placed_machine, State.placed_link, State.placed_placed]
    refine if_neg ?_
    simp [hl]
  unfold State.assignMachine
  rw [if_pos h, hoffline]
  cases he : (s.machine m).enabled
  · simp
  · simp [hl, State.startProbing_eq]

/-- A machine's assigned flag is cleared (R3, R37). -/
theorem State.unassignMachine_eq {s : State} {m : MachineNo} (hother : s.OtherRecovering m) (r : RoomNo) (cls : MachineClass) :
    s.unassignMachine m r cls = (s.detached m).placed m
      ({ ((s.machine m).assigning r cls false).inState .unassigned with session := none, lockout := none }) Link.initial := by
  unfold State.unassignMachine
  rw [State.disableLink_eq, State.modMachine_eq]
  simp only [State.placed_machine, State.placed_link, State.placed_placed]
  exact State.enter_of_detached hother _ _

/-- Settles O25: refusals in the model's order, and the record and the link that assignment and its end leave. -/
theorem machineItemIsSet : Obligations.MachineItemIsSet := by
  intro s tag m r cls on h hother o q open?
  have own (u : State) : u.own q = u.setMachine m r.1 cls on :=
    (show u.own q = u.withIndex 64 m.1 fun k => u.setMachine k r.1 cls on from rfl).trans (State.withIndex_val _ _ _)
  have passes : Request.passes q = true := decide_eq_true m.2
  refine ⟨fun m' r' hbad => ?range, fun hclosed => ?busy, fun hopen hn hon => ?notReady, fun hopen hn hon hstate => ?again,
    fun hopen hn hon hstate hl => ?new, fun hopen hoff => ?off⟩
  case range =>
    by_cases hm : m' < 64
    · refine refuses_owned h rfl (decide_eq_true hm) ((State.withIndex_of_lt _ hm _).trans ?_)
      unfold State.setMachine
      rw [index?_of_le (hbad.resolve_left (Nat.not_le.mpr hm))]
    · exact refuses_unindexed h rfl (decide_eq_false hm)
  case busy => exact refuses_owned h rfl passes ((own _).trans (State.setMachine_busy r cls on hclosed))
  case notReady =>
    refine refuses_owned h rfl passes ((own _).trans ((State.setMachine_open (s := s.withRequest tag q) r cls on hopen).trans
      (if_pos ?_)))
    rw [hon, Bool.and_true]
    exact s.notConfigured_iff.mpr hn
  all_goals
    have ownOpen (hready : ¬ ((s.withRequest tag q).notConfigured && on) = true) := (own (s.withRequest tag q)).trans
      ((State.setMachine_open (s := s.withRequest tag q) r cls on hopen).trans (if_neg hready))
  case again =>
    subst hon
    have ownOn := ownOpen (by rw [Bool.and_true]; exact mt s.notConfigured_iff.mp hn)
    refine replies_owned h rfl passes (ownOn.trans (congrArg State.accept
      (State.assignMachine_again (s := s.withRequest tag q) r cls hstate))) rfl (h.1.2.of_store rfl)
      (kept_record s tag q m _) fun t ht => ht.engine.trans (State.reply_engine _ _ _)
  case new =>
    subst hon
    have ownOn := ownOpen (by rw [Bool.and_true]; exact mt s.notConfigured_iff.mp hn)
    refine accepts_placed h rfl passes (ownOn.trans (congrArg State.accept
      (State.assignMachine_new (s := s.withRequest tag q) hother r cls hstate hl)))
      fun t he hline => ⟨he, hline.trans (congrArg LineController.begin ?_)⟩
    cases hon : (s.machine m).enabled
    · rw [show ((s.withRequest tag q).machine m).enabled = false from hon]
      exact s.placed_line_self m _
    · rw [show ((s.withRequest tag q).machine m).enabled = true from hon]
      rfl
  case off =>
    subst hoff
    have ownOff := ownOpen (by rw [Bool.and_false]; decide)
    refine replies_owned h rfl passes (ownOff.trans (congrArg State.accept
      (State.unassignMachine_eq (s := s.withRequest tag q) hother r cls))) rfl (h.1.2.of_store rfl)
      (kept_detached s tag q m _ _) fun t ht => ?_
    have hm : t.machine m = { ((s.machine m).assigning r cls false).inState .unassigned with session := none, lockout := none } :=
      (congrArg (fun e : SessionEngine => look e.machines m) (ht.engine.trans (State.reply_engine _ _ _))).trans
        (((s.withRequest tag q).detached m).placed_machine m _ _)
    refine ⟨?_, othersKeptWith_of_placed (b := (s.withRequest tag q).detached m) ht (State.reply_engine _ _ _)
      (State.reply_line _ _ _) (fun _ => rfl) fun _ => rfl, ?_, ?_, ?_, ?_, ?_, ?_, ?_, ?_⟩
    · rw [ht.engine, State.reply_engine]; rfl
    · rw [hm]; rfl
    · rw [hm]; rfl
    · rw [hm]; rfl
    · rw [hm]; rfl
    · rw [hm]
    · rw [hm]
    · have hl : t.link m = look ((((s.withRequest tag q).detached m).placed m _ Link.initial).accept.line.begin).links m :=
        congrArg (fun l : LineController => look l.links m) ht.line
      rw [hl, State.accept, State.reply_line]
      exact (LineController.begin_link_of_not_due (by simp [State.placed, Link.initial, Link.slowDue])).trans (look_set_self _ _ _)
    · exact ht.feeder.trans (State.reply_feeder _ _ _)

end Sys2Proof.Machine
end

section
/-! SUPPORT. LOCKOUT_CLEAR, the lamps of all machines and of a room, and the requests that recompute them (R43 to R45, R171, R175). -/
namespace Sys2Proof.Machine

/-! ## What an event leaves of one machine -/

/-- The record and the table that an event leaves of a machine it placed. -/
theorem State.Concludes.machine_of_set {t u : State} {e : SessionEngine} {m : MachineNo} {r : MachineRecord} (ht : u.Concludes t)
    (h : u.engine = { e with machines := e.machines.set m.1 r }) : t.machine m = r :=
  (congrArg (fun e : SessionEngine => look e.machines m) (ht.engine.trans h)).trans (look_set_self _ _ _)

theorem State.Concludes.table_of_set {t u : State} {c : LineController} {m : MachineNo} {l : Link} (ht : u.Concludes t)
    (h : u.line = { c with links := c.links.set m.1 l }) : (t.link m).table = l.table := by
  have hl : t.link m = look u.line.begin.links m := congrArg (fun c : LineController => look c.links m) ht.line
  rw [hl, LineController.begin_table, h]
  exact congrArg Link.table (look_set_self _ _ _)

/-! ## LOCKOUT_CLEAR -/

/-- Machine `m`'s locking record stands in the log, unacknowledged (R171). -/
theorem State.lockUnacknowledged_iff (s : State) (m : MachineNo) : s.lockUnacknowledged m = true ↔
    ∃ n x, look s.supervisor.locking m = some n ∧ s.supervisor.log.find? (fun y => y.sequence == n) = some x ∧
      x.acknowledged = false := by
  simp only [State.lockUnacknowledged, Option.any_eq_true, Option.bind_eq_some_iff, Supervisor.record?, Bool.not_eq_true']
  constructor
  · rintro ⟨x, ⟨n, hn, hx⟩, hack⟩
    exact ⟨n, x, hn, hx, hack⟩
  · rintro ⟨n, x, hn, hx, hack⟩
    exact ⟨x, ⟨n, hn, hx⟩, hack⟩

/-- The fault supervisor without machine `m`'s locking record. -/
def State.unlocked (s : State) (m : MachineNo) : State :=
  { s with supervisor := { s.supervisor with locking := s.supervisor.locking.set m.1 none } }

/-- A machine record without its lockout code. -/
def MachineRecord.cleared (r : MachineRecord) : MachineRecord := { r with lockout := none }

/-- The state a machine freed from LOCKED_OUT enters, by its link (R171). -/
def freedState (l : Link) : MachineState := if l.state = .online ∨ l.state = .silent then .idle else .offline

/-- LOCKOUT_CLEAR of a machine it frees (R169, R171). -/
theorem State.lockoutClear_eq {s : State} {m : MachineNo} (hother : s.OtherRecovering m) (hstate : (s.machine m).state = .lockedOut)
    (hl : (s.link m).state ≠ .disabled) (hack : s.lockUnacknowledged m = false) :
    ∃ new, s.lockoutClear m = ((((s.unlocked m).placed m (((s.machine m).cleared.inState (freedState (s.link m))).shown new)
      (((s.link m).sent (.lock false)).shown new)).markLockout m).accept) := by
  have hb : (s.unlocked m).OtherRecovering m := hother
  have hcleared : ((s.modMachine m fun r => { r with lockout := none }).setLocking m none).send m (.lock false) =
      (s.unlocked m).placed m (s.machine m).cleared ((s.link m).sent (.lock false)) := by
    have hforgotten : (s.modMachine m fun r => { r with lockout := none }).setLocking m none =
        (s.unlocked m).placed m (s.machine m).cleared (s.link m) := by rw [State.modMachine_eq]; rfl
    rw [hforgotten, State.send_eq]
    simp only [State.placed_machine, State.placed_link, State.placed_placed]
  have henter (st : MachineState) := State.enter_eq (hb.placed (s.machine m).cleared ((s.link m).sent (.lock false))) st
  simp only [State.placed_machine, State.placed_link, State.placed_placed] at henter
  have hfreed : s.lockoutClear m = ((((s.unlocked m).placed m (s.machine m).cleared ((s.link m).sent (.lock false))).enter m
      (freedState (s.link m))).markLockout m).accept := by
    unfold State.lockoutClear
    rw [if_neg (by simp [hstate, hl]), if_neg (by simp [hack])]
    simp only [hcleared]
    unfold freedState
    generalize (s.link m).state = st
    cases st <;> rfl
  exact ⟨_, hfreed.trans (by rw [henter])⟩

theorem kept_unlocked (s : State) (tag : Byte) (q : Request) (m : MachineNo) (r : MachineRecord) (l : Link) :
    Kept [.host, .engine, .line, .supervisor, .store] s ((((s.withRequest tag q).unlocked m).placed m r l).markLockout m) := by
  refine ⟨rfl, fun b hb => ?_⟩
  cases b
  case host | engine | line | supervisor | store => simp at hb
  all_goals rfl

theorem State.Settled.markLockout {s : State} (h : s.Settled) (m : MachineNo) : (s.markLockout m).Settled := h

/-- Settles O32: refusals in the model's order, then the machine freed. -/
theorem lockoutClearFrees : Obligations.LockoutClearFrees := by
  intro s tag m h hother o q r stands
  have own (n) (u : State) : u.own (.lockoutClear n) = u.withMachine n u.lockoutClear := rfl
  have hstands : (s.withRequest tag q).lockUnacknowledged m = true ↔ stands := (s.withRequest tag q).lockUnacknowledged_iff m
  refine ⟨fun n hn => refuses_machine h rfl rfl (own n) hn, fun hbad => ?_, fun hstate hl hst => ?_, fun hstate hl hst => ?freed⟩
  · exact refuses_owned h rfl rfl ((own _ _).trans ((State.withMachine_val _ _ _).trans (if_pos hbad)))
  · refine refuses_owned h rfl rfl ((own _ _).trans ((State.withMachine_val _ _ _).trans ((if_neg ?_).trans (if_pos (hstands.mpr hst)))))
    rintro (hne | hd)
    · exact hne hstate
    · exact hl hd
  case freed =>
    obtain ⟨new, heq⟩ := State.lockoutClear_eq (s := s.withRequest tag q) hother hstate hl
      (by rw [← Bool.not_eq_true, hstands]; exact hst)
    refine replies_owned h rfl rfl ((own _ _).trans ((State.withMachine_val _ _ _).trans heq)) rfl h.1.2
      (kept_unlocked s tag q m _ _) fun t ht => ?_
    have hm := ht.machine_of_set (e := s.engine) (State.reply_engine _ _ _)
    have htable := ht.table_of_set (c := s.line) (State.reply_line _ _ _)
    refine ⟨othersKept_of_placed ht (State.reply_engine _ _ _) (State.reply_line _ _ _), ?_, ?_, ?_, ?_⟩
    · rw [hm]
      rfl
    · rw [htable, Link.sent_of_ne (l := (s.withRequest tag q).link m) hl]
      rfl
    · rw [ht.supervisor, State.reply_supervisor]
      rfl
    · have hfrom := ht.storeFrom
      rwa [State.reply_store] at hfrom

/-! ## Machines changed one after the other -/

@[simp] theorem forEach_nil {α : Type} (f : α → State → State) (s : State) : forEach [] f s = s := rfl

theorem forEach_cons {α : Type} (x : α) (xs : List α) (f : α → State → State) (s : State) :
    forEach (x :: xs) f s = forEach xs f (f x s) := rfl

/-- From `s` to `t` only machine records and node links may have changed. -/
def State.SameButMachines (s t : State) : Prop :=
  t = { s with engine := { s.engine with machines := t.engine.machines }, line := { s.line with links := t.line.links } }

theorem State.SameButMachines.refl (s : State) : s.SameButMachines s := rfl

theorem State.sameButMachines_placed (s : State) (m : MachineNo) (r : MachineRecord) (l : Link) :
    s.SameButMachines (s.placed m r l) := rfl

theorem State.SameButMachines.trans {s t u : State} (h : s.SameButMachines t) (k : t.SameButMachines u) : s.SameButMachines u := by
  unfold State.SameButMachines at h k ⊢
  rw [h] at k
  exact k

theorem State.SameButMachines.guard {s t : State} (h : s.SameButMachines t) (r : RoomNo) : t.guard r = s.guard r := by rw [h]; rfl
theorem State.SameButMachines.lamps {s t : State} (h : s.SameButMachines t) : t.lamps = s.lamps := by rw [h]

/-- A reply hands nothing of the machines over. -/
theorem State.SameButMachines.accepts {s t : State} (h : s.SameButMachines t) : t.accept = { s with
    host := s.accept.host, engine := { s.engine with machines := t.engine.machines }
    line := { s.line with links := t.line.links } } := by
  unfold State.SameButMachines at h
  generalize t.engine.machines = ms at h ⊢
  generalize t.line.links = ls at h ⊢
  subst h
  unfold State.accept State.reply
  cases s.host.buffer <;> rfl

/-- The lamps of the machines listed have been recomputed, each by its own record, link and room (R43, R45). -/
structure State.Relamped (s t : State) (ms : List MachineNo) : Prop where
  same : s.SameButMachines t
  machine : ∀ m, t.machine m =
    if m ∈ ms then (s.machine m).shown (s.newLamp m (s.guard (s.machine m).room).closed) else s.machine m
  link : ∀ m, t.link m = if m ∈ ms then (s.link m).shown (s.newLamp m (s.guard (s.machine m).room).closed) else s.link m

theorem State.forEach_relamp (ms : List MachineNo) (h : ms.Nodup) (s : State) :
    s.Relamped (forEach ms (fun m u => u.relamp m) s) ms := by
  induction ms generalizing s with
  | nil => exact ⟨rfl, fun m => by simp, fun m => by simp⟩
  | cons k ms ih =>
    obtain ⟨hk, hms⟩ := List.nodup_cons.mp h
    obtain ⟨hsame, hmachine, hlink⟩ := ih hms (s.relamp k)
    rw [State.relamp_eq] at hsame hmachine hlink
    rw [forEach_cons, State.relamp_eq]
    refine ⟨(s.sameButMachines_placed k _ _).trans hsame, fun m => (hmachine m).trans ?_, fun m => (hlink m).trans ?_⟩
    all_goals
      by_cases hm : m = k
      · subst hm
        simp [hk]
      · simp only [State.newLamp_eq, State.placed_machine_other _ _ _ _ hm, State.placed_link_other _ _ _ _ hm, State.placed_guard,
          State.placed_lamps, List.mem_cons, hm, false_or]

/-- Recomputing lamps leaves of every machine all but the lamp. -/
theorem State.Relamped.othersKept {s u v t : State} {ms : List MachineNo} (h : s.Relamped u ms) (ht : v.Concludes t)
    (he : v.engine = u.engine) (hl : v.line = u.line) : OthersKept [] s t := by
  have hengine : u.engine = { s.engine with machines := u.engine.machines } := by rw [h.same]
  have hline : u.line = { s.line with links := u.line.links } := by rw [h.same]
  refine ⟨?_, fun k _ => ?_, v.line, ht.line, ?_, ?_, fun k _ => ?_⟩
  · rw [ht.engine, he, hengine]
  · have hm : t.machine k = u.machine k := congrArg (fun e : SessionEngine => look e.machines k) (ht.engine.trans he)
    rw [hm, h.machine]
    split <;> rfl
  · rw [hl, hline]
  · rw [hl, hline]
  · have hlink : look v.line.links k = u.link k := congrArg (fun c : LineController => look c.links k) hl
    rw [hlink, h.link]
    split <;> rfl

/-- What recomputing lamps leaves of a machine and its table once the event has ended. -/
theorem State.Relamped.leaves {s u v t : State} {ms : List MachineNo} (h : s.Relamped u ms) (ht : v.Concludes t)
    (he : v.engine = u.engine) (hl : v.line = u.line) (m : MachineNo) :
    let new := if m ∈ ms then s.newLamp m (s.guard (s.machine m).room).closed else none
    t.machine m = (s.machine m).shown new ∧ (t.link m).table = ((s.link m).shown new).table := by
  have hm : t.machine m = u.machine m := congrArg (fun e : SessionEngine => look e.machines m) (ht.engine.trans he)
  have htable : (t.link m).table = (u.link m).table :=
    (congrArg (fun c : LineController => (look c.links m).table) ht.line).trans
      ((LineController.begin_table _ _).trans (congrArg (fun c : LineController => (look c.links m).table) hl))
  rw [hm, htable, h.machine, h.link]
  split <;> exact ⟨rfl, rfl⟩

/-! ## CONFIG_SET of NOTICE_MASK and LAMP -/

/-- Heat waits or was withdrawn (R43). -/
def MachineRecord.heatWaits (r : MachineRecord) : Prop := ∃ y, r.session = some y ∧ (y.heat = .waiting ∨ y.heat = .withdrawn)

theorem lampSource_unassigned {r : MachineRecord} (closed : Bool) (h : r.state = .unassigned) : lampSource r closed = none := if_pos h

theorem lampSource_shut {r : MachineRecord} (h : r.state ≠ .unassigned) (hcls : r.cls = .washer) :
    lampSource r true = some .outOfOrder := (if_neg h).trans (if_pos (by simp [hcls]))

/-- The lamp source of a machine by its state, where its room's closure does not show (R43). -/
theorem lampSource_open {r : MachineRecord} {closed : Bool} (h : r.state ≠ .unassigned) (hopen : r.cls = .dryer ∨ closed = false) :
    lampSource r closed = match r.state with
      | .lockedOut | .offline | .stranded | .recovering => some .outOfOrder
      | .idle => some .available
      | .armed | .authorising => some .armed
      | .running =>
        match r.session.map Session.heat with
        | some .waiting | some .withdrawn => some .heatHold
        | _ => some .inUse
      | .delayed => some .inUse
      | .done | .settling => some .done
      | .unassigned => none :=
  (if_neg h).trans ((if_neg (by rcases hopen with h | h <;> simp [h])).trans rfl)

theorem lampSource_running {r : MachineRecord} {closed : Bool} (h : r.state = .running) (hopen : r.cls = .dryer ∨ closed = false) :
    (r.heatWaits → lampSource r closed = some .heatHold) ∧ (¬ r.heatWaits → lampSource r closed = some .inUse) := by
  have hsource := lampSource_open (by simp [h]) hopen
  simp only [h] at hsource
  rw [hsource]
  cases hs : r.session with
  | none =>
    refine ⟨?_, fun _ => rfl⟩
    rintro ⟨y, hy, -⟩
    simp [hs] at hy
  | some y =>
    have hwaits : r.heatWaits ↔ y.heat = .waiting ∨ y.heat = .withdrawn := by simp [MachineRecord.heatWaits, hs]
    rw [hwaits, Option.map_some]
    cases y.heat <;> simp

theorem State.relampAll_relamped (s : State) : s.Relamped s.relampAll (indexes 64) := s.forEach_relamp _ (List.nodup_finRange 64)

theorem kept_lamps (s : State) (tag : Byte) (q : Request) (k : LampMap) {u : State}
    (h : ({ s.withRequest tag q with lamps := k } : State).SameButMachines u) : Kept [.host, .lamps, .engine, .line] s u := by
  rw [h]
  refine ⟨rfl, fun b hb => ?_⟩
  cases b
  case host | lamps | engine | line => simp at hb
  all_goals rfl

/-- Settles O23: the mask by its setter, the source by R43's rows, and LAMP machine by machine. -/
theorem lampAndMaskAreSet : Obligations.LampAndMaskAreSet := by
  intro s tag h
  refine ⟨fun k => ?mask, fun r closed => ⟨fun hstate => lampSource_unassigned closed hstate, fun hstate hcls hclosed => ?_,
    fun hopen => ⟨fun hstate => ?_, fun hstate => ?_, fun hstate => ?_, fun hstate hwaits => ?_, fun hstate => ?_, fun hstate => ?_⟩⟩,
    fun k => ?lamp⟩
  case mask =>
    exact RepliesFrom.intro _ h.1.1 (exec_request _ s tag _ rfl) (s.request_owner tag _ h rfl)
      (u := { s.withRequest tag (.configSet (.noticeMask k)) with host := { (s.withRequest tag (.configSet (.noticeMask k))).host with mask := k } })
      rfl h.1.2 (kept_host s _) trivial
  · subst hclosed
    exact lampSource_shut hstate hcls
  · simp only [List.mem_cons, List.not_mem_nil, or_false] at hstate
    rcases hstate with hs | hs | hs | hs <;> simp [lampSource_open (by simp [hs] : r.state ≠ .unassigned) hopen, hs]
  · simp [lampSource_open (by simp [hstate] : r.state ≠ .unassigned) hopen, hstate]
  · rcases hstate with hs | hs <;> simp [lampSource_open (by simp [hs] : r.state ≠ .unassigned) hopen, hs]
  · exact (lampSource_running hstate hopen).1 hwaits
  · rcases hstate with hs | ⟨hs, hwaits⟩
    · simp [lampSource_open (by simp [hs] : r.state ≠ .unassigned) hopen, hs]
    · exact (lampSource_running hs hopen).2 hwaits
  · rcases hstate with hs | hs <;> simp [lampSource_open (by simp [hs] : r.state ≠ .unassigned) hopen, hs]
  case lamp =>
    let base : State := { s.withRequest tag (.configSet (.lamp k)) with lamps := k }
    have hrelamped := base.relampAll_relamped
    refine replies_owned (u := base.relampAll) (st := .ok) (res := []) h rfl rfl rfl (by rw [hrelamped.same]; rfl) (h.1.2.of_store (by rw [hrelamped.same]; rfl))
      (kept_lamps s tag _ k hrelamped.same) fun t ht => ⟨?_, ?_, fun m => ?_⟩
    · rw [ht.lamps, State.reply_lamps, hrelamped.same.lamps]
    · exact hrelamped.othersKept ht (State.reply_engine _ _ _) (State.reply_line _ _ _)
    · have hleaves := hrelamped.leaves ht (State.reply_engine _ _ _) (State.reply_line _ _ _) m
      rw [if_pos (show m ∈ indexes 64 from List.mem_finRange m)] at hleaves
      exact hleaves

/-! ## VALVE_OPEN -/

theorem State.relampRoom_relamped (s : State) (r : RoomNo) : s.Relamped (s.relampRoom r) (s.machinesOf r) :=
  s.forEach_relamp _ ((List.nodup_finRange 64).filter _)

theorem State.mem_machinesOf (s : State) (r : RoomNo) (m : MachineNo) :
    m ∈ s.machinesOf r ↔ (s.machine m).assigned = true ∧ (s.machine m).room = r := by
  simp [State.machinesOf, indexes]

/-- The state with room `r`'s guard replaced. -/
def State.guarded (s : State) (r : RoomNo) (g : RoomGuard) : State :=
  { s with supervisor := { s.supervisor with rooms := s.supervisor.rooms.set r.1 g } }

theorem State.modGuard_eq (s : State) (r : RoomNo) (f : RoomGuard → RoomGuard) : s.modGuard r f = s.guarded r (f (s.guard r)) := rfl

@[simp] theorem State.guarded_guard (s : State) (r : RoomNo) (g : RoomGuard) : (s.guarded r g).guard r = g := look_set_self _ _ _

theorem RoomGuard.onset_iff (g : RoomGuard) : EdgeSelect.onset g.edge g.filtered = true ↔
    (g.edge = .rising ∧ g.filtered = true) ∨ (g.edge = .falling ∧ g.filtered = false) := by
  cases g.edge <;> simp [EdgeSelect.onset]

/-- The closing record of a room, or of what a supervisor names so, stands in the log unacknowledged. -/
def State.closingStands (s : State) (r : RoomNo) : Prop :=
  ∃ n x, (s.guard r).closing = some n ∧ s.supervisor.log.find? (fun y => y.sequence == n) = some x ∧ x.acknowledged = false

theorem State.mayReopen_iff (s : State) (r : RoomNo) : s.mayReopen r = true ↔
    (s.guard r).closed = true ∧ ¬ EdgeSelect.onset (s.guard r).edge (s.guard r).filtered = true ∧ ¬ s.closingStands r := by
  have hstands : (((s.guard r).closing.bind s.supervisor.record?).all fun x => x.acknowledged) = true ↔ ¬ s.closingStands r := by
    simp only [State.closingStands, Supervisor.record?]
    cases hc : (s.guard r).closing with
    | none => simp
    | some n =>
      cases hx : s.supervisor.log.find? (fun y => y.sequence == n) with
      | none => simp [Supervisor.record?, hx]
      | some x => simp [Supervisor.record?, hx]
  simp only [State.mayReopen, Bool.and_eq_true, hstands, Bool.not_eq_true', Bool.not_eq_true, and_assoc]

/-- A room's guard once it is reopened (R175). -/
def RoomGuard.reopened (g : RoomGuard) : RoomGuard := { g with valveOpen := true, closed := false, closing := none }

theorem kept_guarded (s : State) (tag : Byte) (q : Request) (r : RoomNo) (g : RoomGuard) {u : State}
    (h : ((s.withRequest tag q).guarded r g).SameButMachines u) : Kept [.host, .supervisor, .engine, .line] s u := by
  rw [h]
  refine ⟨rfl, fun b hb => ?_⟩
  cases b
  case host | supervisor | engine | line => simp at hb
  all_goals rfl

/-- Settles O45: refusals by what bars the reopening, then the guard reopened and the room's lamps recomputed. -/
theorem valveOpenReopensRoom : Obligations.ValveOpenReopensRoom := by
  refine fun s tag h => ⟨fun r hr => refuses_owned h rfl rfl ?_, fun r => ?_⟩
  · simp only [State.own, State.valveOpen, index?_of_le (show 4 ≤ r from hr)]
  · intro g onset stands
    have own (u : State) : u.own (.valveOpen r.1) = if u.mayReopen r then
        ((u.modGuard r fun g => { g with valveOpen := true, closed := false, closing := none }).relampRoom r).accept
        else u.refuse .refusedState := by
      simp only [State.own, State.valveOpen, index?_val]
    have hmay := (s.withRequest tag (.valveOpen r.1)).mayReopen_iff r
    have honset : EdgeSelect.onset g.edge g.filtered = true ↔ onset := g.onset_iff
    refine ⟨fun hbar => refuses_owned h rfl rfl ((own _).trans (if_neg fun hc => ?_)), fun hclosed hdry hacked => ?_⟩
    · obtain ⟨hclosed, hdry, hacked⟩ := hmay.mp hc
      rcases hbar with hopen | hwet | hstands
      · exact absurd (hopen.symm.trans hclosed) (by decide)
      · exact hdry (honset.mpr hwet)
      · exact hacked hstands
    · have hcan := hmay.mpr ⟨hclosed, fun hwet => hdry (honset.mp hwet), hacked⟩
      let base := (s.withRequest tag (.valveOpen r.1)).guarded r g.reopened
      have hrelamped := base.relampRoom_relamped r
      refine replies_owned (u := base.relampRoom r) (st := .ok) (res := []) h rfl rfl ((own _).trans (if_pos hcan))
        (by rw [hrelamped.same]; rfl) (h.1.2.of_store (by rw [hrelamped.same]; rfl)) (kept_guarded s tag _ r _ hrelamped.same)
        fun t ht => ⟨?_, ?_, fun m => ?_⟩
      · rw [ht.supervisor, State.reply_supervisor, hrelamped.same]
        rfl
      · exact hrelamped.othersKept ht (State.reply_engine _ _ _) (State.reply_line _ _ _)
      · have hleaves := hrelamped.leaves ht (State.reply_engine _ _ _) (State.reply_line _ _ _) m
        have hmem : m ∈ base.machinesOf r ↔ (s.machine m).assigned = true ∧ (s.machine m).room = r := base.mem_machinesOf r m
        by_cases hin : (s.machine m).assigned = true ∧ (s.machine m).room = r
        · have hguard : base.guard (base.machine m).room = g.reopened := by
            rw [show (base.machine m).room = r from hin.2]
            exact State.guarded_guard _ _ _
          rw [if_pos (hmem.mpr hin), hguard] at hleaves
          rw [if_pos hin]
          exact hleaves
        · rw [if_neg (mt hmem.mp hin)] at hleaves
          rw [if_neg hin]
          exact hleaves

end Sys2Proof.Machine
end

section
/-! SUPPORT. What the sessions and nodes are told of grants and withdrawals, and the feeder's events: a pass, shedding, a release, a
rebalance, and the demand limit (7.2 to 7.8). -/
namespace Sys2Proof.Machine

/-! ## One machine told -/

/-- A machine record with its session's heat state at a value. -/
def MachineRecord.heated (r : MachineRecord) (h : HeatState) : MachineRecord :=
  { r with session := r.session.map fun x => { x with heat := h } }

@[simp] theorem MachineRecord.heated_butHeat (r : MachineRecord) (h : HeatState) : (r.heated h).butHeat = r.butHeat := by
  simp only [MachineRecord.butHeat, MachineRecord.heated, Option.map_map]
  rfl

/-- A node's link with a heat command queued. -/
theorem Link.sent_heat (l : Link) (c : HeatCommand) :
    l.sent c.command = if l.state = .disabled then l else { l with table := { l.table with heat := some c } } := by
  cases c <;> rfl

@[simp] theorem Link.sent_heat_butHeat (l : Link) (c : HeatCommand) : (l.sent c.command).butHeat = l.butHeat := by
  rw [Link.sent_heat]
  split <;> rfl

theorem State.setHeat_eq (s : State) (m : MachineNo) (h : HeatState) :
    s.setHeat m h = s.placed m
      (((s.machine m).heated h).shown
        (lampQueued s.lamps (s.guard (s.machine m).room).closed ((s.machine m).heated h) (s.link m)))
      ((s.link m).shown
        (lampQueued s.lamps (s.guard (s.machine m).room).closed ((s.machine m).heated h) (s.link m))) := by
  unfold State.setHeat State.modSession
  rw [State.modMachine_eq, State.relamp_eq, State.newLamp_eq]
  simp only [State.placed_machine, State.placed_link, State.placed_lamps, State.placed_guard, State.placed_placed]
  rfl

/-- A machine's session is told a heat state, and its node the command that goes with it (R13). -/
def State.tell (s : State) (h : HeatState) (c : Nat → HeatCommand) (m : MachineNo) : State :=
  match s.session m with
  | some x => (s.setHeat m h).send m (c x.id).command
  | none => s

theorem State.takeGrant_eq (s : State) (m : MachineNo) : s.takeGrant m = s.tell .granted .grant m := rfl
theorem State.takeWithdrawal_eq (s : State) (m : MachineNo) : s.takeWithdrawal m = s.tell .withdrawn .hold m := rfl
theorem State.takeHold_eq (s : State) (m : MachineNo) : s.takeHold m = s.tell .waiting .hold m := rfl

/-- The LAMP that telling machine `m` a heat state queues. -/
def State.lampHeated (s : State) (m : MachineNo) (h : HeatState) : Option Lamp :=
  lampQueued s.lamps (s.guard (s.machine m).room).closed ((s.machine m).heated h) (s.link m)

theorem State.tell_some {s : State} {m : MachineNo} {x : Session} (hx : (s.machine m).session = some x) (h : HeatState)
    (c : Nat → HeatCommand) : s.tell h c m = s.placed m (((s.machine m).heated h).shown (s.lampHeated m h))
      (((s.link m).shown (s.lampHeated m h)).sent (c x.id).command) := by
  have hsession : s.session m = some x := hx
  simp only [State.tell, hsession, State.send_eq, State.setHeat_eq, State.placed_machine, State.placed_link, State.placed_placed]
  rfl

theorem State.tell_none {s : State} {m : MachineNo} (hx : (s.machine m).session = none) (h : HeatState) (c : Nat → HeatCommand) :
    s.tell h c m = s := by
  have hsession : s.session m = none := hx
  simp only [State.tell, hsession]

/-! ## Machines told, one after the other -/

/-- From `s` to `t` the machines listed have been told a heat state and sent its command, and of machines and links nothing else but
lamps has changed. -/
structure State.Told (s t : State) (ms : List MachineNo) (h : HeatState) (c : Nat → HeatCommand) : Prop where
  record : ∀ k, (t.machine k).butHeat = (s.machine k).butHeat
  link : ∀ k, (t.link k).butHeat = (s.link k).butHeat
  other : ∀ k, k ∉ ms → t.machine k = s.machine k ∧ t.link k = s.link k
  heat : ∀ k, (t.machine k).session.map Session.heat =
    (s.machine k).session.map fun y => if k ∈ ms then h else y.heat
  table : ∀ k, (t.link k).table.heat = match (s.machine k).session with
    | none => (s.link k).table.heat
    | some y => if (s.link k).state = .disabled then (s.link k).table.heat
      else if k ∈ ms then some (c y.id) else (s.link k).table.heat

theorem State.Told.refl (s : State) (h : HeatState) (c : Nat → HeatCommand) : s.Told s [] h c where
  record _ := rfl
  link _ := rfl
  other _ _ := ⟨rfl, rfl⟩
  heat k := by simp
  table k := by cases (s.machine k).session <;> simp

/-- What a session's record keeps when only its heat state and lamp change. -/
theorem MachineRecord.session_of_butHeat {r q : MachineRecord} (h : r.butHeat = q.butHeat) :
    r.session.map (fun x => { x with heat := .none }) = q.session.map fun x => { x with heat := .none } :=
  congrArg MachineRecord.session h

theorem MachineRecord.id_of_butHeat {r q : MachineRecord} (h : r.butHeat = q.butHeat) :
    r.session.map Session.id = q.session.map Session.id := by
  have hid := congrArg (Option.map Session.id) (MachineRecord.session_of_butHeat h)
  rw [Option.map_map, Option.map_map] at hid
  exact hid

theorem Link.state_of_butHeat {l k : Link} (h : l.butHeat = k.butHeat) : l.state = k.state := by
  have hstate : l.butHeat.state = k.butHeat.state := congrArg _ h
  exact hstate

/-- One machine told. -/
theorem State.tell_told (s : State) (h : HeatState) (c : Nat → HeatCommand) (m : MachineNo) : s.Told (s.tell h c m) [m] h c := by
  cases hx : (s.machine m).session with
  | none =>
    rw [State.tell_none hx]
    refine ⟨fun _ => rfl, fun _ => rfl, fun _ _ => ⟨rfl, rfl⟩, fun k => ?_, fun k => ?_⟩
    · by_cases hk : k = m
      · subst hk; simp [hx]
      · simp [hk]
    · by_cases hk : k = m
      · subst hk; simp [hx]
      · cases (s.machine k).session <;> simp [hk]
  | some x =>
    rw [State.tell_some hx]
    refine ⟨fun k => ?_, fun k => ?_, fun k hk => ?_, fun k => ?_, fun k => ?_⟩
    · by_cases hk : k = m
      · subst hk; simp
      · rw [State.placed_machine_other _ _ _ _ hk]
    · by_cases hk : k = m
      · subst hk; simp
      · rw [State.placed_link_other _ _ _ _ hk]
    · have hk := List.ne_of_not_mem_cons hk
      exact ⟨State.placed_machine_other _ _ _ _ hk, State.placed_link_other _ _ _ _ hk⟩
    · by_cases hk : k = m
      · subst hk; simp [hx, MachineRecord.shown, MachineRecord.heated]
      · rw [State.placed_machine_other _ _ _ _ hk]; simp [hk]
    · by_cases hk : k = m
      · subst hk
        by_cases hl : (s.link k).state = .disabled <;> simp [hx, hl, Link.sent_heat, Link.shown]
      · rw [State.placed_link_other _ _ _ _ hk]
        cases (s.machine k).session <;> simp [hk]

/-- Telling goes on. -/
theorem State.Told.trans {s t u : State} {as bs : List MachineNo} {h : HeatState} {c : Nat → HeatCommand} (k : s.Told t as h c)
    (l : t.Told u bs h c) : s.Told u (as ++ bs) h c := by
  refine ⟨fun i => (l.record i).trans (k.record i), fun i => (l.link i).trans (k.link i), fun i hi => ?_,
    fun i => ?_, fun i => ?_⟩
  · rw [List.mem_append, not_or] at hi
    obtain ⟨hm, hlk⟩ := k.other i hi.1
    obtain ⟨hm', hlk'⟩ := l.other i hi.2
    exact ⟨hm'.trans hm, hlk'.trans hlk⟩
  · by_cases hb : i ∈ bs
    · have hid := MachineRecord.id_of_butHeat (k.record i)
      rw [l.heat i]
      cases ht : (t.machine i).session <;> cases hs : (s.machine i).session <;> simp [ht, hs, hb] at hid ⊢
    · obtain ⟨hm, -⟩ := l.other i hb
      rw [hm, k.heat i]
      simp [hb]
  · by_cases hb : i ∈ bs
    · have hid := MachineRecord.id_of_butHeat (k.record i)
      have hstate := Link.state_of_butHeat (k.link i)
      have htable := k.table i
      rw [l.table i]
      cases ht : (t.machine i).session <;> cases hs : (s.machine i).session <;> simp [ht, hs, hb, hstate] at hid htable ⊢
      · exact htable
      · by_cases hd : (s.link i).state = .disabled <;> simp [hd, hid] at htable ⊢
        exact htable
    · obtain ⟨-, hlk⟩ := l.other i hb
      rw [hlk, k.table i]
      cases (s.machine i).session <;> simp [hb]

theorem State.forEach_tell (s : State) (h : HeatState) (c : Nat → HeatCommand) (ms : List MachineNo) :
    s.Told (forEach ms (fun m t => t.tell h c m) s) ms h c := by
  induction ms generalizing s with
  | nil => exact State.Told.refl s h c
  | cons m ms ih => exact (s.tell_told h c m).trans (ih _)

theorem State.tell_same (s : State) (h : HeatState) (c : Nat → HeatCommand) (m : MachineNo) : s.SameButMachines (s.tell h c m) := by
  cases hx : (s.machine m).session with
  | none =>
    rw [State.tell_none hx]
    exact State.SameButMachines.refl s
  | some x =>
    rw [State.tell_some hx]
    exact s.sameButMachines_placed m _ _

theorem State.forEach_tell_same (s : State) (h : HeatState) (c : Nat → HeatCommand) (ms : List MachineNo) :
    s.SameButMachines (forEach ms (fun m t => t.tell h c m) s) := by
  induction ms generalizing s with
  | nil => exact State.SameButMachines.refl s
  | cons m ms ih => exact (s.tell_same h c m).trans (ih _)

/-- A machine told of both a withdrawal and a grant is told of the grant last (R13, R149). -/
theorem State.Told.heatTold {s u t : State} {ws gs : List MachineNo} (hw : s.Told u ws .withdrawn .hold)
    (hg : u.Told t gs .granted .grant) : s.HeatTold t [] ws gs := by
  intro k _
  have hid := MachineRecord.id_of_butHeat (hw.record k)
  have hstate := Link.state_of_butHeat (hw.link k)
  have hheat := hw.heat k
  have htable := hw.table k
  refine ⟨(hg.heat k).trans ?_, (hg.table k).trans ?_⟩
  all_goals
    cases hs : (s.machine k).session <;> cases hu : (u.machine k).session <;> simp [hs, hu] at hid hheat htable ⊢
  · simp [hheat]
  · exact htable
  · by_cases hd : (s.link k).state = .disabled <;> simp [hd, hstate, hid] at htable ⊢
    · exact htable
    · rw [htable]

/-- No machine told of a withdrawal. -/
theorem State.Told.heatTold_granted {s t : State} {gs : List MachineNo} (hg : s.Told t gs .granted .grant) : s.HeatTold t [] [] gs :=
  (State.Told.refl s .withdrawn .hold).heatTold hg

/-! ## The state an event leaves -/

theorem State.Concludes.machine_of_eq {t u v : State} (ht : u.Concludes t) (h : u.engine = v.engine) (m : MachineNo) :
    t.machine m = v.machine m := congrArg (fun e : SessionEngine => look e.machines m) (ht.engine.trans h)

theorem State.Concludes.table_of_eq {t u v : State} (ht : u.Concludes t) (h : u.line = v.line) (m : MachineNo) :
    (t.link m).table = (v.link m).table :=
  (congrArg (fun c : LineController => (look c.links m).table) ht.line).trans
    ((LineController.begin_table _ _).trans (congrArg (fun c : LineController => (look c.links m).table) h))

/-- What the sessions and nodes have been told stands once the event has ended. -/
theorem State.HeatTold.concludes {s t u v : State} {but ws gs : List MachineNo} (h : s.HeatTold v but ws gs) (ht : u.Concludes t)
    (he : u.engine = v.engine) (hl : u.line = v.line) : s.HeatTold t but ws gs := by
  intro k hk
  obtain ⟨hheat, htable⟩ := h k hk
  rw [ht.machine_of_eq he k, ht.table_of_eq hl k]
  exact ⟨hheat, htable⟩

/-- Machines kept but for heat and lamps, once the event has ended. -/
theorem othersKept_of_butHeat {s t u v : State} {but : List MachineNo} (ht : u.Concludes t) (he : u.engine = v.engine)
    (hl : u.line = v.line) (hengine : v.engine = { s.engine with machines := v.engine.machines })
    (hline : v.line = { s.line with links := v.line.links }) (hm : ∀ k, k ∉ but → (v.machine k).butHeat = (s.machine k).butHeat)
    (hlink : ∀ k, k ∉ but → (v.link k).butHeat = (s.link k).butHeat) : OthersKept but s t := by
  refine ⟨?_, fun k hk => ?_, u.line, ht.line, ?_, ?_, fun k hk => ?_⟩
  · rw [ht.engine, he, hengine]
  · rw [ht.machine_of_eq he k, hm k hk]
  · rw [hl, hline]
  · rw [hl, hline]
  · rw [show look u.line.links k = v.link k from congrArg (fun c : LineController => look c.links k) hl, hlink k hk]

/-! ## What the unit's events leave of its settings -/

/-- The items, the demand limit, the heater fault flags and the capacities are the same. -/
structure Feeder.SameSettings (f g : Feeder) : Prop where
  frame : g = { f with rooms := g.rooms, order := g.order, pointer := g.pointer, backlog := g.backlog }
  capacity : ∀ k, (look g.rooms k).capacity = (look f.rooms k).capacity

theorem Feeder.SameSettings.refl (f : Feeder) : f.SameSettings f := ⟨rfl, fun _ => rfl⟩

theorem Feeder.SameSettings.trans {f g h : Feeder} (a : f.SameSettings g) (b : g.SameSettings h) : f.SameSettings h := by
  refine ⟨?_, fun k => (b.capacity k).trans (a.capacity k)⟩
  have hb := b.frame
  rw [a.frame] at hb
  exact hb

theorem Feeder.SameSettings.limit {f g : Feeder} (h : f.SameSettings g) : g.limit = f.limit := by rw [h.frame]
theorem Feeder.SameSettings.mode {f g : Feeder} (h : f.SameSettings g) : g.mode = f.mode := by rw [h.frame]
theorem Feeder.SameSettings.demand {f g : Feeder} (h : f.SameSettings g) : g.demand = f.demand := by rw [h.frame]
theorem Feeder.SameSettings.high {f g : Feeder} (h : f.SameSettings g) : g.high = f.high := by rw [h.frame]
theorem Feeder.SameSettings.low {f g : Feeder} (h : f.SameSettings g) : g.low = f.low := by rw [h.frame]
theorem Feeder.SameSettings.heaterFault {f g : Feeder} (h : f.SameSettings g) : g.heaterFault = f.heaterFault := by rw [h.frame]
theorem Feeder.SameSettings.effectiveLimit {f g : Feeder} (h : f.SameSettings g) : g.effectiveLimit = f.effectiveLimit := by
  rw [Feeder.effectiveLimit, Feeder.effectiveLimit, h.limit, h.demand]

theorem Feeder.sameSettings_withdraw (f : Feeder) (r : RoomNo) (c : Claim) : f.SameSettings (f.withdraw r c) := by
  exact ⟨rfl, fun k => Feeder.afterWithdrawal_capacity ..⟩

theorem Feeder.sameSettings_shedWhile (isDryer : MachineNo → Bool) (among : List RoomNo) (excess : Feeder → Bool) (fuel : Nat)
    (f : Feeder) : f.SameSettings (Feeder.shedWhile isDryer among excess fuel f).1 := by
  induction fuel generalizing f with
  | zero => exact Feeder.SameSettings.refl f
  | succ fuel ih =>
    rw [Feeder.shedWhile]
    split
    · split
      · exact (f.sameSettings_withdraw _ _).trans (ih _)
      · exact Feeder.SameSettings.refl f
    · exact Feeder.SameSettings.refl f

theorem Feeder.sameSettings_shed (isDryer : MachineNo → Bool) (f : Feeder) : f.SameSettings (Feeder.shed isDryer f).1 := by
  have hrooms : ∀ (l : List RoomNo) (x : Feeder × List MachineNo), x.1.SameSettings
      (l.foldl (fun acc r => let y := Feeder.shedRoom isDryer acc.1 r; (y.1, acc.2 ++ y.2)) x).1 := by
    intro l
    induction l with
    | nil => exact fun x => Feeder.SameSettings.refl x.1
    | cons r l ih =>
      intro x
      have hroom : x.1.SameSettings (Feeder.shedRoom isDryer x.1 r).1 := Feeder.sameSettings_shedWhile isDryer _ _ _ _
      exact hroom.trans (ih ((Feeder.shedRoom isDryer x.1 r).1, x.2 ++ (Feeder.shedRoom isDryer x.1 r).2))
  exact (hrooms _ (f, [])).trans (Feeder.sameSettings_shedWhile isDryer _ _ _ _)

theorem Feeder.sameSettings_pass (f : Feeder) : f.SameSettings f.pass.1 := by
  obtain ⟨hframe, hcapacity⟩ := f.pass_keeps
  refine ⟨?_, hcapacity⟩
  generalize f.pass.1 = g at hframe
  rw [hframe]

/-- The judgement changes the backlog state alone. -/
theorem Feeder.judged_eq (f : Feeder) : f.judged.1 = { f with backlog := f.judged.1.backlog } := by
  unfold Feeder.judged
  (repeat' split) <;> rfl

theorem Feeder.sameSettings_judged (f : Feeder) : f.SameSettings f.judged.1 := by
  have h := f.judged_eq
  generalize f.judged.1 = g at h
  exact ⟨by rw [h], fun k => by rw [h]⟩

end Sys2Proof.Machine
end

section
/-! SUPPORT. A change of a capacity, of the building limit or of the demand limit as the feeder, the sessions and the nodes take it, and the
demand limit's requests and expiry (7.5, 7.7, 7.8). -/
namespace Sys2Proof.Machine

/-! ## An event of the feeder, told -/

/-- From `s` to `t` machines and links have changed in heat and lamps alone, as the withdrawals `ws` and then the grants `gs` tell them; of
the other blocks `t` is `b`. -/
structure State.HeatOnly (s b t : State) (ws gs : List MachineNo) : Prop where
  same : b.SameButMachines t
  engine : b.engine = s.engine
  line : b.line = s.line
  record : ∀ k, (t.machine k).butHeat = (s.machine k).butHeat
  link : ∀ k, (t.link k).butHeat = (s.link k).butHeat
  told : s.HeatTold t [] ws gs

theorem State.HeatOnly.sameEngine {s b t : State} {ws gs : List MachineNo} (h : s.HeatOnly b t ws gs) :
    t.engine = { s.engine with machines := t.engine.machines } := by
  rw [← h.engine, h.same]

theorem State.HeatOnly.sameLine {s b t : State} {ws gs : List MachineNo} (h : s.HeatOnly b t ws gs) :
    t.line = { s.line with links := t.line.links } := by
  rw [← h.line, h.same]

/-- No machine is touched but in heat and lamps, once the event has ended. -/
theorem State.HeatOnly.othersKept {s b t u v : State} {ws gs but : List MachineNo} (h : s.HeatOnly b t ws gs) (hv : u.Concludes v)
    (he : u.engine = t.engine) (hl : u.line = t.line) : OthersKept but s v :=
  othersKept_of_butHeat hv he hl h.sameEngine h.sameLine (fun k _ => h.record k) fun k _ => h.link k

theorem State.Told.of_feeder {s t : State} {f : Feeder} {ms : List MachineNo} {h : HeatState} {c : Nat → HeatCommand}
    (k : ({ s with feeder := f } : State).Told t ms h c) : s.Told t ms h c := ⟨k.record, k.link, k.other, k.heat, k.table⟩

theorem State.runPass_eq (s : State) : s.runPass =
    (forEach s.feeder.pass.2 (fun m t => t.tell .granted .grant m) { s with feeder := s.feeder.pass.1 }, s.feeder.pass.2) := rfl

theorem State.runShedding_eq (s : State) : s.runShedding =
    (forEach (s.shedding s.feeder).2 (fun m t => t.tell .withdrawn .hold m) { s with feeder := (s.shedding s.feeder).1 },
      (s.shedding s.feeder).2.length) := rfl

theorem State.runPass_told (s : State) : s.Told s.runPass.1 s.feeder.pass.2 .granted .grant := by
  rw [State.runPass_eq]
  exact (State.forEach_tell _ _ _ _).of_feeder

theorem State.runPass_same (s : State) : ({ s with feeder := s.feeder.pass.1 } : State).SameButMachines s.runPass.1 := by
  rw [State.runPass_eq]
  exact State.forEach_tell_same _ _ _ _

theorem State.runShedding_told (s : State) : s.Told s.runShedding.1 (s.shedding s.feeder).2 .withdrawn .hold := by
  rw [State.runShedding_eq]
  exact (State.forEach_tell _ _ _ _).of_feeder

theorem State.runShedding_same (s : State) :
    ({ s with feeder := (s.shedding s.feeder).1 } : State).SameButMachines s.runShedding.1 := by
  rw [State.runShedding_eq]
  exact State.forEach_tell_same _ _ _ _

/-- A grant pass, its grants told (R147, R149). -/
theorem State.runPass_heatOnly (s : State) :
    s.HeatOnly { s with feeder := s.feeder.pass.1 } s.runPass.1 [] s.feeder.pass.2 := by
  exact ⟨s.runPass_same, rfl, rfl, s.runPass_told.record, s.runPass_told.link, s.runPass_told.heatTold_granted⟩

/-- The judgement of the backlog on top (R155). -/
theorem State.HeatOnly.judged {s b t : State} {ws gs : List MachineNo} (h : s.HeatOnly b t ws gs) :
    s.HeatOnly { b with feeder := b.feeder.judged.1, host := b.host.offered b.feeder.judged.2 } t.judgeBacklog ws gs := by
  have hfeeder : t.feeder = b.feeder := by rw [h.same]
  have hhost : t.host = b.host := by rw [h.same]
  rw [State.judgeBacklog_eq, hfeeder, hhost]
  refine ⟨?_, h.engine, h.line, h.record, h.link, h.told⟩
  have hsame := h.same
  unfold State.SameButMachines at hsame ⊢
  generalize t.engine.machines = ms at hsame ⊢
  generalize t.line.links = ls at hsame ⊢
  rw [hsame]

/-- What a change of a capacity or a limit leaves: shedding, a pass and the judgement, in that order, all told (R149, R151, R152). -/
theorem State.rebalance_heatOnly (s : State) :
    s.HeatOnly { s with feeder := (s.rebalanced s.feeder).1, host := s.host.offered (s.rebalanced s.feeder).2 } s.rebalance.1
      (s.shedding s.feeder).2 (s.shedding s.feeder).1.pass.2 := by
  have hshed := s.runShedding_told
  have hsame := s.runShedding_same
  have hfeeder : s.runShedding.1.feeder = (s.shedding s.feeder).1 := by rw [hsame]
  have hpass := s.runShedding.1.runPass_told
  have hpassed := s.runShedding.1.runPass_same
  rw [hfeeder] at hpass hpassed
  have hbase : s.HeatOnly { s with feeder := (s.shedding s.feeder).1.pass.1 } s.runShedding.1.runPass.1
      (s.shedding s.feeder).2 (s.shedding s.feeder).1.pass.2 := by
    refine ⟨State.SameButMachines.trans ?_ hpassed, rfl, rfl, fun k => (hpass.record k).trans (hshed.record k),
      fun k => (hpass.link k).trans (hshed.link k), hshed.heatTold hpass⟩
    unfold State.SameButMachines at hsame ⊢
    generalize (s.shedding s.feeder).1.pass.1 = f
    generalize s.runShedding.1 = u at hsame
    rw [hsame]
  exact hbase.judged

/-! ## Notices -/

theorem HostLink.offered_append (h : HostLink) (ns ms : List Notice) : h.offered (ns ++ ms) = (h.offered ns).offered ms :=
  List.foldl_append

theorem HostLink.offered_nil (h : HostLink) : h.offered [] = h := rfl

theorem HostLink.offer_buffer (h : HostLink) (fs : List Frame) (n : Notice) :
    ({ h with buffer := fs } : HostLink).offer n = { h.offer n with buffer := fs } := by
  unfold HostLink.offer
  (repeat' split) <;> rfl

/-- What the receive buffer holds and the notices offered do not touch one another. -/
theorem HostLink.offered_buffer (h : HostLink) (fs : List Frame) (ns : List Notice) :
    ({ h with buffer := fs } : HostLink).offered ns = { h.offered ns with buffer := fs } := by
  induction ns generalizing h with
  | nil => rfl
  | cons n ns ih =>
    have hstep (g : HostLink) : g.offered (n :: ns) = (g.offer n).offered ns := rfl
    rw [hstep, hstep, HostLink.offer_buffer, ih]

/-- A request that its owner answers, with the host link otherwise at `g`. -/
theorem repliesFrom_owned {c : Instr} {s u : State} {tag : Byte} {q : Request} {st : Status} {res : List Byte} {xs : List Block}
    {holds : State → Prop} (g : HostLink) (h : s.Takes) (hc : c.request? = some (tag, q)) (hp : Request.passes q = true)
    (ho : (s.withRequest tag q).own q = u.reply st res) (hhost : u.host = { g with buffer := [requestFrame tag q] })
    (hset : u.Settled) (hk : Kept (.host :: xs) s u) (hh : ∀ t, (u.reply st res).Concludes t → holds t) :
    RepliesFrom g (exec c s) s tag q st res xs holds :=
  RepliesFrom.intro g h.1.1 (exec_request c s tag q hc) ((s.request_owner tag q h hp).trans ho) hhost hset hk
    (hh _ (hset.reply st res).concludes)

/-! ## The demand limit -/

/-- The unit with the demand limit that DEMAND_SET of a duration sets or ends (R152). -/
def Feeder.demanded (f : Feeder) (limit duration : Nat) : Feeder :=
  { f with demand := if duration = 0 then none else some ⟨limit, duration⟩ }

/-- The notice of a demand limit that DEMAND_SET ends (R154). -/
def Feeder.demandEnds (f : Feeder) (duration : Nat) : List Notice :=
  if duration = 0 ∧ f.demand ≠ none then [.demandEnd .ended f.limit] else []

theorem State.changeDemand_eq (s : State) (limit duration : Nat) : s.changeDemand limit duration =
    { s with feeder := s.feeder.demanded limit duration, host := s.host.offered (s.feeder.demandEnds duration) } := by
  unfold State.changeDemand Feeder.demanded Feeder.demandEnds
  by_cases hd : duration = 0
  · cases hf : s.feeder.demand with
    | none =>
      simp only [hd, if_true, ne_eq, not_true, and_false, if_false, HostLink.offered_nil]
      rw [← hf]
    | some d =>
      simp only [hd, if_true, ne_eq, reduceCtorEq, not_false_eq_true, and_self]
      rfl
  · simp only [hd, if_false, false_and, HostLink.offered_nil]

/-- The blocks a change of the feeder, told, leaves alone. -/
theorem State.HeatOnly.kept {s b t : State} {ws gs : List MachineNo} {xs : List Block} (h : s.HeatOnly b t ws gs)
    (hb : ∀ x, x ∉ xs → x ≠ .engine → x ≠ .line → x.kept s b) (hpending : b.pending = s.pending)
    (hengine : .engine ∈ xs) (hline : .line ∈ xs) : Kept xs s t := by
  refine ⟨by rw [h.same]; exact hpending, fun x hx => ?_⟩
  have hkept := hb x hx (fun he => hx (he ▸ hengine)) (fun hl => hx (hl ▸ hline))
  rw [h.same]
  cases x
  case engine => exact absurd hengine hx
  case line => exact absurd hline hx
  all_goals exact hkept

theorem Feeder.demanded_effectiveLimit (f : Feeder) (limit duration : Nat) :
    (f.demanded limit duration).effectiveLimit = if duration = 0 then f.limit else min f.limit limit := by
  unfold Feeder.demanded Feeder.effectiveLimit
  by_cases hd : duration = 0 <;> simp [hd]

/-- The unit after shedding, a pass and the judgement: the settings stay, no head fits, the backlog is settled, and the bounds and the
consistency are restored. -/
theorem State.rebalanced_settings (s : State) (f : Feeder) : f.SameSettings (s.rebalanced f).1 :=
  (Feeder.sameSettings_shed _ f).trans ((Feeder.sameSettings_pass _).trans (Feeder.sameSettings_judged _))

theorem Feeder.drained_judged {f : Feeder} (h : f.Drained) : f.judged.1.Drained := by
  rw [f.judged_eq]
  exact h

theorem Feeder.bounded_judged {f : Feeder} (h : f.Bounded) : f.judged.1.Bounded := by
  rw [f.judged_eq]
  exact h

theorem Feeder.consistent_judged {f : Feeder} (h : f.Consistent) : f.judged.1.Consistent := by
  rw [f.judged_eq]
  exact h

theorem State.rebalanced_drained (s : State) (f : Feeder) : (s.rebalanced f).1.Drained :=
  Feeder.drained_judged (Feeder.pass_drained _)

theorem State.rebalanced_bounded (s : State) {f : Feeder} (h : f.Consistent) : (s.rebalanced f).1.Bounded :=
  Feeder.bounded_judged (Feeder.pass_bounded (Feeder.shed_bounded _ h))

theorem State.rebalanced_consistent (s : State) {f : Feeder} (h : f.Consistent) : (s.rebalanced f).1.Consistent :=
  Feeder.consistent_judged (Feeder.pass_consistent _ (Feeder.shed_consistent _ h))

theorem State.rebalanced_settled (s : State) {f : Feeder} (h : f.low < f.high) : (s.rebalanced f).1.BacklogSettled := by
  refine Feeder.judged_settled _ ?_
  have hsame := (Feeder.sameSettings_shed (fun m => (s.machine m).cls == .dryer) f).trans (Feeder.sameSettings_pass _)
  rw [State.shedding, hsame.low, hsame.high]
  exact h

/-- The state DEMAND_SET rebalances: the limit changed, with the notice of one ended. -/
def State.demanding (s : State) (limit duration : Nat) : State :=
  { s with feeder := s.feeder.demanded limit duration, host := s.host.offered (s.feeder.demandEnds duration) }

theorem State.demandSet_eq (s : State) {limit : Nat} (duration : Nat) (h : limit ≤ 2000) : s.demandSet limit duration =
    (s.demanding limit (min duration 240)).rebalance.1.reply .ok
      (demandBytes (s.demanding limit (min duration 240)).rebalance.1.feeder (min duration 240)
        (s.demanding limit (min duration 240)).rebalance.2) := by
  unfold State.demandSet
  rw [if_neg (Nat.not_lt.mpr h)]
  simp only [State.changeDemand_eq]
  rfl

/-- The reply of DEMAND_SET, field by field (10.6). -/
theorem demandBytes_eq {f g : Feeder} (limit duration n : Nat) (h : (f.demanded limit duration).SameSettings g) :
    demandBytes g duration n = yesNo (duration != 0) ++ u16 (if duration = 0 then 0 else limit) ++
      u16 (if duration = 0 then f.limit else min f.limit limit) ++ u8 duration ++ u8 n := by
  unfold demandBytes
  rw [h.effectiveLimit, Feeder.demanded_effectiveLimit, h.demand]
  by_cases hd : duration = 0
  · simp [Feeder.demanded, hd]
  · simp [Feeder.demanded, hd, bne_iff_ne.mpr hd]

/-! ## Requests that rebalance -/

/-- A request's state with the unit at `f` and notices offered. -/
def State.reforming (s : State) (f : Feeder) (ns : List Notice) : State := { s with feeder := f, host := s.host.offered ns }

/-- What the rebalance of a request's state with the unit at `f` leaves, seen from before the request. -/
theorem State.reforming_rebalance (s : State) (tag : Byte) (q : Request) (f : Feeder) (ns : List Notice) :
    let u := ((s.withRequest tag q).reforming f ns).rebalance
    s.HeatOnly ((s.withRequest tag q).reforming (s.rebalanced f).1 (ns ++ (s.rebalanced f).2)) u.1 (s.shedding f).2
        (s.shedding f).1.pass.2 ∧ u.2 = (s.shedding f).2.length := by
  have h := ((s.withRequest tag q).reforming f ns).rebalance_heatOnly
  refine ⟨⟨?_, rfl, rfl, h.record, h.link, h.told⟩, rfl⟩
  have hsame := h.same
  have hhost : ((s.withRequest tag q).reforming f ns).host.offered (s.rebalanced f).2 =
      (s.withRequest tag q).host.offered (ns ++ (s.rebalanced f).2) := (HostLink.offered_append _ _ _).symm
  unfold State.reforming
  rw [← hhost]
  exact hsame

/-- What a pass over the unit at `f` and the judgement leave. -/
theorem State.reforming_pass (s : State) (f : Feeder) (ns : List Notice) :
    s.HeatOnly (s.reforming f.pass.1.judged.1 (ns ++ f.pass.1.judged.2)) (s.reforming f ns).runPass.1.judgeBacklog [] f.pass.2 := by
  have h := (s.reforming f ns).runPass_heatOnly.judged
  have hhost : (s.host.offered ns).offered f.pass.1.judged.2 = s.host.offered (ns ++ f.pass.1.judged.2) :=
    (HostLink.offered_append _ _ _).symm
  refine ⟨?_, rfl, rfl, h.record, h.link, h.told⟩
  unfold State.reforming
  rw [← hhost]
  exact h.same

/-- A request that is answered with the unit rebalanced. -/
theorem repliesFrom_rebalance {c : Instr} {s : State} {tag : Byte} {q : Request} {st : Status} {res : List Byte} {ns : List Notice}
    {f : Feeder} {holds : State → Prop} (h : s.Takes) (hc : c.request? = some (tag, q)) (hp : Request.passes q = true)
    (ho : (s.withRequest tag q).own q = ((s.withRequest tag q).reforming f ns).rebalance.1.reply st res)
    (hh : ∀ t, OthersKept [] s t → s.Rebalances t f → holds t) :
    RepliesFrom (s.host.offered (ns ++ (s.rebalanced f).2)) (exec c s) s tag q st res [.feeder, .engine, .line] holds := by
  obtain ⟨hheat, -⟩ := s.reforming_rebalance tag q f ns
  generalize ((s.withRequest tag q).reforming f ns).rebalance.1 = u at ho hheat
  have hfeeder : u.feeder = (s.rebalanced f).1 := by rw [hheat.same]; rfl
  have hhost : u.host = (s.withRequest tag q).host.offered (ns ++ (s.rebalanced f).2) := by rw [hheat.same]; rfl
  have hstore : u.store = s.store := by rw [hheat.same]; rfl
  refine repliesFrom_owned _ h hc hp ho (hhost.trans (HostLink.offered_buffer _ _ _)) (h.1.2.of_store hstore) ?_
    fun t ht => hh t ?_ ⟨?_, ?_⟩
  · exact hheat.kept (fun x hx he hl => by cases x <;> simp at hx he hl ⊢ <;> rfl) rfl (by simp) (by simp)
  · exact hheat.othersKept ht (State.reply_engine _ _ _) (State.reply_line _ _ _)
  · exact ht.feeder.trans ((State.reply_feeder _ _ _).trans hfeeder)
  · exact hheat.told.concludes ht (State.reply_engine _ _ _) (State.reply_line _ _ _)

/-- DEMAND_SET of a limit in range. -/
theorem demandSet_replies {s : State} (tag : Byte) {limit : Nat} (duration : Nat) (h : s.Takes) (hlimit : limit ≤ 2000) :
    let d := min duration 240
    let f := s.feeder.demanded limit d
    RepliesFrom (s.host.offered (s.feeder.demandEnds d ++ (s.rebalanced f).2)) (exec (.demandSet tag limit duration) s) s tag
      (.demandSet limit duration) .ok (yesNo (d != 0) ++ u16 (if d = 0 then 0 else limit) ++
        u16 (if d = 0 then s.feeder.limit else min s.feeder.limit limit) ++ u8 d ++ u8 (s.shedding f).2.length)
      [.feeder, .engine, .line] fun t => OthersKept [] s t ∧ s.Rebalances t f := by
  intro d f
  obtain ⟨hheat, hcount⟩ := s.reforming_rebalance tag (.demandSet limit duration) f (s.feeder.demandEnds d)
  have hfeeder := congrArg State.feeder hheat.same
  refine repliesFrom_rebalance h rfl rfl ?_ fun t hothers hrebalances => ⟨hothers, hrebalances⟩
  refine (State.demandSet_eq (s.withRequest tag (.demandSet limit duration)) duration hlimit).trans ?_
  rw [← demandBytes_eq limit d _ (s.rebalanced_settings f), ← hcount]
  exact congrArg (fun g => State.reply _ _ (demandBytes g _ _)) hfeeder

/-- A demand limit that expires: the limit ended, a pass run and the backlog judged (R153 to R155). -/
theorem State.demandExpiry_eq {s : State} {d : Demand} (h : s.feeder.demand = some d) :
    s.demandExpiry = (s.reforming { s.feeder with demand := none } [.demandEnd .expired s.feeder.limit]).runPass.1.judgeBacklog := by
  unfold State.demandExpiry
  rw [h]
  rfl

theorem Feeder.bounded_without_demand {f : Feeder} (h : f.Bounded) : ({ f with demand := none } : Feeder).Bounded := by
  refine ⟨h.1, le_trans h.2 ?_⟩
  unfold Feeder.effectiveLimit
  cases f.demand
  · exact le_refl _
  · exact Nat.min_le_left _ _

/-- Settles O41: DEMAND_SET by the rebalance of the unit with the limit changed, the expiry by a pass and the judgement. -/
theorem demandLimitChanges : Obligations.DemandLimitChanges := by
  refine ⟨fun s tag limit duration h => ?set, fun s hr => ⟨fun hnone => ?late, fun d hd => ?expiry⟩⟩
  case set =>
    intro c q d f effective ended
    refine ⟨fun hbad => refuses_owned h rfl rfl (if_pos hbad), fun hgood => ?_⟩
    obtain ⟨u, hnext, hunchanged, hhost, hothers, hrebalances⟩ := demandSet_replies tag duration h hgood
    have hsettings : f.SameSettings u.feeder := by
      rw [hrebalances.1]
      exact s.rebalanced_settings f
    refine ⟨u, hnext, hunchanged, hhost, hothers, hrebalances, hsettings.demand, hsettings.limit,
      hsettings.effectiveLimit.trans (s.feeder.demanded_effectiveLimit limit d), fun hc => ?_, ?_, fun hmarks => ?_⟩
    all_goals rw [hrebalances.1]
    · exact s.rebalanced_bounded hc
    · exact s.rebalanced_drained f
    · exact s.rebalanced_settled hmarks
  case late =>
    exact leads_nothing ⟨nofun, nofun⟩ hr (by show s.demandExpiry = s; unfold State.demandExpiry; rw [hnone])
  case expiry =>
    intro p
    have hheat := s.reforming_pass { s.feeder with demand := none } [.demandEnd .expired s.feeder.limit]
    have heffect : effect .demandTimerExpiry s = _ := State.demandExpiry_eq hd
    generalize (s.reforming _ _).runPass.1.judgeBacklog = u at hheat heffect
    have hstore : u.store = s.store := by rw [hheat.same]; rfl
    have hfeeder : u.feeder = p.1.judged.1 := by rw [hheat.same]; rfl
    have hhost : u.host = s.host.offered (.demandEnd .expired s.feeder.limit :: p.1.judged.2) := by rw [hheat.same]; rfl
    have hsettings : ({ s.feeder with demand := none } : Feeder).SameSettings p.1.judged.1 :=
      (Feeder.sameSettings_pass _).trans (Feeder.sameSettings_judged _)
    have hprefix (r : RoomNo) : (look s.feeder.rooms r).grants <+: (look p.1.rooms r).grants :=
      Feeder.pass_prefix { s.feeder with demand := none } r
    refine leads_of_effect ⟨nofun, nofun⟩ hr heffect ?_ (hr.2.of_store hstore) fun t ht =>
      ⟨hheat.othersKept ht rfl rfl, ht.feeder.trans hfeeder, hheat.told.concludes ht rfl rfl,
        ht.host.trans (congrArg HostLink.transmit hhost), ?_, ?_, ?_, fun r => ?_, fun hb => ?_, fun hmarks => ?_⟩
    · exact hheat.kept (fun x hx he hl => by cases x <;> simp at hx he hl ⊢ <;> rfl) rfl (by simp) (by simp)
    all_goals rw [ht.feeder.trans hfeeder]
    · exact hsettings.demand
    · exact hsettings.limit
    · exact Feeder.drained_judged (Feeder.pass_drained _)
    · rw [Feeder.judged_eq]
      exact hprefix r
    · exact Feeder.bounded_judged (Feeder.pass_bounded (Feeder.bounded_without_demand hb))
    · refine Feeder.judged_settled _ ?_
      rw [(Feeder.sameSettings_pass _).low, (Feeder.sameSettings_pass _).high]
      exact hmarks

end Sys2Proof.Machine
end

section
/-! SUPPORT. A release of heat as it leaves the unit and the machines told, and one machine's part in an event that may release its heat
(7.2, 7.5). -/
namespace Sys2Proof.Machine

/-! ## Machines with a place in the unit -/

namespace Feeder

variable {f : Feeder} {m : MachineNo}

theorem mem_roomPlaces_iff {x : RoomFeeder} :
    m ∈ roomPlaces x ↔ x.grants.any (·.machine == m) = true ∨ x.newQueue.any (·.machine == m) = true ∨
      x.resumeQueue.any (·.machine == m) = true := by
  simp [roomPlaces]

/-- A machine has a place where it holds a grant or stands in a queue. -/
theorem mem_places_iff : m ∈ f.places ↔ f.holdsGrant m = true ∨ f.queued m = true := by
  simp only [places, List.mem_flatMap, mem_roomPlaces_iff, holdsGrant, queued, List.any_eq_true (l := indexes 4), Bool.or_eq_true]
  constructor
  · rintro ⟨r, hr, h | h⟩
    · exact .inl ⟨r, hr, h⟩
    · exact .inr ⟨r, hr, h⟩
  · rintro (⟨r, hr, h⟩ | ⟨r, hr, h⟩)
    · exact ⟨r, hr, .inl h⟩
    · exact ⟨r, hr, .inr h⟩

theorem notMem_places_iff : m ∉ f.places ↔ f.holdsGrant m = false ∧ f.queued m = false := by
  rw [mem_places_iff, not_or, Bool.not_eq_true, Bool.not_eq_true]

/-- The unit without a machine has no place for it, and leaves the others theirs (R144). -/
theorem without_places (f : Feeder) (m : MachineNo) : (f.without m).places = f.places.filter fun k => k != m := by
  have hroom (cs : List Claim) : (cs.filter fun c => c.machine != m).map Claim.machine = (cs.map Claim.machine).filter fun k => k != m :=
    (List.filter_map (f := Claim.machine) (p := fun k => k != m)).symm
  unfold places
  rw [List.filter_flatMap]
  refine List.flatMap_congr fun r _ => ?_
  simp only [roomPlaces, without, look, Vector.getElem_map, List.map_append, List.filter_append, hroom]

theorem notMem_without (f : Feeder) (m : MachineNo) : m ∉ (f.without m).places := by
  rw [without_places]
  simp

/-- A pass leaves every machine its place, and grants only what has one (R147). -/
theorem pass_places (f : Feeder) : f.pass.1.places.Perm f.places :=
  pass_induction (P := fun f p => p.1.places.Perm f.places) (fun _ _ => List.Perm.refl _)
    (fun _ _ _ _ hgrants ih => ih.trans (afterGrant_places hgrants.1)) f

theorem head_mem_places {r : RoomNo} {q : Turn} {c : Claim} (h : f.HeadFits r q c) : c.machine ∈ f.places := by
  have hmem : c ∈ (look f.rooms r).queue q := List.mem_of_mem_head? h.1
  refine List.mem_flatMap.mpr ⟨r, List.mem_finRange r, List.mem_map_of_mem ?_⟩
  cases q with
  | new => exact List.mem_append_left _ (List.mem_append_right _ hmem)
  | resume => exact List.mem_append_right _ hmem

theorem pass_granted_mem (f : Feeder) : ∀ k ∈ f.pass.2, k ∈ f.places :=
  pass_induction (P := fun f p => ∀ k ∈ p.2, k ∈ f.places) (fun _ _ => nofun)
    (fun f r q c hgrants ih k hk => by
      rcases List.mem_cons.mp hk with rfl | hk
      · exact head_mem_places hgrants.1
      · exact (afterGrant_places hgrants.1).mem_iff.mp (ih k hk)) f

/-- After its release a machine has no place, and the pass has granted it nothing (R144). -/
theorem released_absent (f : Feeder) (m : MachineNo) : m ∉ (f.released m).1.places ∧ m ∉ (f.released m).2 := by
  unfold released
  by_cases h : f.holdsGrant m = true ∨ f.queued m = true
  · rw [if_pos h]
    exact ⟨mt (pass_places _).mem_iff.mp (notMem_without f m), mt (pass_granted_mem _ m) (notMem_without f m)⟩
  · rw [if_neg h]
    exact ⟨mt mem_places_iff.mp h, List.not_mem_nil⟩

theorem places_judged (f : Feeder) : f.judged.1.places = f.places := by
  rw [f.judged_eq]
  rfl

theorem sameSettings_without (f : Feeder) (m : MachineNo) : f.SameSettings (f.without m) :=
  ⟨rfl, fun k => by simp [without, look]⟩

theorem sameSettings_released (f : Feeder) (m : MachineNo) : f.SameSettings (f.released m).1 := by
  unfold released
  split
  · exact (f.sameSettings_without m).trans (sameSettings_pass _)
  · exact SameSettings.refl f

end Feeder

/-! ## Lamps -/

/-- A machine record with a lamp last sent. -/
def MachineRecord.lamped (r : MachineRecord) (a : Lamp) : MachineRecord := { r with lampSent := a }

/-- A node's link with a LAMP waiting, or none. -/
def Link.lamped (l : Link) (b : Option Lamp) : Link := { l with table := { l.table with lamp := b } }

@[simp] theorem MachineRecord.lamped_lamped (r : MachineRecord) (a b : Lamp) : (r.lamped a).lamped b = r.lamped b := rfl
@[simp] theorem Link.lamped_lamped (l : Link) (a b : Option Lamp) : (l.lamped a).lamped b = l.lamped b := rfl
@[simp] theorem Link.lamped_state (l : Link) (b : Option Lamp) : (l.lamped b).state = l.state := rfl
theorem MachineRecord.lamped_self (r : MachineRecord) : r.lamped r.lampSent = r := rfl
theorem Link.lamped_self (l : Link) : l.lamped l.table.lamp = l := rfl

/-- A command other than LAMP leaves the LAMP waiting. -/
theorem Link.sent_lamped (l : Link) (b : Option Lamp) {c : NodeCommand} (hc : ∀ x, c ≠ .lamp x) :
    (l.lamped b).sent c = (l.sent c).lamped b := by
  unfold Link.sent
  rw [Link.lamped_state]
  split
  · rfl
  · cases c
    case lamp x => exact absurd rfl (hc x)
    all_goals rfl

/-- Every machine whose last sent lamp has changed has that lamp waiting in its node's table (R45). -/
def State.LampsWait (s t : State) : Prop := ∀ k,
  (t.machine k).lampSent = (s.machine k).lampSent ∧ (t.link k).table.lamp = (s.link k).table.lamp ∨
    (t.link k).table.lamp = some (t.machine k).lampSent

theorem State.LampsWait.refl (s : State) : s.LampsWait s := fun _ => .inl ⟨rfl, rfl⟩

theorem State.LampsWait.trans {s t u : State} (h : s.LampsWait t) (h' : t.LampsWait u) : s.LampsWait u := fun k => by
  rcases h' k with ⟨hsent, hwait⟩ | hwait
  · rw [hsent, hwait]
    exact h k
  · exact .inr hwait

theorem State.LampsWait.congr {s t u : State} (h : s.LampsWait t) (hm : ∀ k, u.machine k = t.machine k)
    (hl : ∀ k, u.link k = t.link k) : s.LampsWait u := fun k => by
  rw [hm, hl]
  exact h k

/-- A machine's record and link replaced, with no lamp sent. -/
theorem State.lampsWait_placed {s : State} {m : MachineNo} {r : MachineRecord} {l : Link}
    (hr : r.lampSent = (s.machine m).lampSent) (hl : l.table.lamp = (s.link m).table.lamp) : s.LampsWait (s.placed m r l) := fun k => by
  by_cases hk : k = m
  · subst hk
    rw [s.placed_machine, s.placed_link]
    exact .inl ⟨hr, hl⟩
  · rw [s.placed_machine_other m r l hk, s.placed_link_other m r l hk]
    exact .inl ⟨rfl, rfl⟩

/-- A machine shown a lamp. -/
theorem State.lampsWait_shown (s : State) (m : MachineNo) (new : Option Lamp) :
    s.LampsWait (s.placed m ((s.machine m).shown new) ((s.link m).shown new)) := fun k => by
  by_cases hk : k = m
  · subst hk
    rw [s.placed_machine, s.placed_link]
    cases new with
    | none => exact .inl ⟨rfl, rfl⟩
    | some x => exact .inr rfl
  · rw [s.placed_machine_other m _ _ hk, s.placed_link_other m _ _ hk]
    exact .inl ⟨rfl, rfl⟩

theorem Link.sent_lamp (l : Link) {c : NodeCommand} (hc : ∀ x, c ≠ .lamp x) : (l.sent c).table.lamp = l.table.lamp :=
  (congrArg (fun k : Link => k.table.lamp) (l.sent_lamped l.table.lamp hc)).trans rfl

theorem State.lampsWait_modMachine (s : State) (m : MachineNo) {f : MachineRecord → MachineRecord}
    (hf : ∀ r, (f r).lampSent = r.lampSent) : s.LampsWait (s.modMachine m f) := by
  rw [s.modMachine_eq]
  exact State.lampsWait_placed (hf _) rfl

theorem State.lampsWait_modLink (s : State) (m : MachineNo) {f : Link → Link} (hf : ∀ l, (f l).table.lamp = l.table.lamp) :
    s.LampsWait (s.modLink m f) := by
  rw [s.modLink_eq]
  exact State.lampsWait_placed rfl (hf _)

theorem State.lampsWait_send (s : State) (m : MachineNo) {c : NodeCommand} (hc : ∀ x, c ≠ .lamp x) : s.LampsWait (s.send m c) := by
  rw [s.send_eq]
  exact State.lampsWait_placed rfl (Link.sent_lamp _ hc)

theorem State.lampsWait_relamp (s : State) (m : MachineNo) : s.LampsWait (s.relamp m) := by
  rw [s.relamp_eq]
  exact s.lampsWait_shown m _

theorem State.lampsWait_setHeat (s : State) (m : MachineNo) (h : HeatState) : s.LampsWait (s.setHeat m h) :=
  (s.lampsWait_modMachine m (f := fun r => r.heated h) fun _ => rfl).trans (State.lampsWait_relamp _ m)

theorem State.lampsWait_tell (s : State) (h : HeatState) (c : Nat → HeatCommand) (m : MachineNo) : s.LampsWait (s.tell h c m) := by
  unfold State.tell
  split
  · exact (s.lampsWait_setHeat m h).trans (State.lampsWait_send _ m fun x => by cases c _ <;> exact NodeCommand.noConfusion)
  · exact State.LampsWait.refl s

theorem State.forEach_lampsWait {α : Type} {f : α → State → State} (hf : ∀ a (s : State), s.LampsWait (f a s)) (as : List α) (s : State) :
    s.LampsWait (forEach as f s) := by
  induction as generalizing s with
  | nil => exact State.LampsWait.refl s
  | cons a as ih => exact (hf a s).trans (ih _)

/-! ## One machine's part -/

/-- From `s` to `t` machine `m` has the record `r` and its node the link `l`, lamps apart; the other machines have changed in heat and
lamps alone, as the grants `gs` tell them; of the other blocks `t` is `b`. -/
structure State.Becomes (s b t : State) (m : MachineNo) (r : MachineRecord) (l : Link) (gs : List MachineNo) : Prop where
  same : b.SameButMachines t
  machine : ∃ a, t.machine m = r.lamped a
  link : ∃ a, t.link m = l.lamped a
  record : ∀ k, k ≠ m → (t.machine k).butHeat = (s.machine k).butHeat
  links : ∀ k, k ≠ m → (t.link k).butHeat = (s.link k).butHeat
  told : s.HeatTold t [m] [] gs
  lamps : s.LampsWait t

theorem State.HeatTold.refl (s : State) (but : List MachineNo) : s.HeatTold s but [] [] := by
  intro k _
  refine ⟨by cases (s.machine k).session <;> simp, ?_⟩
  cases (s.machine k).session <;> simp

theorem State.HeatTold.congr {s t u : State} {but ws gs : List MachineNo} (h : s.HeatTold t but ws gs)
    (hm : ∀ k, k ∉ but → u.machine k = t.machine k) (hl : ∀ k, k ∉ but → u.link k = t.link k) : s.HeatTold u but ws gs := by
  intro k hk
  rw [hm k hk, hl k hk]
  exact h k hk

/-- A machine as it is. -/
theorem State.becomes_self (s : State) (m : MachineNo) : s.Becomes s s m (s.machine m) (s.link m) [] where
  same := rfl
  machine := ⟨_, (s.machine m).lamped_self.symm⟩
  link := ⟨_, (s.link m).lamped_self.symm⟩
  record _ _ := rfl
  links _ _ := rfl
  told := State.HeatTold.refl s [m]
  lamps := State.LampsWait.refl s

section
variable {s b t u : State} {m : MachineNo} {r r' : MachineRecord} {l l' : Link} {gs : List MachineNo}

/-- The machine's record and link replaced. -/
theorem State.Becomes.placed (h : s.Becomes b t m r l gs) (hr : ∃ a, r₁ = r'.lamped a) (hl : ∃ a, l₁ = l'.lamped a)
    (hwait : t.LampsWait (t.placed m r₁ l₁)) : s.Becomes b (t.placed m r₁ l₁) m r' l' gs where
  same := h.same.trans (t.sameButMachines_placed m r₁ l₁)
  machine := by rw [t.placed_machine]; exact hr
  link := by rw [t.placed_link]; exact hl
  record k hk := by rw [t.placed_machine_other m r₁ l₁ hk]; exact h.record k hk
  links k hk := by rw [t.placed_link_other m r₁ l₁ hk]; exact h.links k hk
  told := h.told.congr (fun k hk => t.placed_machine_other m r₁ l₁ (List.ne_of_not_mem_cons hk))
    fun k hk => t.placed_link_other m r₁ l₁ (List.ne_of_not_mem_cons hk)
  lamps := h.lamps.trans hwait

/-- A change of the machine's record that has nothing to do with its lamp. -/
theorem State.Becomes.modMachine (h : s.Becomes b t m r l gs) (f : MachineRecord → MachineRecord)
    (hf : ∀ r a, f (r.lamped a) = (f r).lamped a := by intro _ _; rfl) : s.Becomes b (t.modMachine m f) m (f r) l gs := by
  have hwait := t.lampsWait_modMachine m (f := f) fun r => (congrArg MachineRecord.lampSent (hf r r.lampSent) :)
  rw [t.modMachine_eq m f] at hwait ⊢
  obtain ⟨a, hm⟩ := h.machine
  exact h.placed ⟨a, by rw [hm, hf]⟩ h.link hwait

theorem State.Becomes.modLink (h : s.Becomes b t m r l gs) (f : Link → Link)
    (hf : ∀ l a, f (l.lamped a) = (f l).lamped a := by intro _ _; rfl) : s.Becomes b (t.modLink m f) m r (f l) gs := by
  have hwait := t.lampsWait_modLink m (f := f) fun l => (congrArg (fun l : Link => l.table.lamp) (hf l l.table.lamp) :)
  rw [t.modLink_eq m f] at hwait ⊢
  obtain ⟨a, hl⟩ := h.link
  exact h.placed h.machine ⟨a, by rw [hl, hf]⟩ hwait

theorem State.Becomes.send (h : s.Becomes b t m r l gs) (c : NodeCommand) (hc : ∀ x, c ≠ .lamp x := by intro _; nofun) :
    s.Becomes b (t.send m c) m r (l.sent c) gs := by
  have hwait := t.lampsWait_send m hc
  rw [t.send_eq m c] at hwait ⊢
  obtain ⟨a, hl⟩ := h.link
  exact h.placed h.machine ⟨a, by rw [hl, l.sent_lamped a hc]⟩ hwait

theorem State.Becomes.relamp (h : s.Becomes b t m r l gs) : s.Becomes b (t.relamp m) m r l gs := by
  have hwait := t.lampsWait_relamp m
  rw [t.relamp_eq] at hwait ⊢
  obtain ⟨a, hm⟩ := h.machine
  obtain ⟨c, hl⟩ := h.link
  exact h.placed ⟨_, by rw [hm]; rfl⟩ ⟨_, by rw [hl]; rfl⟩ hwait

theorem State.Becomes.session (h : s.Becomes b t m r l gs) : t.session m = r.session := by
  obtain ⟨a, hm⟩ := h.machine
  exact (congrArg MachineRecord.session hm :)

theorem State.Becomes.state (h : s.Becomes b t m r l gs) : (t.machine m).state = r.state := by
  obtain ⟨a, hm⟩ := h.machine
  exact (congrArg MachineRecord.state hm :)

/-- What machine `m` does leaves the start-up state of `b` alone: another machine was RECOVERING in `s` if the part is (R209). -/
def State.KeepsStart (b s : State) (m : MachineNo) : Prop := b.startUp = .recovering → ∃ k, k ≠ m ∧ (s.machine k).state = .recovering

/-- Another machine RECOVERING before is so after. -/
theorem State.Becomes.otherRecovering (h : s.Becomes b t m r l gs) (hcalm : b.KeepsStart s m) :
    t.OtherRecovering m := by
  intro hrec
  have hsame : t.startUp = b.startUp := by rw [h.same]
  obtain ⟨k, hk, hstate⟩ := hcalm (hsame.symm.trans hrec)
  have hbut := congrArg MachineRecord.state (h.record k hk)
  exact ⟨k, hk, hbut.trans hstate⟩

theorem State.Becomes.enter (h : s.Becomes b t m r l gs) (hcalm : b.KeepsStart s m)
    (st : MachineState) : s.Becomes b (t.enter m st) m (r.inState st) l gs := by
  have h' := (h.modMachine fun r => r.inState st).relamp
  have henter : t.enter m st = (t.modMachine m fun r => r.inState st).relamp m :=
    (h'.otherRecovering hcalm).endRecovering
  rw [henter]
  exact h'

theorem State.Becomes.setHeat (h : s.Becomes b t m r l gs) (x : HeatState) : s.Becomes b (t.setHeat m x) m (r.heated x) l gs :=
  (h.modMachine fun r => r.heated x).relamp

theorem State.Becomes.modSession (h : s.Becomes b t m r l gs) (f : Session → Session) :
    s.Becomes b (t.modSession m f) m { r with session := r.session.map f } l gs :=
  h.modMachine fun r => { r with session := r.session.map f }

/-- A step that leaves machines and links. -/
theorem State.Becomes.rebase {b' t' : State} (h : s.Becomes b t m r l gs) (hsame : b'.SameButMachines t')
    (ht : t'.engine.machines = t.engine.machines) (hl : t'.line.links = t.line.links) : s.Becomes b' t' m r l gs := by
  have hm (k : MachineNo) : t'.machine k = t.machine k := congrArg (fun v => look v k) ht
  have hk (k : MachineNo) : t'.link k = t.link k := congrArg (fun v => look v k) hl
  exact {
    same := hsame
    machine := by rw [hm]; exact h.machine
    link := by rw [hk]; exact h.link
    record := fun k hne => by rw [hm k]; exact h.record k hne
    links := fun k hne => by rw [hk k]; exact h.links k hne
    told := h.told.congr (fun k _ => hm k) fun k _ => hk k
    lamps := h.lamps.congr hm hk }

/-- A change `f` of blocks other than the session engine's machines and the line's links. -/
theorem State.SameButMachines.through (h : b.SameButMachines t) (f : State → State)
    (hf : ∀ (u : State) ms ls, f { u with engine := { u.engine with machines := ms }, line := { u.line with links := ls } } =
      { f u with engine := { (f u).engine with machines := ms }, line := { (f u).line with links := ls } }) :
    (f b).SameButMachines (f t) := by
  unfold State.SameButMachines at h ⊢
  have heq := (congrArg f h).trans (hf b _ _)
  have hm : (f t).engine.machines = t.engine.machines := by rw [heq]
  have hl : (f t).line.links = t.line.links := by rw [heq]
  rw [hm, hl]
  exact heq

theorem State.Becomes.through (h : s.Becomes b t m r l gs) (f : State → State)
    (hf : ∀ (u : State) ms ls, f { u with engine := { u.engine with machines := ms }, line := { u.line with links := ls } } =
      { f u with engine := { (f u).engine with machines := ms }, line := { (f u).line with links := ls } } := by intro _ _ _; rfl) :
    s.Becomes (f b) (f t) m r l gs := by
  have heq := (congrArg f h.same).trans (hf b _ _)
  exact h.rebase (h.same.through f hf) (by rw [heq]) (by rw [heq])

end

/-! ## Releases -/

/-- Grants told after what an event has told before. -/
theorem State.HeatTold.andGrants {s t u : State} {but ws gs as : List MachineNo} (h : s.HeatTold t but ws gs)
    (hrecord : ∀ k, k ∉ but → (t.machine k).butHeat = (s.machine k).butHeat)
    (hlink : ∀ k, k ∉ but → (t.link k).butHeat = (s.link k).butHeat) (k : t.Told u as .granted .grant) :
    s.HeatTold u but ws (gs ++ as) := by
  intro i hi
  obtain ⟨hheat, htable⟩ := h i hi
  have hid := MachineRecord.id_of_butHeat (hrecord i hi)
  have hstate := Link.state_of_butHeat (hlink i hi)
  by_cases ha : i ∈ as
  · rw [k.heat i, k.table i]
    cases hs : (s.machine i).session <;> cases ht : (t.machine i).session <;> simp [hs, ht, ha, hstate] at hid htable ⊢
    · exact htable
    · by_cases hd : (s.link i).state = .disabled <;> simp [hd, hid] at htable ⊢
      exact htable
  · obtain ⟨hm, hl⟩ := k.other i ha
    rw [hm, hl, hheat, htable]
    refine ⟨by simp [ha], ?_⟩
    cases (s.machine i).session <;> simp [ha]

section
variable {s b t u : State} {m : MachineNo} {r : MachineRecord} {l : Link} {gs as : List MachineNo}

theorem State.Becomes.grants (h : s.Becomes b t m r l gs) (hm : m ∉ as) :
    s.Becomes b (forEach as (fun k u => u.tell .granted .grant k) t) m r l (gs ++ as) := by
  have k := t.forEach_tell .granted .grant as
  obtain ⟨hmachine, hlink⟩ := k.other m hm
  exact {
    same := h.same.trans (t.forEach_tell_same _ _ _)
    machine := by rw [hmachine]; exact h.machine
    link := by rw [hlink]; exact h.link
    record := fun i hi => (k.record i).trans (h.record i hi)
    links := fun i hi => (k.link i).trans (h.links i hi)
    told := h.told.andGrants (fun i hi => h.record i (List.ne_of_not_mem_cons hi)) (fun i hi => h.links i (List.ne_of_not_mem_cons hi)) k
    lamps := h.lamps.trans (State.forEach_lampsWait (fun k u => u.lampsWait_tell .granted .grant k) as t) }

/-- The claim of machine `m` removed and a pass run, the grants told (R144, R149). -/
theorem State.Becomes.dropClaim (h : s.Becomes b t m r l gs) :
    s.Becomes { b with feeder := (b.feeder.released m).1 } (t.dropClaim m) m r l (gs ++ (b.feeder.released m).2) := by
  have hfeeder : t.feeder = b.feeder := by rw [h.same]
  have heq : t.dropClaim m = forEach (b.feeder.released m).2 (fun k u => u.tell .granted .grant k)
      { t with feeder := (b.feeder.released m).1 } := by
    rw [t.dropClaim_eq, hfeeder]
    rfl
  rw [heq]
  exact (h.through fun u => { u with feeder := (b.feeder.released m).1 }).grants (Feeder.released_absent _ m).2

/-- The backlog judged (R155). -/
theorem State.Becomes.judgeBacklog (h : s.Becomes b t m r l gs) :
    s.Becomes { b with feeder := b.feeder.judged.1, host := b.host.offered b.feeder.judged.2 } t.judgeBacklog m r l gs := by
  have heq : (fun u : State => { u with feeder := u.feeder.judged.1, host := u.host.offered u.feeder.judged.2 }) t = t.judgeBacklog :=
    t.judgeBacklog_eq.symm
  rw [← heq]
  exact h.through fun u => { u with feeder := u.feeder.judged.1, host := u.host.offered u.feeder.judged.2 }

/-- The unit and the host link once machine `m`'s heat is released (R144, R155). -/
def State.releasing (b : State) (m : MachineNo) : State :=
  { b with
    feeder := (b.feeder.released m).1.judged.1
    host := b.host.offered (b.feeder.released m).1.judged.2 }

theorem State.Becomes.releaseHeat (h : s.Becomes b t m r l gs) :
    s.Becomes (b.releasing m) (t.releaseHeat m) m r l (gs ++ (b.feeder.released m).2) :=
  h.dropClaim.judgeBacklog

theorem State.Becomes.enqueue (h : s.Becomes b t m r l gs) (q : PayRequest) : s.Becomes (b.enqueue q) (t.enqueue q) m r l gs :=
  h.through fun u => u.enqueue q

theorem State.Becomes.notify (h : s.Becomes b t m r l gs) (n : Notice) : s.Becomes (b.notify n) (t.notify n) m r l gs :=
  h.through fun u => u.notify n

/-! ## The end of a session -/

/-- A node's link as the end of its machine's session leaves it (R6, R35). -/
def Link.ending (l : Link) (was : MachineState) (cause : EndCause) (id : Nat) : Link :=
  match endCommand was cause id with
  | some c => ({ l with table := l.table.dropSession id } : Link).sent c
  | none => { l with table := l.table.dropSession id }

theorem endCommand_notLamp {was : MachineState} {cause : EndCause} {id : Nat} {c : NodeCommand}
    (h : endCommand was cause id = some c) (x : Lamp) : c ≠ .lamp x := by
  rintro rfl
  cases was <;> simp [endCommand] at h

theorem State.Becomes.endCommands (h : s.Becomes b t m r l gs) (was : MachineState) (cause : EndCause) (id : Nat) :
    s.Becomes b (t.endCommands m was cause id) m r (l.ending was cause id) gs := by
  have h' := h.modLink fun l => { l with table := l.table.dropSession id }
  unfold State.endCommands Link.ending
  cases hc : endCommand was cause id with
  | some c => exact h'.send c (endCommand_notLamp hc)
  | none => exact h'

/-- A machine record as the end of its session `x` leaves it, lamps apart (R6). -/
def MachineRecord.ending (r : MachineRecord) (x : Session) (cause : EndCause) (after : AfterSettle) : MachineRecord :=
  { r with
    state := .settling
    session := some { x with endCause := some cause, heat := .none }
    afterSettle := after
    lastEnd := some cause
    outstanding := if x.parts ≠ [] ∧ r.outstanding = .none then .settle else r.outstanding
    stoppedId := if endsBeforeStart r.state then x.id else r.stoppedId
    armTimer := none
    minuteTimer := false
    graceTimer := none
    recoveryWindow := false }

/-- The SETTLE of an ended session placed, unless it has no part or a request is outstanding (R6). -/
def State.placing (b : State) (m : MachineNo) (r : MachineRecord) (x : Session) (cause : EndCause) (e : Nat) : State :=
  if x.parts ≠ [] ∧ r.outstanding = .none then b.enqueue (.settle m x.id cause e x.paused) else b

/-- The blocks other than machines and links once the session `x` of machine `m` has ended, its SETTLE carrying `e` (R6). -/
def State.endingBase (b : State) (m : MachineNo) (r : MachineRecord) (x : Session) (cause : EndCause) (e : Nat) : State :=
  (b.releasing m).placing m r x cause e

/-- SETTLE placed for a session that has ended (R6). -/
theorem State.Becomes.placeSettle {x : Session} {cause : EndCause} (h : s.Becomes b t m r l gs) (hx : r.session = some x)
    (hcause : x.endCause = some cause) (e : Nat) :
    s.Becomes (b.enqueue (.settle m x.id cause e x.paused)) (t.placeSettle m e) m { r with outstanding := .settle } l gs := by
  have hsession : t.session m = some x := h.session.trans hx
  have heq : t.placeSettle m e =
      (t.modMachine m fun r => { r with outstanding := .settle }).enqueue (.settle m x.id cause e x.paused) := by
    simp only [State.placeSettle, hsession, hcause]
  rw [heq]
  exact (h.modMachine _).enqueue _

/-- The stopped session id taken, or not (R6). -/
theorem State.Becomes.stops (h : s.Becomes b t m r l gs) (early : Bool) (id : Nat) :
    s.Becomes b (if early then t.modMachine m fun r => { r with stoppedId := id } else t) m
      { r with stoppedId := if early then id else r.stoppedId } l gs := by
  cases early
  · exact h
  · exact h.modMachine _

/-- The end of a session, its machine entering SETTLING as `henter` says (R6). -/
theorem State.Becomes.endSessionWith_of_enter {b' : State} {x : Session} (h : s.Becomes b t m r l gs) (hx : r.session = some x)
    (cause : EndCause) (after : AfterSettle) (e : Nat)
    (henter : ∀ {u q gs}, s.Becomes (b.releasing m) u m q l gs → s.Becomes b' (u.enter m .settling) m (q.inState .settling) l gs) :
    s.Becomes (b'.placing m r x cause e) (t.endSessionWith m cause after e) m (r.ending x cause after)
      (l.ending r.state cause x.id) (gs ++ (b.feeder.released m).2) := by
  obtain ⟨a, hm⟩ := h.machine
  have hsession : t.session m = some x := h.session.trans hx
  have hwas : (t.machine m).state = r.state := h.state
  have hout : (t.machine m).outstanding = r.outstanding := by rw [hm]; rfl
  have h1 := h.modMachine fun r => r.ended cause after
  have h2 := (henter (h1.releaseHeat.setHeat .none)).endCommands r.state cause x.id
  have hended : (r.ended cause after).heated .none = { r.ended cause after with
      session := some { x with endCause := some cause, heat := .none } } := by simp [MachineRecord.ended, MachineRecord.heated, hx]
  rw [hended] at h2
  have h3 := State.Becomes.stops h2 (endsBeforeStart r.state) x.id
  unfold State.endSessionWith State.placing MachineRecord.ending
  simp only [hsession, hwas, hout]
  split
  · next hp =>
    exact h3.placeSettle rfl rfl e
  · next hp =>
    exact h3

/-- The end of a session (R6). -/
theorem State.Becomes.endSessionWith {x : Session} (h : s.Becomes b t m r l gs)
    (hcalm : b.KeepsStart s m) (hx : r.session = some x) (cause : EndCause)
    (after : AfterSettle) (e : Nat) :
    s.Becomes (b.endingBase m r x cause e) (t.endSessionWith m cause after e) m (r.ending x cause after)
      (l.ending r.state cause x.id) (gs ++ (b.feeder.released m).2) :=
  h.endSessionWith_of_enter hx cause after e fun hu => hu.enter hcalm .settling

/-- The end of a session that carries its own `e` (R6). -/
theorem State.Becomes.endSession {x : Session} (h : s.Becomes b t m r l gs) (hcalm : b.KeepsStart s m) (hx : r.session = some x) (cause : EndCause) (after : AfterSettle) :
    s.Becomes (b.endingBase m r x cause x.elapsed) (t.endSession m cause after) m (r.ending x cause after)
      (l.ending r.state cause x.id) (gs ++ (b.feeder.released m).2) := by
  have hsession : t.session m = some x := h.session.trans hx
  unfold State.endSession
  rw [hsession]
  exact h.endSessionWith hcalm hx cause after x.elapsed

/-! ## Completion -/

/-- A machine record as its entry into an after-settle state leaves it, its node's link being `l` (R3, R7). -/
def MachineRecord.entering (r : MachineRecord) (after : AfterSettle) (l : Link) : MachineRecord :=
  match after with
  | .lockedOut code => { r with state := .lockedOut, lockout := some code }
  | .offline => { r with state := if r.enabled && (l.state == .online || l.state == .silent) then .idle else .offline }
  | .idle => { r with state := .idle }
  | .done => { r with state := if r.doorOpened then .idle else .done, doorOpened := false }

/-- The node's link as that entry leaves it (R169). -/
def Link.entering (l : Link) (after : AfterSettle) : Link :=
  match after with
  | .lockedOut _ => l.sent (.lock true)
  | _ => l

/-- The lockout mark of that entry: none where the slot write wrote the code (R169). -/
def State.marking (b : State) (m : MachineNo) (after : AfterSettle) (slotCode : Option (Option FaultCode)) : State :=
  match after with
  | .lockedOut code => if slotCode = some (some code) then b else b.markLockout m
  | _ => b

theorem State.Becomes.enterLockedOut (h : s.Becomes b t m r l gs) (hcalm : b.KeepsStart s m)
    (code : FaultCode) :
    s.Becomes b (t.enterLockedOut m code) m { r with state := .lockedOut, lockout := some code } (l.sent (.lock true)) gs :=
  ((h.modMachine fun r => { r with lockout := some code }).enter hcalm .lockedOut).send (.lock true)

theorem State.Becomes.markLockout (h : s.Becomes b t m r l gs) : s.Becomes (b.markLockout m) (t.markLockout m) m r l gs :=
  h.through fun u => u.markLockout m

theorem State.Becomes.enterOffline (h : s.Becomes b t m r l gs) (hcalm : b.KeepsStart s m) :
    s.Becomes b (t.enterOffline m) m
      { r with state := if r.enabled && (l.state == .online || l.state == .silent) then .idle else .offline } l gs := by
  have h' := h.enter hcalm .offline
  obtain ⟨a, hm⟩ := h'.machine
  obtain ⟨c, hl⟩ := h'.link
  have henabled : ((t.enter m .offline).machine m).enabled = r.enabled := by rw [hm]; rfl
  have hstate : ((t.enter m .offline).link m).state = l.state := by rw [hl]; rfl
  unfold State.enterOffline
  simp only [henabled, hstate]
  split
  · exact h'.enter hcalm .idle
  · exact h'

theorem State.Becomes.enterAfter (h : s.Becomes b t m r l gs) (hcalm : b.KeepsStart s m)
    (slotCode : Option (Option FaultCode)) : s.Becomes (b.marking m r.afterSettle slotCode) (t.enterAfter m slotCode) m
      (r.entering r.afterSettle l) (l.entering r.afterSettle) gs := by
  obtain ⟨a, hm⟩ := h.machine
  have hafter : (t.machine m).afterSettle = r.afterSettle := by rw [hm]; rfl
  have hdoor : (t.machine m).doorOpened = r.doorOpened := by rw [hm]; rfl
  unfold State.enterAfter
  rw [hafter, hdoor]
  cases r.afterSettle with
  | lockedOut code =>
    have h' := h.enterLockedOut hcalm code
    unfold State.marking
    by_cases hcode : slotCode = some (some code)
    · simp only [if_pos hcode]
      exact h'
    · simp only [if_neg hcode]
      exact h'.markLockout
  | offline => exact h.enterOffline hcalm
  | idle => exact h.enter hcalm .idle
  | done =>
    have h' := h.enter hcalm .done
    unfold MachineRecord.entering
    by_cases hd : r.doorOpened = true
    · simp only [hd, if_true]
      exact (h'.modMachine fun r => { r with doorOpened := false }).enter hcalm .idle
    · have hrecord : ({ r with state := .done, doorOpened := false } : MachineRecord) = r.inState .done := by
        rw [← Bool.not_eq_true _ |>.mp hd]
        rfl
      simp only [hd]
      exact hrecord ▸ h'

/-- The blocks other than machines and links once machine `m`'s settlement has completed (R7). -/
def State.completing (b : State) (m : MachineNo) (r : MachineRecord) (x : Session) (parts : List Part)
    (slotCode : Option (Option FaultCode)) : State :=
  ((b.notify (.sessionEnded m x.id x.mode x.endCause x.elapsed x.paused parts)).writeCharge m (totalCharge parts)).marking m
    r.afterSettle slotCode

/-- A machine record as the completion of its session `x`'s settlement leaves it (R7). -/
def MachineRecord.completed (r : MachineRecord) (x : Session) (l : Link) : MachineRecord :=
  ({ r with lastEnd := x.endCause, session := none, outstanding := .none } : MachineRecord).entering r.afterSettle l

theorem State.Becomes.writeCharge (h : s.Becomes b t m r l gs) (total : Nat) :
    s.Becomes (b.writeCharge m total) (t.writeCharge m total) m r l gs :=
  h.through (fun u => u.writeCharge m total) fun u ms ls => by
    simp only [State.writeCharge]
    split <;> rfl

theorem State.writeCharge_startUp (b : State) (m : MachineNo) (total : Nat) : (b.writeCharge m total).startUp = b.startUp := by
  unfold State.writeCharge
  split <;> rfl

theorem State.Becomes.completeSettlement {x : Session} (h : s.Becomes b t m r l gs) (hcalm : b.KeepsStart s m)
    (hx : r.session = some x) (parts : List Part) (slotCode : Option (Option FaultCode)) :
    s.Becomes (b.completing m r x parts slotCode) (t.completeSettlement m parts slotCode) m (r.completed x l)
      (l.entering r.afterSettle) gs := by
  have hsession : t.session m = some x := h.session.trans hx
  have h1 := ((h.modMachine fun r => { r with lastEnd := x.endCause }).notify
    (.sessionEnded m x.id x.mode x.endCause x.elapsed x.paused parts)).writeCharge (totalCharge parts)
  have h2 := h1.modMachine fun r => { r with session := none, outstanding := .none }
  unfold State.completeSettlement
  rw [hsession]
  exact h2.enterAfter (fun hrec => hcalm (((b.notify _).writeCharge_startUp m _).symm.trans hrec)) slotCode

/-- The completion at once of a session that has ended with no part (R6 step 7). -/
theorem State.Becomes.completeIfEmpty {x : Session} (h : s.Becomes b t m r l gs) (hcalm : b.KeepsStart s m)
    (hx : r.session = some x) (hsettling : r.state = .settling) (hparts : x.parts = []) :
    s.Becomes (b.completing m r x [] none) (t.completeIfEmpty m) m (r.completed x l) (l.entering r.afterSettle) gs := by
  have hsession : t.session m = some x := h.session.trans hx
  have hstate : (t.machine m).state = .settling := h.state.trans hsettling
  unfold State.completeIfEmpty
  rw [hsession]
  simp only [hstate, hparts, and_self, if_true]
  exact h.completeSettlement hcalm hx [] none

/-- With a part, or not settling, nothing is completed at once. -/
theorem State.completeIfEmpty_of_parts {x : Session} (hx : (t.machine m).session = some x) (hparts : x.parts ≠ []) :
    t.completeIfEmpty m = t := by
  unfold State.completeIfEmpty
  rw [show t.session m = some x from hx]
  exact if_neg fun h => hparts h.2

theorem State.Becomes.completeIfEmpty_of_parts {x : Session} (h : s.Becomes b t m r l gs) (hx : r.session = some x)
    (hparts : x.parts ≠ []) : s.Becomes b (t.completeIfEmpty m) m r l gs := by
  rw [State.completeIfEmpty_of_parts (h.session.trans hx) hparts]
  exact h

/-! ## What each change leaves of the blocks -/

theorem Kept.refl (xs : List Block) (s : State) : Kept xs s s := ⟨rfl, fun y _ => by cases y <;> rfl⟩

theorem Kept.mono {xs ys : List Block} {s t : State} (h : Kept xs s t) (hsub : ∀ x ∈ xs, x ∈ ys) : Kept ys s t :=
  ⟨h.1, fun y hy => h.2 y (mt (hsub y) hy)⟩

/-- A further change that keeps every block but some of those listed. -/
theorem Kept.and {xs ys : List Block} {s t u : State} (h : Kept xs s t) (h' : Kept ys t u) (hsub : ∀ y ∈ ys, y ∈ xs := by decide) :
    Kept xs s u := by
  refine ⟨h'.1.trans h.1, fun y hy => ?_⟩
  have hfirst := h.2 y hy
  have hsecond := h'.2 y (mt (hsub y) hy)
  cases y <;> exact Eq.trans hsecond hfirst

theorem State.kept_host (s : State) (g : HostLink) : Kept [.host] s ({ s with host := g } : State) := by
  refine ⟨rfl, fun y hy => ?_⟩
  cases y
  case host => simp at hy
  all_goals rfl

/-- Notices offered. -/
def State.offering (b : State) (ns : List Notice) : State := { b with host := b.host.offered ns }

theorem State.kept_offering (s : State) (ns : List Notice) : Kept [.host] s (s.offering ns) := s.kept_host _

theorem State.kept_payment (s : State) (p : PaymentUnit) : Kept [.payment] s ({ s with payment := p } : State) := by
  refine ⟨rfl, fun y hy => ?_⟩
  cases y
  case payment => simp at hy
  all_goals rfl

theorem State.kept_feeder (s : State) (f : Feeder) : Kept [.feeder] s ({ s with feeder := f } : State) := by
  refine ⟨rfl, fun y hy => ?_⟩
  cases y
  case feeder => simp at hy
  all_goals rfl

theorem State.kept_releasing (s : State) (m : MachineNo) : Kept [.feeder, .host] s (s.releasing m) := by
  refine ⟨rfl, fun y hy => ?_⟩
  cases y
  case feeder | host => simp at hy
  all_goals rfl

theorem State.kept_enqueue (s : State) (q : PayRequest) : Kept [.payment] s (s.enqueue q) := by
  refine ⟨rfl, fun y hy => ?_⟩
  cases y
  case payment => simp at hy
  all_goals rfl

theorem State.kept_notify (s : State) (n : Notice) : Kept [.host] s (s.notify n) := by
  refine ⟨rfl, fun y hy => ?_⟩
  cases y
  case host => simp at hy
  all_goals rfl

theorem State.kept_takeId (s : State) : Kept [.engine] s (s.takeId) := by
  refine ⟨rfl, fun y hy => ?_⟩
  cases y
  case engine => simp at hy
  all_goals rfl

theorem State.kept_markLockout (s : State) (m : MachineNo) : Kept [.store] s (s.markLockout m) := by
  refine ⟨rfl, fun y hy => ?_⟩
  cases y
  case store => simp at hy
  all_goals rfl

theorem State.kept_writeRecord (s : State) (source : Source) (code : FaultCode) (sev : Severity) (ref : Reference) : Kept [.supervisor] s (s.writeRecord source code sev ref) := by
  refine ⟨rfl, fun y hy => ?_⟩
  cases y
  case supervisor => simp at hy
  all_goals rfl

theorem State.kept_writeCharge (s : State) (m : MachineNo) (total : Nat) : Kept [.supervisor] s (s.writeCharge m total) := by
  unfold State.writeCharge
  split
  · exact ⟨rfl, fun y _ => by cases y <;> rfl⟩
  · refine ⟨rfl, fun y hy => ?_⟩
    cases y
    case supervisor => simp at hy
    all_goals rfl

theorem State.kept_placing (s : State) (m : MachineNo) (r : MachineRecord) (x : Session) (cause : EndCause) (e : Nat) :
    Kept [.payment] s (s.placing m r x cause e) := by
  unfold State.placing
  split
  · exact s.kept_enqueue _
  · exact Kept.refl _ s

theorem State.kept_marking (s : State) (m : MachineNo) (after : AfterSettle) (slotCode : Option (Option FaultCode)) :
    Kept [.store] s (s.marking m after slotCode) := by
  unfold State.marking
  split
  · split
    · exact Kept.refl _ s
    · exact s.kept_markLockout m
  · exact Kept.refl _ s

/-! ## The state the event leaves -/

theorem State.Becomes.othersKept {t' : State} (h : s.Becomes b t m r l gs) (ht : u.Concludes t') (he : u.engine = t.engine)
    (hl : u.line = t.line) (hengine : b.engine = { s.engine with machines := b.engine.machines }) (hline : b.line = { s.line with
      links := b.line.links }) : OthersKept [m] s t' := by
  refine othersKept_of_butHeat ht he hl ?_ ?_ (fun k hk => h.record k (List.ne_of_not_mem_cons hk)) fun k hk =>
    h.links k (List.ne_of_not_mem_cons hk)
  · have heq := congrArg State.engine h.same
    rw [hengine] at heq
    exact heq
  · have heq := congrArg State.line h.same
    rw [hline] at heq
    exact heq

theorem State.Becomes.kept {xs : List Block} (h : s.Becomes b t m r l gs) (hb : Kept xs s b) (hengine : .engine ∈ xs)
    (hline : .line ∈ xs) : Kept xs s t := by
  refine ⟨by rw [h.same]; exact hb.1, fun x hx => ?_⟩
  have hkept := hb.2 x hx
  rw [h.same]
  cases x
  case engine => exact absurd hengine hx
  case line => exact absurd hline hx
  all_goals exact hkept

end

end Sys2Proof.Machine
end

section
/-! SUPPORT. Requests that begin or end a machine's session: SERVICE_START, ABORT and LOCK (1.8, 8.2, 8.4). -/
namespace Sys2Proof.Machine

/-! ## Notices offered around a reply -/

theorem HostLink.offer_answering (h : HostLink) (f : Frame) (st : Status) (res : List Byte) (n : Notice) :
    (h.answering f st res).offer n = (h.offer n).answering f st res := by
  unfold HostLink.offer HostLink.answering
  (repeat' split) <;> rfl

/-- What a reply sets and the notices offered do not touch one another. -/
theorem HostLink.offered_answering (h : HostLink) (f : Frame) (st : Status) (res : List Byte) (ns : List Notice) :
    (h.answering f st res).offered ns = (h.offered ns).answering f st res := by
  induction ns generalizing h with
  | nil => rfl
  | cons n ns ih =>
    have hstep (g : HostLink) : g.offered (n :: ns) = (g.offer n).offered ns := rfl
    rw [hstep, hstep, HostLink.offer_answering, ih]

theorem State.kept_withRequest (s : State) (tag : Byte) (q : Request) {xs : List Block} : Kept (.host :: xs) s (s.withRequest tag q) := by
  refine ⟨rfl, fun y hy => ?_⟩
  cases y
  case host => simp at hy
  all_goals rfl

theorem HostLink.offered_singleton (h : HostLink) (n : Notice) : h.offer n = h.offered [n] := rfl

/-- A request answered by its owner, whatever the owner does after it has handed the reply over. -/
theorem repliesFrom_left {c : Instr} {s w : State} {tag : Byte} {q : Request} {st : Status} {res : List Byte} {xs : List Block}
    {holds : State → Prop} (g : HostLink) (h : s.Takes) (hc : c.request? = some (tag, q)) (hp : Request.passes q = true)
    (ho : (s.withRequest tag q).own q = w) (hhost : w.host = g.answering (requestFrame tag q) st res) (hset : w.Settled)
    (hk : Kept (.host :: xs) s w) (hh : ∀ t, w.Concludes t → holds t) : RepliesFrom g (exec c s) s tag q st res xs holds := by
  have hrequest : s.request tag q = w := (s.request_owner tag q h hp).trans ho
  unfold RepliesFrom
  rw [exec_request c s tag q hc]
  refine leads_act h.1.1 ?_ ?_ ⟨?_, ?_⟩
  · rw [hrequest]; exact hk
  · rw [hrequest]; exact hset
  · rw [hrequest, hset.concludes.host, hhost]
  · rw [hrequest]; exact hh _ hset.concludes

theorem HostLink.offered_keepsBuffer (h : HostLink) (ns : List Notice) : (h.offered ns).buffer = h.buffer :=
  (congrArg HostLink.buffer (h.offered_buffer h.buffer ns) :)

/-- The host link of an answered request, the notices offered while the request was the current one. -/
theorem HostLink.requested_answering (h : HostLink) (f : Frame) (st : Status) (res : List Byte) (ns : List Notice) :
    (({ h with buffer := [f] } : HostLink).offered ns).answering f st res = (h.offered ns).answering f st res := by
  rw [HostLink.offered_buffer]
  rfl

/-- A notice offered after the reply was handed over. -/
theorem HostLink.requested_answering_offer (h : HostLink) (f : Frame) (st : Status) (res : List Byte) (ns : List Notice) (n : Notice) :
    ((({ h with buffer := [f] } : HostLink).offered ns).answering f st res).offer n = (h.offered (ns ++ [n])).answering f st res := by
  rw [HostLink.offer_answering, HostLink.offered_buffer, HostLink.offer_buffer, HostLink.offered_append]
  rfl

/-- A reply handed over while the request is the current one. -/
theorem State.Becomes.reply {s b t : State} {m : MachineNo} {r : MachineRecord} {l : Link} {gs : List MachineNo}
    (h : s.Becomes b t m r l gs) (f : Frame) (hb : b.host.buffer = [f]) (st : Status) (res : List Byte) :
    s.Becomes { b with host := b.host.answering f st res } (t.reply st res) m r l gs := by
  rw [← State.reply_eq b f st res hb]
  exact h.through (fun u => u.reply st res) fun u ms ls => by
    simp only [State.reply]
    cases u.host.buffer <;> rfl

/-- A request from whose effect one machine becomes `r` and `l`. -/
theorem repliesNoticing_becomes {c : Instr} {s b w : State} {tag : Byte} {q : Request} {st : Status} {res : List Byte}
    {xs : List Block} {holds : State → Prop} {m : MachineNo} {r : MachineRecord} {l : Link} {gs : List MachineNo} (ns : List Notice)
    (h : s.Takes) (hc : c.request? = some (tag, q)) (hp : Request.passes q = true) (ho : (s.withRequest tag q).own q = w)
    (hw : (s.withRequest tag q).Becomes b w m r l gs) (hhost : b.host = (s.host.offered ns).answering (requestFrame tag q) st res)
    (hset : b.Settled) (hb : Kept (.host :: xs) (s.withRequest tag q) b) (hengine : .engine ∈ xs) (hline : .line ∈ xs)
    (hh : ∀ t, w.Concludes t → holds t) : RepliesFrom (s.host.offered ns) (exec c s) s tag q st res xs holds := by
  refine repliesFrom_left _ h hc hp ho (by rw [hw.same]; exact hhost) (by rw [hw.same]; exact hset) ?_ hh
  exact (s.kept_withRequest tag q).and (hw.kept hb (.tail _ hengine) (.tail _ hline)) fun y hy => hy

/-! ## What the end of a session sends -/

/-- The command of the end of a session, queued unless the link is DISABLED. -/
theorem Link.ending_table {l : Link} (hl : l.state ≠ .disabled) {was : MachineState} {cause : EndCause} {id : Nat} {c : NodeCommand}
    (hc : endCommand was cause id = some c) : (l.ending was cause id).table = (l.table.dropSession id).put c := by
  unfold Link.ending
  rw [hc]
  exact congrArg Link.table (Link.sent_of_ne (l := { l with table := l.table.dropSession id }) hl c)

theorem Link.ending_arm {l : Link} (hl : l.state ≠ .disabled) {was : MachineState} (hwas : was = .armed ∨ was = .delayed)
    (cause : EndCause) (id : Nat) : (l.ending was cause id).table.arm = some (.disable id) := by
  have hcommand : endCommand was cause id = some (.disable id) := by rcases hwas with rfl | rfl <;> rfl
  rw [Link.ending_table hl hcommand]
  rfl

theorem Link.ending_stop {l : Link} (hl : l.state ≠ .disabled) {was : MachineState} (hwas : was = .running ∨ was = .stranded)
    {cause : EndCause} (hcause : cause ≠ .completed) (id : Nat) : (l.ending was cause id).table.stop = some id := by
  have hcommand : endCommand was cause id = some (.stop id) := by
    rcases hwas with rfl | rfl <;> exact if_neg hcause
  rw [Link.ending_table hl hcommand]
  rfl

/-- The unit once the machine's heat is released and the backlog judged has no place for the machine (R144). -/
theorem State.releasing_absent (b : State) (m : MachineNo) :
    (b.releasing m).feeder.holdsGrant m = false ∧ (b.releasing m).feeder.queued m = false := by
  refine Feeder.notMem_places_iff.mp ?_
  show m ∉ (b.feeder.released m).1.judged.1.places
  rw [Feeder.places_judged]
  exact (Feeder.released_absent _ m).1

/-! ## ABORT -/

/-- The machine's record and table once the event has ended. -/
theorem State.Becomes.concludes {s b w t : State} {m : MachineNo} {r : MachineRecord} {l : Link} {gs : List MachineNo}
    (h : s.Becomes b w m r l gs) (ht : w.Concludes t) :
    (∃ a, t.machine m = r.lamped a) ∧ ∃ a, (t.link m).table = (l.lamped a).table := by
  obtain ⟨a, hm⟩ := h.machine
  obtain ⟨c, hl⟩ := h.link
  exact ⟨⟨a, (ht.machine_of_eq rfl m).trans hm⟩, c, (ht.table_of_eq rfl m).trans (congrArg Link.table hl)⟩

theorem State.Becomes.concludes_engine {s b w t : State} {m : MachineNo} {r : MachineRecord} {l : Link} {gs : List MachineNo}
    (h : s.Becomes b w m r l gs) (ht : w.Concludes t) : t.engine = { b.engine with machines := t.engine.machines } := by
  rw [ht.engine]
  exact congrArg State.engine h.same

theorem State.Becomes.concludes_feeder {s b w t : State} {m : MachineNo} {r : MachineRecord} {l : Link} {gs : List MachineNo}
    (h : s.Becomes b w m r l gs) (ht : w.Concludes t) : t.feeder = b.feeder := by
  rw [ht.feeder, h.same]

theorem State.Becomes.concludes_payment {s b w t : State} {m : MachineNo} {r : MachineRecord} {l : Link} {gs : List MachineNo}
    (h : s.Becomes b w m r l gs) (ht : w.Concludes t) : t.payment = b.payment := by
  rw [ht.payment, h.same]

/-- The blocks an aborted session with parts leaves. -/
theorem State.endingBase_of_parts (b : State) (m : MachineNo) (r : MachineRecord) {x : Session} (cause : EndCause) (e : Nat)
    (hparts : x.parts ≠ []) : b.endingBase m r x cause e = { b.releasing m with payment :=
      if r.outstanding = .none then { b.payment with queue := b.payment.queue ++ [.settle m x.id cause e x.paused] }
      else b.payment } := by
  unfold State.endingBase State.placing
  by_cases hout : r.outstanding = .none
  · rw [if_pos ⟨hparts, hout⟩, if_pos hout]
    rfl
  · rw [if_neg fun h => hout h.2, if_neg hout]
    rfl

theorem State.endingBase_of_empty (b : State) (m : MachineNo) (r : MachineRecord) {x : Session} (cause : EndCause) (e : Nat)
    (hparts : x.parts = []) : b.endingBase m r x cause e = b.releasing m := if_neg fun h => h.1 hparts

/-- No charge is written where the session has no ending record (R163). -/
theorem State.writeCharge_of_none {b : State} {m : MachineNo} (h : look b.supervisor.ending m = none) (total : Nat) :
    b.writeCharge m total = b := by
  unfold State.writeCharge
  rw [h]

theorem State.completing_of_none {b : State} {m : MachineNo} (r : MachineRecord) (x : Session) (parts : List Part)
    (slotCode : Option (Option FaultCode)) (h : look b.supervisor.ending m = none) :
    b.completing m r x parts slotCode =
      (b.notify (.sessionEnded m x.id x.mode x.endCause x.elapsed x.paused parts)).marking m r.afterSettle slotCode := by
  exact congrArg (State.marking · m r.afterSettle slotCode) (State.writeCharge_of_none (b := b.notify _) h _)

/-- Settles O30: refusals by state; else the end of the session, and its completion where it has no part. -/
theorem abortEndsSession : Obligations.AbortEndsSession := by
  intro s tag m h hother o q r early late
  have own (n) (u : State) : u.own (.abort n) = u.withMachine n u.abort := rfl
  have ownAbort (u : State) : u.own (.abort m.1) = u.abort m := (own _ _).trans (State.withMachine_val _ _ _)
  refine ⟨fun n hn => refuses_machine h rfl rfl (own n) hn, fun hstate => ?_, fun hearly hlate hlocked => ?_, fun x hx hstate => ?ends⟩
  · refine refuses_owned h rfl rfl ((ownAbort _).trans ?_)
    simp only [State.abort, show ((s.withRequest tag q).machine m).state = .lockedOut from hstate]
  · refine refuses_owned h rfl rfl ((ownAbort _).trans ?_)
    unfold State.abort
    rw [show ((s.withRequest tag q).machine m).state = r.state from rfl]
    revert hearly hlate hlocked
    simp only [early, late]
    generalize r.state = st
    cases st <;> simp
  case ends =>
    intro linked
    have hown : (s.withRequest tag q).own q =
        (((s.withRequest tag q).endSession m .aborted .done).accept).completeIfEmpty m := by
      refine (ownAbort _).trans ?_
      unfold State.abort
      rw [show ((s.withRequest tag q).machine m).state = r.state from rfl]
      rcases hstate with (hs | hs) | (hs | hs) <;> rw [hs]
    have hended := ((s.withRequest tag q).becomes_self m).endSession (x := x) hother hx .aborted .done
    have hsent (a : Option Lamp) (hlinked : linked) : (early → (((s.link m).ending r.state .aborted x.id).lamped a).table.arm =
        some (.disable x.id)) ∧ (late → (((s.link m).ending r.state .aborted x.id).lamped a).table.stop = some x.id) :=
      ⟨fun he => Link.ending_arm hlinked he _ _, fun hl => Link.ending_stop hlinked hl (by simp) _⟩
    refine ⟨fun hparts => ?parts, fun hparts hending => ?empty⟩
    case parts =>
      rw [State.endingBase_of_parts _ _ _ _ _ hparts] at hended
      have hw := (hended.reply _ (HostLink.offered_keepsBuffer _ _) .ok []).completeIfEmpty_of_parts rfl hparts
      refine ⟨_, repliesNoticing_becomes (s.feeder.released m).1.judged.2 h rfl rfl hown hw ?_
        h.1.2 ?_ (by simp) (by simp)
        fun t ht => ?_⟩
      · exact HostLink.requested_answering _ _ _ _ _
      · exact (((Kept.refl _ _).and (State.kept_releasing _ m)).and (State.kept_payment _ _)).and (State.kept_host _ _)
      · obtain ⟨⟨a, hm⟩, c, htable⟩ := hw.concludes ht
        have hfeeder := hw.concludes_feeder ht
        have hpayment := hw.concludes_payment ht
        obtain ⟨hgrant, hqueue⟩ := s.releasing_absent m
        refine ⟨hw.othersKept ht rfl rfl rfl rfl, ?_⟩
        rw [hm, htable, hfeeder, hpayment]
        refine ⟨rfl, rfl, rfl, rfl, rfl, rfl, rfl, hgrant, hqueue, fun he => ⟨fun hl => (hsent c hl).1 he, ?_⟩,
          fun hl => ⟨fun hlinked => (hsent c hlinked).2 hl, ?_⟩, fun hout => ⟨?_, ?_⟩, fun hout => ⟨?_, ?_⟩⟩
        · exact if_pos (by rcases he with he | he <;> rw [show ((s.withRequest tag q).machine m).state = _ from he] <;> rfl)
        · exact if_neg (by rcases hl with hl | hl <;> rw [show ((s.withRequest tag q).machine m).state = _ from hl] <;> simp [endsBeforeStart])
        · exact if_pos ⟨hparts, hout⟩
        · exact if_pos hout
        · exact if_neg fun hp => hout hp.2
        · exact if_neg hout
    case empty =>
      rw [State.endingBase_of_empty _ _ _ _ _ hparts] at hended
      have hw := (hended.reply _ (HostLink.offered_keepsBuffer _ _) .ok []).completeIfEmpty hother rfl rfl hparts
      rw [State.completing_of_none _ _ _ _ (by exact hending)] at hw
      refine ⟨(s.feeder.released m).1.judged.2 ++ [.sessionEnded m x.id x.mode (some .aborted) x.elapsed x.paused []],
        repliesNoticing_becomes _ h rfl rfl hown hw ?_ h.1.2 ?_ (by simp) (by simp) fun t ht => ?_⟩
      · exact HostLink.requested_answering_offer s.host _ _ _ (s.feeder.released m).1.judged.2 _
      · exact (((Kept.refl _ _).and (State.kept_releasing _ m)).and (State.kept_host _ _)).and (State.kept_notify _ _)
      · obtain ⟨⟨a, hm⟩, c, htable⟩ := hw.concludes ht
        refine ⟨hw.othersKept ht rfl rfl rfl rfl, ?_⟩
        rw [hm, htable]
        exact ⟨rfl, rfl, rfl, rfl, fun he hlinked => (hsent c hlinked).1 he, fun hl hlinked => (hsent c hlinked).2 hl⟩

/-! ## SERVICE_START -/

/-- Machine `m` armed (R9, R24). -/
theorem State.Becomes.arm {s b t : State} {m : MachineNo} {r : MachineRecord} {l : Link} {gs : List MachineNo} {x : Session}
    (h : s.Becomes b t m r l gs) (hcalm : b.KeepsStart s m) (hx : r.session = some x) (price : Nat) :
    s.Becomes (b.notify (.sessionArmed m x.id x.mode x.programme x.units x.parts.head?)) (t.arm m price) m
      { r with state := .armed, armTimer := some b.engine.armSeconds } (l.sent (.enable x.id x.programme price x.mode)) gs := by
  have hsession : t.session m = some x := h.session.trans hx
  have hseconds : t.engine.armSeconds = b.engine.armSeconds := by rw [h.same]
  have h1 := (h.enter hcalm .armed).send (.enable x.id x.programme price x.mode)
  unfold State.arm
  rw [hsession, hseconds]
  exact (h1.modMachine fun r => { r with armTimer := some b.engine.armSeconds }).notify _

/-- The other machines kept, whatever the session engine's items have become. -/
theorem State.Becomes.othersKeptWith {s b w t : State} {m : MachineNo} {r : MachineRecord} {l : Link} {gs : List MachineNo}
    (h : s.Becomes b w m r l gs) (ht : w.Concludes t) (hline : b.line = { s.line with links := b.line.links }) :
    OthersKeptWith [m] s.line.exchange s.line.pointer s t := by
  have hl : w.line = { s.line with links := w.line.links } := by
    have heq := congrArg State.line h.same
    rw [hline] at heq
    exact heq
  refine ⟨fun k hk => ?_, w.line, ht.line, by rw [hl], by rw [hl], fun k hk => h.links k (List.ne_of_not_mem_cons hk)⟩
  rw [ht.machine_of_eq rfl k]
  exact h.record k (List.ne_of_not_mem_cons hk)

/-- A count of increments is out of range for a dryer's programme alone (R8, R24). -/
theorem Tariff.countFits_iff (t : Tariff) (cls : MachineClass) (p : ProgrammeNo) (n : Nat) :
    t.countFits cls p n = true ↔ ¬ (cls = .dryer ∧ (n < 1 ∨ (look t.dryers p).maximum < n)) := by
  cases cls with
  | washer => simp [Tariff.countFits]
  | dryer =>
    simp only [Tariff.countFits, Bool.and_eq_true, decide_eq_true_eq, true_and]
    omega

/-- Settles O29: refusals by state, room and operands; else the session made and the machine armed. -/
theorem serviceStartArms : Obligations.ServiceStartArms := by
  intro s tag m p n h hother o q r shut bad
  have own (k) (u : State) : u.own (.serviceStart k p n) = u.withMachine k fun m => u.serviceStart m p n := rfl
  have hown : (s.withRequest tag q).own q = (s.withRequest tag q).serviceStart m p n := (own _ _).trans (State.withMachine_val _ _ _)
  have hshut : (s.withRequest tag q).washerShut m = true ↔ shut := by
    simp [State.washerShut, State.roomClosed, shut, r]
    rfl
  have hstate : ((s.withRequest tag q).machine m).state = r.state := rfl
  unfold State.serviceStart at hown
  simp only [hstate] at hown
  refine ⟨fun k hk => refuses_machine h rfl rfl (own k) hk, fun hidle hs => ?_, fun hidle hs hbad => ?_, fun hlocked => ?_,
    fun hidle hlocked => ?_, fun hidle hs hbad k hk => ?arms⟩
  · refine refuses_owned h rfl rfl (hown.trans ?_)
    rw [hidle]
    exact if_pos (hshut.mpr hs)
  · refine refuses_owned h rfl rfl (hown.trans ?_)
    rw [hidle]
    refine (if_neg (mt hshut.mp hs)).trans ?_
    by_cases hp : p < 8
    · rw [index?_of_lt hp]
      refine if_neg (mt (Tariff.countFits_iff _ _ _ _).mp (not_not.mpr ?_))
      exact (hbad.resolve_left (by omega)).imp id fun hcount => hcount ⟨p, hp⟩ rfl
    · rw [index?_of_le (Nat.le_of_not_lt hp)]
  · refine refuses_owned h rfl rfl (hown.trans ?_)
    rw [hlocked]
  · refine refuses_owned h rfl rfl (hown.trans ?_)
    revert hidle hlocked
    generalize r.state = st
    cases st <;> simp
  case arms =>
    intro id units
    subst hk
    have hfits : (s.withRequest tag q).tariff.countFits ((s.withRequest tag q).machine m).cls k n = true := by
      refine (Tariff.countFits_iff _ _ _ _).mpr fun hcount => hbad (.inr ⟨hcount.1, fun j hj => ?_⟩)
      rw [Fin.ext hj]
      exact hcount.2
    have hserves : (s.withRequest tag q).own q = (s.withRequest tag q).startService m k n := by
      refine hown.trans ?_
      rw [hidle]
      refine (if_neg (mt hshut.mp hs)).trans ?_
      rw [index?_val]
      exact if_pos hfits
    have htaken := ((s.withRequest tag q).becomes_self m).through State.takeId
    have harmed := (htaken.modMachine fun r => { r with session := some (newSession id k .service 0 units []) }).arm hother rfl 0
    have hw := harmed.reply _ (by exact HostLink.offered_keepsBuffer _ [_]) .ok (u16 id)
    refine repliesNoticing_becomes [.sessionArmed m id .service k units none] h rfl rfl hserves hw
      (HostLink.requested_answering s.host _ _ _ [_]) h.1.2 ?_ (by simp) (by simp) fun t ht => ?_
    · exact (((Kept.refl _ _).and (State.kept_takeId _)).and (State.kept_notify _ _)).and (State.kept_host _ _)
    · obtain ⟨⟨a, hm⟩, c, htable⟩ := hw.concludes ht
      refine ⟨?_, hw.othersKeptWith ht rfl, ?_, fun hlinked => ?_⟩
      · exact hw.concludes_engine ht
      · rw [hm]
        rfl
      · rw [htable]
        exact congrArg (fun l : Link => l.table.arm) (Link.sent_of_ne hlinked _)

end Sys2Proof.Machine
end

section
/-! SUPPORT. The fault supervisor's records and orders at one machine, and LOCK (8.2 to 8.4). -/
namespace Sys2Proof.Machine

/-! ## The record a full log discards -/

theorem Supervisor.makeRoom_eq (v : Supervisor) : v.makeRoom = { v with log := v.makeRoom.log } := by
  unfold Supervisor.makeRoom
  split
  · rfl
  · split <;> rfl

/-- The record a full log discards is not protected, or is a NOTE or a STOP. -/
theorem Supervisor.toDiscard_spares {v : Supervisor} {x : FaultRecord} (h : v.toDiscard = some x) :
    v.isProtected x.sequence = false ∨ x.severity = .note ∨ x.severity = .stop := by
  unfold Supervisor.toDiscard at h
  cases hspent : v.log.find? fun r => r.acknowledged && !v.isProtected r.sequence with
  | some y =>
    rw [hspent] at h
    obtain rfl : y = x := Option.some.inj h
    have hp := List.find?_some hspent
    rw [Bool.and_eq_true, Bool.not_eq_true'] at hp
    exact .inl hp.2
  | none =>
    cases hnote : v.log.find? fun r => !r.acknowledged && r.severity == .note with
    | some y =>
      rw [hspent, hnote] at h
      obtain rfl : y = x := Option.some.inj h
      have hp := List.find?_some hnote
      rw [Bool.and_eq_true, beq_iff_eq] at hp
      exact .inr (.inl hp.2)
    | none =>
      cases hstop : v.log.find? fun r => !r.acknowledged && r.severity == .stop with
      | some y =>
        rw [hspent, hnote, hstop] at h
        obtain rfl : y = x := Option.some.inj h
        have hp := List.find?_some hstop
        rw [Bool.and_eq_true, beq_iff_eq] at hp
        exact .inr (.inr hp.2)
      | none =>
        rw [hspent, hnote, hstop] at h
        have hlast : v.log.find? (fun r => !v.isProtected r.sequence) = some x := h
        have hp := List.find?_some hlast
        exact .inl ((Bool.not_eq_true' _).mp hp)

/-- A protected record of severity LOCKOUT or ROOM stays (R166). -/
theorem Supervisor.makeRoom_keeps {v : Supervisor} {x : FaultRecord} (hx : x ∈ v.log) (hp : v.isProtected x.sequence = true)
    (hsev : x.severity = .lockout ∨ x.severity = .room) : x ∈ v.makeRoom.log := by
  unfold Supervisor.makeRoom
  split
  · exact hx
  · split
    · next y hy =>
      refine (List.mem_erase_of_ne ?_).mpr hx
      rintro rfl
      rcases Supervisor.toDiscard_spares hy with h | h | h
      · exact absurd (hp.symm.trans h) (by decide)
      · rcases hsev with hs | hs <;> exact absurd (hs.symm.trans h) (by decide)
      · rcases hsev with hs | hs <;> exact absurd (hs.symm.trans h) (by decide)
    · exact hx

/-- Where no record has a property, a search for it finds none. -/
theorem find?_absent {α : Type} {p : α → Bool} {q : α → Prop} {xs : List α} (hpq : ∀ x, p x = true ↔ q x) (h : ∀ x ∈ xs, ¬ q x) :
    xs.find? p = none :=
  List.find?_eq_none.mpr fun x hx => mt (hpq x).mp (h x hx)

/-- Where the first record with a property stands, a search for it finds it. -/
theorem find?_present {α : Type} {p : α → Bool} {q : α → Prop} {before after : List α} {x : α} (hpq : ∀ x, p x = true ↔ q x) (hx : q x)
    (hb : ∀ y ∈ before, ¬ q y) : (before ++ x :: after).find? p = some x :=
  find?_first ((hpq x).mpr hx) fun y hy => Bool.eq_false_iff.mpr (mt (hpq y).mp (hb y hy))

/-- What a full log discards, by the search of R166. -/
theorem Supervisor.makeRoom_searches (v : Supervisor) (hfull : 80 ≤ v.log.length) :
    let spent (x : FaultRecord) := x.acknowledged = true ∧ ¬ v.isProtected x.sequence = true
    let unread (sev : Severity) (x : FaultRecord) := x.acknowledged = false ∧ x.severity = sev
    let absent (p : FaultRecord → Prop) := ∀ x ∈ v.log, ¬ p x
    let discards (p : FaultRecord → Prop) := ∀ before x after, v.log = before ++ x :: after → p x → (∀ y ∈ before, ¬ p y) →
      v.makeRoom = { v with log := before ++ after }
    discards spent ∧
      (absent spent → discards (unread .note)) ∧
      (absent spent → absent (unread .note) → discards (unread .stop)) ∧
      (absent spent → absent (unread .note) → absent (unread .stop) → discards fun x => ¬ v.isProtected x.sequence = true) ∧
      (absent spent → absent (unread .note) → absent (unread .stop) → (absent fun x => ¬ v.isProtected x.sequence = true) →
        v.makeRoom = v) := by
  intro spent unread absent discards
  have hspent (x : FaultRecord) : (x.acknowledged && !v.isProtected x.sequence) = true ↔ spent x := by simp [spent]
  have hunread (sev : Severity) (x : FaultRecord) : (!x.acknowledged && x.severity == sev) = true ↔ unread sev x := by simp [unread]
  have hbare (x : FaultRecord) : (!v.isProtected x.sequence) = true ↔ ¬ v.isProtected x.sequence = true := by simp
  have hdiscards (p : FaultRecord → Prop) (hp : ∀ before x after, v.log = before ++ x :: after → p x → (∀ y ∈ before, ¬ p y) →
      v.toDiscard = some x) : discards p := fun before x after hlog hx hb =>
    v.makeRoom_discards hfull (hp before x after hlog hx hb) hlog fun hmem => hb x hmem hx
  refine ⟨hdiscards _ fun before x after hlog hx hb => ?_, fun hs => hdiscards _ fun before x after hlog hx hb => ?_,
    fun hs hn => hdiscards _ fun before x after hlog hx hb => ?_, fun hs hn ht => hdiscards _ fun before x after hlog hx hb => ?_,
    fun hs hn ht hall => v.makeRoom_none ?_⟩
  all_goals unfold Supervisor.toDiscard
  · rw [hlog, find?_present hspent hx hb]
    rfl
  · rw [find?_absent hspent hs, hlog, find?_present (hunread .note) hx hb]
    rfl
  · rw [find?_absent hspent hs, find?_absent (hunread .note) hn, hlog, find?_present (hunread .stop) hx hb]
    rfl
  · rw [find?_absent hspent hs, find?_absent (hunread .note) hn, find?_absent (hunread .stop) ht, hlog, find?_present hbare hx hb]
    rfl
  · rw [find?_absent hspent hs, find?_absent (hunread .note) hn, find?_absent (hunread .stop) ht, find?_absent hbare hall]
    rfl

/-! ## Records and orders at one machine -/

section
variable {s b t : State} {m : MachineNo} {r : MachineRecord} {l : Link} {gs : List MachineNo}

theorem State.Becomes.writeRecord (h : s.Becomes b t m r l gs) (source : Source) (code : FaultCode) (sev : Severity) (ref : Reference) :
    s.Becomes (b.writeRecord source code sev ref) (t.writeRecord source code sev ref) m r l gs :=
  h.through fun u => u.writeRecord source code sev ref

/-- The session a machine's record names (R165). -/
def MachineRecord.ref (r : MachineRecord) : Reference := (r.session.map fun x => Reference.session x.id).getD .none

theorem MachineRecord.ref_of_some {r : MachineRecord} {x : Session} (hx : r.session = some x) : r.ref = .session x.id := by
  simp [MachineRecord.ref, hx]

theorem MachineRecord.ref_of_none {r : MachineRecord} (hx : r.session = none) : r.ref = .none := by
  simp [MachineRecord.ref, hx]

theorem State.Becomes.sessionRef (h : s.Becomes b t m r l gs) : t.sessionRef m = r.ref := by
  unfold State.sessionRef MachineRecord.ref
  rw [h.session]
  cases r.session <;> rfl

/-- The record just written, linked as the locking record, as the ending record, or as neither (R162, R163). -/
def State.linked (b : State) (m : MachineNo) (locks ends : Bool) : State :=
  let q := some b.supervisor.counter
  let t := if locks then b.setLocking m q else b
  if ends then t.setEnding m q else t

theorem State.kept_linked (b : State) (m : MachineNo) (locks ends : Bool) : Kept [.supervisor] b (b.linked m locks ends) := by
  refine ⟨by cases locks <;> cases ends <;> rfl, fun y hy => ?_⟩
  cases y
  case supervisor => simp at hy
  all_goals cases locks <;> cases ends <;> rfl

theorem State.Becomes.linked (h : s.Becomes b t m r l gs) (locks ends : Bool) :
    s.Becomes (b.linked m locks ends) (t.linked m locks ends) m r l gs :=
  h.through (fun u => u.linked m locks ends) fun u ms ls => by
    cases locks <;> cases ends <;> rfl

theorem State.Becomes.linkRecord (h : s.Becomes b t m r l gs) (o : Order) :
    s.Becomes (b.linked m (o == .lockout) (orderEnds r.state)) (t.linkRecord m o) m r l gs := by
  have heq : t.linkRecord m o = t.linked m (o == .lockout) (orderEnds r.state) := by
    unfold State.linkRecord State.linked
    rw [h.state]
    cases o <;> cases orderEnds r.state <;> rfl
  rw [heq]
  exact h.linked _ _

/-- The notices of the record just written: one FAULT notice, or none (R164). -/
theorem State.faultNotice_eq (t : State) : ∃ ns, t.faultNotice = t.offering ns := by
  unfold State.faultNotice
  split
  · exact ⟨[_], rfl⟩
  · exact ⟨[], rfl⟩

theorem State.Becomes.faultNotice (h : s.Becomes b t m r l gs) :
    ∃ ns, s.Becomes (b.offering ns) t.faultNotice m r l gs := by
  obtain ⟨ns, hns⟩ := t.faultNotice_eq
  rw [hns]
  exact ⟨ns, h.through fun u => u.offering ns⟩

theorem State.completeIfEmpty_of_state (h : (t.machine m).state ≠ .settling) : t.completeIfEmpty m = t := by
  unfold State.completeIfEmpty
  split
  · exact if_neg fun hs => h hs.1
  · rfl

/-- A LOCKOUT record at a machine with no session under way: the machine is LOCKED_OUT (R26, R162, R169). -/
theorem State.Becomes.recordReport_locks (h : s.Becomes b t m r l gs) (hcalm : b.KeepsStart s m)
    (hstate : r.state = .idle ∨ r.state = .done ∨ r.state = .offline) (code : FaultCode) :
    ∃ ns, s.Becomes ((((b.writeRecord (.machine m) code .lockout r.ref).linked m true false).markLockout m).offering ns) (t.recordReport m code .lockout) m
      { r with state := .lockedOut, lockout := some code } (l.sent (.lock true)) gs := by
  have hjudge : judgeFault (t.machine m) .lockout = (.lockout, some .lockout) := by
    have hs := h.state
    unfold judgeFault
    rcases hstate with hst | hst | hst <;> rw [hst] at hs <;> rw [hs]
  have hnone : orderEnds r.state = false := by rcases hstate with hst | hst | hst <;> rw [hst] <;> rfl
  have hlinked := (h.writeRecord (.machine m) code .lockout r.ref).linkRecord .lockout
  rw [hnone] at hlinked
  have hcarried := (hlinked.enterLockedOut hcalm code).markLockout
  obtain ⟨ns, hnoted⟩ := hcarried.faultNotice
  refine ⟨ns, ?_⟩
  have hreport : t.recordReport m code .lockout = ((((t.writeRecord (.machine m) code .lockout r.ref).linkRecord m .lockout).enterLockedOut m
      code).markLockout m).faultNotice := by
    have hcarry (u : State) (hu : (u.machine m).state = r.state) :
        u.carryOut m code .lockout = (u.enterLockedOut m code).markLockout m := by
      unfold State.carryOut State.lockoutOrder
      rcases hstate with hst | hst | hst <;> rw [hst] at hu <;> simp only [hu]
    unfold State.recordReport
    rw [hjudge, h.sessionRef]
    simp only [hcarry _ hlinked.state]
    refine State.completeIfEmpty_of_state ?_
    rw [hnoted.state]
    simp
  rw [hreport]
  exact hnoted

/-- A record of an order that ends a session with parts: the session ends with the code's cause (R26, R162, R163). -/
theorem State.Becomes.recordReport_ends {x : Session} (h : s.Becomes b t m r l gs) (hcalm : b.KeepsStart s m)
    (hstate : r.state = .armed ∨ r.state = .delayed ∨ r.state = .running ∨ r.state = .stranded)
    (hx : r.session = some x) (hparts : x.parts ≠ []) (code : FaultCode) (o : Order) :
    let sev := match o with | .stop => Severity.stop | .lockout => .lockout
    let after := match o with | .stop => AfterSettle.done | .lockout => .lockedOut code
    let base := ((b.writeRecord (.machine m) code sev r.ref).linked m (o == .lockout) true).endingBase m r x (.fault code) x.elapsed
    ∃ ns, s.Becomes (base.offering ns) (t.recordReport m code sev) m
      (r.ending x (.fault code) after) (l.ending r.state (.fault code) x.id) (gs ++ (b.feeder.released m).2) := by
  intro sev after base
  have hjudge : judgeFault (t.machine m) sev = (sev, some o) := by
    have hs := h.state
    unfold judgeFault
    cases o <;> rcases hstate with hst | hst | hst | hst <;> rw [hst] at hs <;> simp only [sev, hs]
  have hends : orderEnds r.state = true := by rcases hstate with hst | hst | hst | hst <;> rw [hst] <;> rfl
  have hlinked := (h.writeRecord (.machine m) code sev r.ref).linkRecord o
  rw [hends] at hlinked
  have hended := hlinked.endSession (by cases o <;> exact hcalm) hx (.fault code) after
  obtain ⟨ns, hnoted⟩ := hended.faultNotice
  have hdone := hnoted.completeIfEmpty_of_parts rfl hparts
  refine ⟨ns, ?_⟩
  have hcarry (u : State) (hu : (u.machine m).state = r.state) : u.carryOut m code o = u.endSession m (.fault code) after := by
    unfold State.carryOut State.lockoutOrder State.stopOrder
    cases o <;> rcases hstate with hst | hst | hst | hst <;> rw [hst] at hu <;> simp only [after, hu]
  have hreport : t.recordReport m code sev = ((((t.writeRecord (.machine m) code sev r.ref).linkRecord m o).endSession m (.fault code)
      after).faultNotice).completeIfEmpty m := by
    unfold State.recordReport
    rw [hjudge, h.sessionRef]
    simp only [hcarry _ hlinked.state]
  rw [hreport]
  have hfeeder : ((b.writeRecord (.machine m) code sev r.ref).linked m (o == .lockout) true).feeder = b.feeder := by
    cases o <;> rfl
  rw [hfeeder] at hdone
  exact hdone

end

/-! ## LOCK -/

/-- The sequence number of the next record (R165). -/
def Supervisor.next (v : Supervisor) : Nat := (v.counter + 1) % 4294967296

theorem State.writeRecord_supervisor (s : State) (source : Source) (code : FaultCode) (sev : Severity) (ref : Reference) :
    (s.writeRecord source code sev ref).supervisor = { s.supervisor with
      log := s.supervisor.makeRoom.log ++
        [⟨s.supervisor.next, s.clock.day, s.clock.minute, source, code, sev, ref, none, false⟩]
      counter := s.supervisor.next } := by
  unfold State.writeRecord
  rw [s.supervisor.makeRoom_eq]
  rfl

/-- The supervisor with a machine's record written and linked (R162, R163, R165). -/
theorem State.linked_supervisor (s : State) (m : MachineNo) (code : FaultCode) (sev : Severity) (ref : Reference) (locks ends : Bool) :
    ((s.writeRecord (.machine m) code sev ref).linked m locks ends).supervisor = { s.supervisor with
      log := s.supervisor.makeRoom.log ++
        [⟨s.supervisor.next, s.clock.day, s.clock.minute, .machine m, code, sev, ref, none, false⟩]
      counter := s.supervisor.next
      locking := if locks then s.supervisor.locking.set m.1 (some s.supervisor.next) else s.supervisor.locking
      ending := if ends then s.supervisor.ending.set m.1 (some s.supervisor.next) else s.supervisor.ending } := by
  have hwritten := s.writeRecord_supervisor (.machine m) code sev ref
  have hlinked (u : State) : (u.linked m locks ends).supervisor = { u.supervisor with
      locking := if locks then u.supervisor.locking.set m.1 (some u.supervisor.counter) else u.supervisor.locking
      ending := if ends then u.supervisor.ending.set m.1 (some u.supervisor.counter) else u.supervisor.ending } := by
    cases locks <;> cases ends <;> rfl
  rw [hlinked, hwritten]

theorem State.Becomes.concludes_supervisor {s b w t : State} {m : MachineNo} {r : MachineRecord} {l : Link} {gs : List MachineNo}
    (h : s.Becomes b w m r l gs) (ht : w.Concludes t) : t.supervisor = b.supervisor := by
  rw [ht.supervisor, h.same]

theorem State.Becomes.supervisor {s b w : State} {m : MachineNo} {r : MachineRecord} {l : Link} {gs : List MachineNo}
    (h : s.Becomes b w m r l gs) : w.supervisor = b.supervisor := by rw [h.same]

theorem State.Becomes.concludes_storeFrom {s b w t : State} {m : MachineNo} {r : MachineRecord} {l : Link} {gs : List MachineNo}
    (h : s.Becomes b w m r l gs) (ht : w.Concludes t) : t.StoreFrom b.store := by
  have hfrom := ht.storeFrom
  rwa [h.same] at hfrom

/-- Settles O31: the search of R166, and each state's refusal, record and order. -/
theorem lockLocksOut : Obligations.LockLocksOut := by
  refine ⟨fun v => ?log, fun s tag m h hother => ?lock⟩
  case log =>
    intro guarded spent unread absent discards
    have hguarded (x : FaultRecord) : guarded x ↔ v.isProtected x.sequence = true := (v.isProtected_iff x.sequence).symm
    have hspare (x : FaultRecord) : ¬ guarded x ↔ ¬ v.isProtected x.sequence = true := not_congr (hguarded x)
    refine ⟨v.makeRoom_room, fun hfull => ?_, fun x hx hg hsev => Supervisor.makeRoom_keeps hx ((hguarded x).mp hg) hsev⟩
    have hsearch := v.makeRoom_searches hfull
    simp only [← hspare] at hsearch
    exact hsearch
  case lock =>
    intro o q r n
    have own (k) (u : State) : u.own (.lock k) = u.withMachine k u.lock := rfl
    have hown : (s.withRequest tag q).own q = (s.withRequest tag q).lock m := (own _ _).trans (State.withMachine_val _ _ _)
    have hself := (s.withRequest tag q).becomes_self m
    have hreplies (hstate : r.state ∈ [.idle, .done, .offline, .armed]) : (s.withRequest tag q).own q =
        ((s.withRequest tag q).recordReport m .operatorLock .lockout).reply .ok
          (u32 ((s.withRequest tag q).recordReport m .operatorLock .lockout).supervisor.counter) := by
      refine hown.trans ?_
      unfold State.lock
      rw [show ((s.withRequest tag q).machine m).state = r.state from rfl]
      simp only [List.mem_cons, List.not_mem_nil, or_false] at hstate
      rcases hstate with hst | hst | hst | hst <;> rw [hst]
    refine ⟨fun k hk => refuses_machine h rfl rfl (own k) hk, fun hstate => ?_, fun hstate => ?_, fun hstate => ?_,
      fun hstate hnone => ?locks, fun x hstate hx hparts hout => ?ends⟩
    · refine refuses_owned h rfl rfl (hown.trans ?_)
      simp only [State.lock, show ((s.withRequest tag q).machine m).state = _ from hstate]
    · refine refuses_owned h rfl rfl (hown.trans ?_)
      simp only [State.lock, show ((s.withRequest tag q).machine m).state = _ from hstate]
    · refine refuses_owned h rfl rfl (hown.trans ?_)
      unfold State.lock
      rw [show ((s.withRequest tag q).machine m).state = r.state from rfl]
      simp only [List.mem_cons, List.not_mem_nil, or_false] at hstate
      rcases hstate with hst | hst | hst | hst | hst | hst <;> rw [hst]
    case locks =>
      have hreplied := hreplies (by
        simp only [List.mem_cons, List.not_mem_nil, or_false] at hstate ⊢
        exact hstate.imp id (Or.imp id .inl))
      simp only [List.mem_cons, List.not_mem_nil, or_false] at hstate
      obtain ⟨ns, hlocked⟩ := hself.recordReport_locks hother hstate .operatorLock
      have href : ((s.withRequest tag q).machine m).ref = .none := MachineRecord.ref_of_none hnone
      rw [href] at hlocked
      have hsupervisor := (s.withRequest tag q).linked_supervisor m .operatorLock .lockout .none true false
      have hcounter : ((s.withRequest tag q).recordReport m .operatorLock .lockout).supervisor.counter = n :=
        congrArg Supervisor.counter (hlocked.supervisor.trans hsupervisor)
      rw [hcounter] at hreplied
      have hw := hlocked.reply _ (HostLink.offered_keepsBuffer _ _) .ok (u32 n)
      refine ⟨ns, repliesNoticing_becomes ns h rfl rfl hreplied hw (HostLink.requested_answering s.host _ _ _ ns) h.1.2 ?_
        (by simp) (by simp) fun t ht => ?_⟩
      · exact (((((Kept.refl _ _).and (State.kept_writeRecord _ _ _ _ _)).and (State.kept_linked _ _ _ _)).and
          (State.kept_markLockout _ m)).and (State.kept_offering _ ns)).and (State.kept_host _ _)
      · obtain ⟨⟨a, hm⟩, c, htable⟩ := hw.concludes ht
        refine ⟨hw.othersKept ht rfl rfl rfl rfl, ?_, fun hlinked => ?_, ?_, hw.concludes_storeFrom ht⟩
        · rw [hm]
          rfl
        · rw [htable]
          exact congrArg (fun l : Link => l.table.lock) (Link.sent_of_ne hlinked _)
        · exact (hw.concludes_supervisor ht).trans hsupervisor
    case ends =>
      have hreplied := hreplies (by simp [hstate])
      obtain ⟨ns, hended⟩ := hself.recordReport_ends hother (.inl hstate) hx hparts .operatorLock .lockout
      have href : ((s.withRequest tag q).machine m).ref = .session x.id := MachineRecord.ref_of_some hx
      rw [href] at hended
      have hsupervisor := (s.withRequest tag q).linked_supervisor m .operatorLock .lockout (.session x.id) true true
      rw [State.endingBase_of_parts _ _ _ _ _ hparts] at hended
      have hcounter : ((s.withRequest tag q).recordReport m .operatorLock .lockout).supervisor.counter = n :=
        congrArg Supervisor.counter (hended.supervisor.trans hsupervisor)
      rw [hcounter] at hreplied
      have hw := hended.reply (requestFrame tag q) ((HostLink.offered_keepsBuffer _ ns).trans (HostLink.offered_keepsBuffer _ _)) .ok (u32 n)
      refine ⟨_, repliesNoticing_becomes ((s.feeder.released m).1.judged.2 ++ ns) h rfl rfl hreplied hw
        ((congrArg (fun g : HostLink => g.answering _ _ _) (HostLink.offered_append _ _ _).symm).trans
          (HostLink.requested_answering s.host _ _ _ _)) h.1.2 ?_ (by simp) (by simp) fun t ht => ?_⟩
      · exact ((((((Kept.refl _ _).and (State.kept_writeRecord _ _ _ _ _)).and (State.kept_linked _ _ _ _)).and
          (State.kept_releasing _ m)).and (State.kept_payment _ _)).and (State.kept_offering _ ns)).and (State.kept_host _ _)
      · obtain ⟨⟨a, hm⟩, c, htable⟩ := hw.concludes ht
        refine ⟨hw.othersKept ht rfl rfl rfl rfl, ?_⟩
        rw [hm, htable, hw.concludes_payment ht, hw.concludes_supervisor ht]
        refine ⟨rfl, rfl, rfl, ?_, rfl, rfl, ?_, fun hlinked => Link.ending_arm hlinked (.inl hstate) _ _, ?_, hsupervisor⟩
        · exact if_pos ⟨hparts, hout⟩
        · exact if_pos (by rw [show ((s.withRequest tag q).machine m).state = _ from hstate]; rfl)
        · exact if_pos hout

end Sys2Proof.Machine
end

section
/-! SUPPORT. The session timers tARM, tGRACE and tRECOVER (1.4, 1.7). -/
namespace Sys2Proof.Machine

/-! ## Events that change one machine -/

theorem Kept.settled {xs : List Block} {s b : State} (h : Kept xs s b) (hset : s.Settled) (hstore : Block.store ∉ xs := by decide) :
    b.Settled := hset.of_store (h.2 .store hstore)

/-- An event from whose effect one machine becomes `r` and `l`. -/
theorem leads_becomes_settled {c : Instr} {s b w : State} {xs : List Block} {holds : State → Prop} {m : MachineNo} {r : MachineRecord}
    {l : Link} {gs : List MachineNo} (hc : isEvent c) (hr : s.Runs) (he : effect c s = w) (hw : s.Becomes b w m r l gs)
    (hset : b.Settled) (hb : Kept xs s b) (hengine : .engine ∈ xs) (hline : .line ∈ xs) (hh : ∀ t, w.Concludes t → holds t) :
    Leads (exec c s) s xs holds :=
  leads_of_effect hc hr he (hw.kept hb hengine hline) (by rw [hw.same]; exact hset) hh

/-- The same, with no change of the store port. -/
theorem leads_becomes {c : Instr} {s b w : State} {xs : List Block} {holds : State → Prop} {m : MachineNo} {r : MachineRecord}
    {l : Link} {gs : List MachineNo} (hc : isEvent c) (hr : s.Runs) (he : effect c s = w) (hw : s.Becomes b w m r l gs)
    (hb : Kept xs s b) (hengine : .engine ∈ xs) (hline : .line ∈ xs) (hh : ∀ t, w.Concludes t → holds t)
    (hstore : Block.store ∉ xs := by decide) : Leads (exec c s) s xs holds :=
  leads_becomes_settled hc hr he hw (hb.settled hr.2 hstore) hb hengine hline hh

/-- The notices offered are all that has changed of the host link. -/
theorem State.Becomes.transmits {s b w t : State} {m : MachineNo} {r : MachineRecord} {l : Link} {gs : List MachineNo} {ns : List Notice}
    (hw : s.Becomes b w m r l gs) (ht : w.Concludes t) (hhost : b.host = s.host.offered ns) :
    t.host = (s.host.offered ns).transmit := by
  rw [ht.host, hw.same]
  exact congrArg HostLink.transmit hhost

theorem leadsNoticing_becomes {c : Instr} {s b w : State} {xs : List Block} {holds : State → Prop} {m : MachineNo} {r : MachineRecord}
    {l : Link} {gs : List MachineNo} (ns : List Notice) (hc : isEvent c) (hr : s.Runs) (he : effect c s = w)
    (hw : s.Becomes b w m r l gs) (hhost : b.host = s.host.offered ns) (hb : Kept (.host :: xs) s b)
    (hengine : .engine ∈ xs) (hline : .line ∈ xs) (hh : ∀ t, w.Concludes t → t.host = (s.host.offered ns).transmit → holds t)
    (hstore : Block.store ∉ .host :: xs := by decide) : LeadsNoticing (exec c s) s xs holds :=
  leads_becomes hc hr he hw hb (.tail _ hengine) (.tail _ hline)
    (fun t ht => ⟨⟨ns, hw.transmits ht hhost⟩, hh t ht (hw.transmits ht hhost)⟩) hstore

/-- The part READY, with its START_UP notice (R209). -/
def State.readying (b : State) : State := { b with startUp := .ready, host := b.host.offer (.startUp .ready b.store.state) }

theorem State.endRecovering_last {u : State} (hstart : u.startUp = .recovering) (hnone : u.anyRecovering = false) :
    u.endRecovering = u.readying := by
  unfold State.endRecovering
  rw [hnone, hstart]
  rfl

/-- The last machine RECOVERING enters another state (R209). -/
theorem State.Becomes.enterLast {s b t : State} {m : MachineNo} {r : MachineRecord} {l : Link} {gs : List MachineNo}
    (h : s.Becomes b t m r l gs) (hstart : b.startUp = .recovering) (hlast : ∀ k, k ≠ m → (s.machine k).state ≠ .recovering)
    {st : MachineState} (hst : st ≠ .recovering) : s.Becomes b.readying (t.enter m st) m (r.inState st) l gs := by
  have h' := (h.modMachine fun r => r.inState st).relamp
  have hnone : ((t.modMachine m fun r => r.inState st).relamp m).anyRecovering = false := by
    rw [← Bool.not_eq_true, State.anyRecovering_iff]
    rintro ⟨k, hk⟩
    by_cases hkm : k = m
    · subst hkm
      exact hst (h'.state.symm.trans hk)
    · have hbut := congrArg MachineRecord.state (h'.record k hkm)
      exact hlast k hkm ((hbut.symm : (s.machine k).state = _).trans hk)
  have hrec : ((t.modMachine m fun r => r.inState st).relamp m).startUp = .recovering := by
    rw [h'.same]
    exact hstart
  have henter : t.enter m st = ((t.modMachine m fun r => r.inState st).relamp m).readying := State.endRecovering_last hrec hnone
  rw [henter]
  exact h'.through State.readying

/-! ## A session's end, seen once the event has ended -/

/-- What the end of a session with parts leaves, no other request being outstanding (R6). -/
theorem State.Becomes.settles {s b w t : State} {m : MachineNo} {r : MachineRecord} {l : Link} {gs : List MachineNo} {x : Session}
    {cause : EndCause} {after : AfterSettle} {p : PayRequest} (hw : s.Becomes b w m (r.ending x cause after) l gs)
    (ht : w.Concludes t) (hparts : x.parts ≠ []) (hout : r.outstanding = .none)
    (hengine : b.engine = { s.engine with machines := b.engine.machines }) (hline : b.line = { s.line with links := b.line.links })
    (hfeeder : b.feeder = (s.releasing m).feeder) (hpay : b.payment = { s.payment with queue := s.payment.queue ++ [p] }) :
    OthersKept [m] s t ∧ (t.machine m).state = .settling ∧
      (t.machine m).session = some { x with endCause := some cause, heat := .none } ∧
      (t.machine m).afterSettle = after ∧ (t.machine m).lastEnd = some cause ∧
      (t.machine m).outstanding = .settle ∧ (t.machine m).armTimer = none ∧
      (t.machine m).minuteTimer = false ∧ (t.machine m).graceTimer = none ∧ (t.machine m).recoveryWindow = false ∧
      t.feeder.holdsGrant m = false ∧ t.feeder.queued m = false ∧
      t.payment = { s.payment with queue := s.payment.queue ++ [p] } := by
  obtain ⟨⟨a, hm⟩, -⟩ := hw.concludes ht
  obtain ⟨hgrant, hqueue⟩ := s.releasing_absent m
  refine ⟨hw.othersKept ht rfl rfl hengine hline, ?_⟩
  rw [hm, hw.concludes_feeder ht, hfeeder, hw.concludes_payment ht, hpay]
  exact ⟨rfl, rfl, rfl, rfl, if_pos ⟨hparts, hout⟩, rfl, rfl, rfl, rfl, hgrant, hqueue, rfl⟩

theorem State.placing_of_parts (b : State) (m : MachineNo) {r : MachineRecord} {x : Session} (cause : EndCause) (e : Nat)
    (hparts : x.parts ≠ []) (hout : r.outstanding = .none) :
    b.placing m r x cause e = b.enqueue (.settle m x.id cause e x.paused) := if_pos ⟨hparts, hout⟩

/-! ## The timers -/

theorem State.armExpiry_off {s : State} {m : MachineNo} (h : (s.machine m).armTimer = none) : s.armExpiry m = s :=
  if_neg fun hc => hc.2 h

theorem State.graceExpiry_off {s : State} {m : MachineNo} (h : (s.machine m).graceTimer = none) : s.graceExpiry m = s := by
  unfold State.graceExpiry
  rw [h]
  split
  · contradiction
  · rfl

theorem State.recoveryExpiry_off {s : State} {m : MachineNo} (h : (s.machine m).recoveryWindow = false) : s.recoveryExpiry m = s :=
  if_neg fun hc => absurd (h.symm.trans hc.2) (by decide)

/-- tGRACE, running at a STRANDED machine (R21). -/
theorem State.graceExpiry_on {s : State} {m : MachineNo} {x : Session} (hstate : (s.machine m).state = .stranded)
    (hx : (s.machine m).session = some x) (h : (s.machine m).graceTimer ≠ none) :
    s.graceExpiry m = (s.modMachine m fun r => { r with stoppedId := x.id }).reportEnding m .nodeLost := by
  obtain ⟨n, hn⟩ := Option.ne_none_iff_exists'.mp h
  unfold State.graceExpiry
  rw [hstate, hn, show s.session m = some x from hx]

/-- The record of a session-ending report from RECOVERING, while its rule is enabled (R22, R163). -/
def State.recoveryBase (b : State) (m : MachineNo) (r : MachineRecord) (code : FaultCode) : State :=
  if b.supervisor.records code then
    (b.writeRecord (.machine m) code (b.supervisor.severityOf code) r.ref).linked m (b.supervisor.severityOf code == .lockout) true
  else b

/-- The after-settle state it gives (R22). -/
def Supervisor.recoveryAfter (v : Supervisor) (code : FaultCode) : AfterSettle :=
  if v.records code = true ∧ v.severityOf code = .lockout then .lockedOut code else .done

/-- A session with parts ended from RECOVERING by a report, the machine entering SETTLING as `henter` says (R22). -/
theorem State.Becomes.reportRecovery {s b b' t : State} {m : MachineNo} {r : MachineRecord} {l : Link} {gs : List MachineNo}
    {x : Session} (h : s.Becomes b t m r l gs) (hx : r.session = some x) (hparts : x.parts ≠ [])
    (hafter : r.afterSettle.isLockedOut = false) (code : FaultCode) (e : Nat)
    (henter : ∀ {u q gs}, s.Becomes ((b.recoveryBase m r code).releasing m) u m q l gs →
      s.Becomes b' (u.enter m .settling) m (q.inState .settling) l gs) :
    ∃ ns, s.Becomes ((b'.placing m r x (.fault code) e).offering ns)
      (t.reportRecovery m code e) m (r.ending x (.fault code) (b.supervisor.recoveryAfter code))
      (l.ending r.state (.fault code) x.id) (gs ++ ((b.recoveryBase m r code).feeder.released m).2) := by
  obtain ⟨a, hm⟩ := h.machine
  have hafter' : (t.machine m).afterSettle.isLockedOut = false := by rw [hm]; exact hafter
  unfold State.reportRecovery
  simp only [h.supervisor, h.sessionRef, hafter', Bool.false_eq_true, if_false, Bool.not_false, and_true]
  unfold State.recoveryBase Supervisor.recoveryAfter at *
  cases hrec : b.supervisor.records code with
  | true =>
    simp only [hrec, if_true, true_and] at henter ⊢
    have hlinked := (h.writeRecord (.machine m) code (b.supervisor.severityOf code) r.ref).linked
      (b.supervisor.severityOf code == .lockout) true
    have hended := hlinked.endSessionWith_of_enter hx (.fault code) (if b.supervisor.severityOf code = .lockout then .lockedOut code
      else .done) e henter
    obtain ⟨ns, hnoted⟩ := hended.faultNotice
    refine ⟨ns, ?_⟩
    have hdone := hnoted.completeIfEmpty_of_parts rfl hparts
    have heq : ((t.writeRecord (.machine m) code (b.supervisor.severityOf code) r.ref).linked m
        (b.supervisor.severityOf code == .lockout) true) =
        (if b.supervisor.severityOf code = .lockout then
          (t.writeRecord (.machine m) code (b.supervisor.severityOf code) r.ref).setLocking m
            (some (t.writeRecord (.machine m) code (b.supervisor.severityOf code) r.ref).supervisor.counter)
        else t.writeRecord (.machine m) code (b.supervisor.severityOf code) r.ref).setEnding m
          (some (t.writeRecord (.machine m) code (b.supervisor.severityOf code) r.ref).supervisor.counter) := by
      unfold State.linked
      cases b.supervisor.severityOf code <;> rfl
    rw [← heq]
    exact hdone
  | false =>
    simp only [hrec, Bool.false_eq_true, if_false, false_and, reduceCtorEq] at henter ⊢
    have hended := h.endSessionWith_of_enter hx (.fault code) .done e henter
    exact ⟨[], hended.completeIfEmpty_of_parts rfl hparts⟩

theorem State.recoveryBase_kept (b : State) (m : MachineNo) (r : MachineRecord) (code : FaultCode) :
    Kept [.supervisor] b (b.recoveryBase m r code) := by
  unfold State.recoveryBase
  split
  · exact ((Kept.refl _ _).and (State.kept_writeRecord _ _ _ _ _)).and (State.kept_linked _ _ _ _)
  · exact Kept.refl _ _

theorem State.kept_readying (b : State) : Kept [.startUp, .host] b b.readying := by
  refine ⟨rfl, fun y hy => ?_⟩
  cases y
  case startUp | host => simp at hy
  all_goals rfl

/-- Nothing but the start-up state, the host link, the unit and the payment queue changes as a session ended from RECOVERING settles. -/
structure State.Closing (s b : State) (m : MachineNo) (x : Session) (code : FaultCode) : Prop where
  engine : b.engine = s.engine
  line : b.line = s.line
  feeder : b.feeder = (s.releasing m).feeder
  payment : b.payment = { s.payment with queue := s.payment.queue ++ [.settle m x.id (.fault code) 0 x.paused] }
  supervisor : b.supervisor = (s.recoveryBase m (s.machine m) code).supervisor

/-- tRECOVER, running at a RECOVERING machine whose session has parts, whether another machine is RECOVERING or not (R22, R209). -/
theorem recoveryWindow_closes {s : State} {m : MachineNo} {x : Session} {changed : List Block} {holds : State → Prop} (hr : s.Runs)
    (hstate : (s.machine m).state = .recovering) (htimer : (s.machine m).recoveryWindow = true)
    (hafter : (s.machine m).afterSettle = .done) (hx : (s.machine m).session = some x) (hparts : x.parts ≠ [])
    (hout : (s.machine m).outstanding = .none) (hkept : Kept (.host :: changed) s (s.recoveryBase m (s.machine m) .nodeLost))
    (hblocks : ∀ y ∈ [Block.engine, .line, .feeder, .payment], y ∈ changed) (hstore : Block.store ∉ changed)
    (hh : ∀ b w t gs, s.Becomes b w m ((s.machine m).ending x (.fault .nodeLost) (s.supervisor.recoveryAfter .nodeLost))
      ((s.link m).ending (s.machine m).state (.fault .nodeLost) x.id) gs → w.Concludes t → s.Closing b m x .nodeLost → holds t) :
    (s.OtherRecovering m → LeadsNoticing (exec (.recoveryWindowExpiry m) s) s changed holds) ∧
      (s.LastRecovering m → LeadsNoticing (exec (.recoveryWindowExpiry m) s) s (.startUp :: changed) fun t =>
        holds t ∧ s.Readies t) := by
  have hbase := s.recoveryBase_kept m (s.machine m) .nodeLost
  have hrec (y : Block) (hy : y ∉ [Block.supervisor]) := hbase.2 y hy
  have hself := s.becomes_self m
  have hopen : (s.machine m).afterSettle.isLockedOut = false := by rw [hafter]; rfl
  have hevent : isEvent (.recoveryWindowExpiry m) := ⟨nofun, nofun⟩
  have heffect : effect (.recoveryWindowExpiry m) s = s.reportRecovery m .nodeLost 0 := if_pos ⟨hstate, htimer⟩
  have hhost : (s.recoveryBase m (s.machine m) .nodeLost).host = s.host := hrec .host (by simp)
  have hfeeder : (s.recoveryBase m (s.machine m) .nodeLost).feeder = s.feeder := hrec .feeder (by simp)
  have hpayment : (s.recoveryBase m (s.machine m) .nodeLost).payment = s.payment := hrec .payment (by simp)
  have hstart : (s.recoveryBase m (s.machine m) .nodeLost).startUp = s.startUp := hrec .startUp (by simp)
  have hengine : (s.recoveryBase m (s.machine m) .nodeLost).engine = s.engine := hrec .engine (by simp)
  have hline : (s.recoveryBase m (s.machine m) .nodeLost).line = s.line := hrec .line (by simp)
  have hport : (s.recoveryBase m (s.machine m) .nodeLost).store = s.store := hrec .store (by simp)
  have hfeederIn := hblocks .feeder (by simp)
  have hpaymentIn := hblocks .payment (by simp)
  generalize hB : s.recoveryBase m (s.machine m) .nodeLost = B at *
  have hreleased : (B.releasing m).feeder = (s.releasing m).feeder := by
    show (B.feeder.released m).1.judged.1 = (s.feeder.released m).1.judged.1
    rw [hfeeder]
  have hqueued (q : PayRequest) : (B.enqueue q).payment = { s.payment with queue := s.payment.queue ++ [q] } := by
    show ({ B.payment with queue := B.payment.queue ++ [q] } : PaymentUnit) = _
    rw [hpayment]
  have hnotices (ns : List Notice) : (B.releasing m).host.offered ns = s.host.offered ((s.feeder.released m).1.judged.2 ++ ns) := by
    show (B.host.offered (B.feeder.released m).1.judged.2).offered ns = _
    rw [hhost, hfeeder, HostLink.offered_append]
  have hsettles : Kept (.host :: .startUp :: changed) s B := ⟨hkept.1, fun y hy => hkept.2 y fun hmem => hy (by
    rcases List.mem_cons.mp hmem with rfl | hmem
    · exact .head _
    · exact .tail _ (.tail _ hmem))⟩
  refine ⟨fun hother => ?_, fun hlast => ?_⟩
  · obtain ⟨ns, hw⟩ := hself.reportRecovery hx hparts hopen .nodeLost 0 fun hu => hu.enter (by
      rw [hB]
      exact fun h => hother (hstart.symm.trans h)) .settling
    rw [State.placing_of_parts _ _ _ _ hparts hout, hB] at hw
    refine leadsNoticing_becomes ((s.feeder.released m).1.judged.2 ++ ns) hevent hr heffect hw (hnotices ns) ?_
      (hblocks _ (by simp)) (hblocks _ (by simp)) (fun t ht _ => hh _ _ _ _ hw ht ⟨hengine, hline, hreleased, hqueued _, by rw [hB]; rfl⟩)
      (by simp [hstore])
    exact (((hkept.and (State.kept_releasing _ m) (by simp [hfeederIn])).and (State.kept_enqueue _ _) (by simp [hpaymentIn]))).and
      (State.kept_host _ _) (by simp)
  · obtain ⟨hrecovering, -, hnone⟩ := hlast
    obtain ⟨ns, hw⟩ := hself.reportRecovery hx hparts hopen .nodeLost 0 fun hu => hu.enterLast (by
      rw [hB]
      exact hstart.trans hrecovering) hnone (by simp)
    rw [State.placing_of_parts _ _ _ _ hparts hout, hB] at hw
    refine leadsNoticing_becomes ((s.feeder.released m).1.judged.2 ++ .startUp .ready s.store.state :: ns) hevent hr heffect hw ?_
      ?_ (.tail _ (hblocks _ (by simp))) (.tail _ (hblocks _ (by simp))) (fun t ht hsent =>
        ⟨hh _ _ _ _ hw ht ⟨hengine, hline, hreleased, hqueued _, by rw [hB]; rfl⟩, ?_, fun k => ?_, _, ?_, hsent⟩) (by simp [hstore])
    · show (B.releasing m).host.offered (.startUp .ready B.store.state :: ns) = _
      rw [hport]
      exact hnotices _
    · exact (((hsettles.and (State.kept_releasing _ m) (by simp [hfeederIn])).and (State.kept_readying _) (by simp)).and
        (State.kept_enqueue _ _) (by simp [hpaymentIn])).and (State.kept_host _ _) (by simp)
    · exact ht.startUp.trans (congrArg State.startUp hw.same)
    · rw [ht.machine_of_eq rfl k]
      by_cases hk : k = m
      · rw [hk, hw.state]
        simp [MachineRecord.ending]
      · have hbut := congrArg MachineRecord.state (hw.record k hk)
        exact fun hrec => hnone k hk (hbut.symm.trans hrec)
    · simp

/-- Settles O49: each timer by the end of the session that it makes. -/
theorem sessionTimersEndSession : Obligations.SessionTimersEndSession := by
  intro s m hr r arm grace window
  have hevent (c : Instr) (hc : c = .armTimerExpiry m ∨ c = .graceTimerExpiry m ∨ c = .recoveryWindowExpiry m) : isEvent c := by
    rcases hc with rfl | rfl | rfl <;> exact ⟨nofun, nofun⟩
  have harm := hevent _ (.inl rfl)
  have hgrace := hevent _ (.inr (.inl rfl))
  have hwindow := hevent _ (.inr (.inr rfl))
  refine ⟨fun h => leads_nothing harm hr (State.armExpiry_off h), fun h => leads_nothing hgrace hr (State.graceExpiry_off h),
    fun h => leads_nothing hwindow hr (State.recoveryExpiry_off h), fun x hx hparts hout hlog => ?_⟩
  intro n settles recorded closes
  have hself := s.becomes_self m
  have hroom : s.supervisor.makeRoom = s.supervisor := s.supervisor.makeRoom_room hlog
  have href : (s.machine m).ref = .session x.id := MachineRecord.ref_of_some hx
  have hrecorded := s.linked_supervisor m .nodeLost .lockout (.session x.id) true true
  rw [hroom] at hrecorded
  refine ⟨fun hstate htimer hother => ?arm, fun hstate htimer hother => ⟨fun hrule => ?graceOn, fun hrule => ?graceOff⟩,
    fun hstate htimer hafter => ⟨fun hrule => ?windowOn, fun hrule => ?windowOff⟩⟩
  case arm =>
    have hw := (hself.endSession hother hx .armExpired .idle).completeIfEmpty_of_parts rfl hparts
    rw [State.endingBase, State.placing_of_parts _ _ _ _ hparts hout] at hw
    refine leadsNoticing_becomes _ harm hr (if_pos ⟨hstate, htimer⟩) hw rfl ?_ (by simp) (by simp) fun t ht _ => ?_
    · exact ((Kept.refl _ _).and (State.kept_releasing _ m)).and (State.kept_enqueue _ _)
    · obtain ⟨⟨a, hm⟩, c, htable⟩ := hw.concludes ht
      refine ⟨hw.settles ht hparts hout rfl rfl rfl rfl, ?_, fun hl => ?_⟩
      · rw [hm]
        exact if_pos (by rw [hstate]; rfl)
      · rw [htable]
        exact Link.ending_arm hl (.inl hstate) _ _
  case graceOn =>
    obtain ⟨ns, hw⟩ := (hself.modMachine fun r => { r with stoppedId := x.id }).recordReport_ends hother (.inr (.inr (.inr hstate))) hx hparts
      .nodeLost .lockout
    have heffect : effect (.graceTimerExpiry m) s =
        (s.modMachine m fun r => { r with stoppedId := x.id }).recordReport m .nodeLost .lockout :=
      (State.graceExpiry_on hstate hx htimer).trans (if_pos hrule)
    have href' : ({ s.machine m with stoppedId := x.id } : MachineRecord).ref = .session x.id := href
    rw [href', State.endingBase, State.placing_of_parts _ _ _ _ hparts (r := { s.machine m with stoppedId := x.id }) hout] at hw
    refine leadsNoticing_becomes _ hgrace hr heffect hw (HostLink.offered_append s.host _ ns).symm ?_ (by simp) (by simp)
      fun t ht _ => ?_
    · exact (((((Kept.refl _ _).and (State.kept_writeRecord _ _ _ _ _)).and (State.kept_linked _ _ _ _)).and
        (State.kept_releasing _ m)).and (State.kept_enqueue _ _)).and (State.kept_offering _ _)
    · obtain ⟨⟨a, hm⟩, c, htable⟩ := hw.concludes ht
      refine ⟨hw.settles ht hparts hout rfl rfl rfl rfl, ?_, fun hl => ?_, (hw.concludes_supervisor ht).trans hrecorded⟩
      · rw [hm]
        exact ite_self _
      · rw [htable]
        exact Link.ending_stop hl (.inr hstate) (by simp) _
  case graceOff =>
    have hw := ((hself.modMachine fun r => { r with stoppedId := x.id }).endSession hother hx (.fault .nodeLost) .done).completeIfEmpty_of_parts
      rfl hparts
    have heffect : effect (.graceTimerExpiry m) s =
        ((s.modMachine m fun r => { r with stoppedId := x.id }).endSession m (.fault .nodeLost) .done).completeIfEmpty m := by
      refine (State.graceExpiry_on hstate hx htimer).trans ((if_neg (Bool.eq_false_iff.mp hrule)).trans ?_)
      have hstill : ((s.modMachine m fun r => { r with stoppedId := x.id }).machine m).state = .stranded := by
        rw [State.modMachine_eq, State.placed_machine]
        exact hstate
      simp only [State.stopOrder, hstill]
    rw [State.endingBase, State.placing_of_parts _ _ _ _ hparts (r := { s.machine m with stoppedId := x.id }) hout] at hw
    refine leadsNoticing_becomes _ hgrace hr heffect hw rfl ?_ (by simp) (by simp) fun t ht _ => ?_
    · exact ((Kept.refl _ _).and (State.kept_releasing _ m)).and (State.kept_enqueue _ _)
    · obtain ⟨⟨a, hm⟩, c, htable⟩ := hw.concludes ht
      refine ⟨hw.settles ht hparts hout rfl rfl rfl rfl, ?_, fun hl => ?_⟩
      · rw [hm]
        exact ite_self _
      · rw [htable]
        exact Link.ending_stop hl (.inr hstate) (by simp) _
  case windowOn =>
    have hbase : s.recoveryBase m (s.machine m) .nodeLost =
        (s.writeRecord (.machine m) .nodeLost .lockout (.session x.id)).linked m true true := by
      rw [← href]
      exact if_pos hrule
    have hrecovers : s.supervisor.recoveryAfter .nodeLost = .lockedOut .nodeLost := if_pos ⟨hrule, rfl⟩
    refine recoveryWindow_closes hr hstate htimer hafter hx hparts hout ((Kept.refl _ _).and (s.recoveryBase_kept _ _ _)) (by simp) (by simp)
      fun b w t gs hw ht hb => ?_
    rw [hrecovers] at hw
    refine ⟨hw.settles ht hparts hout (by rw [hb.engine]) (by rw [hb.line]) hb.feeder hb.payment, ?_, ?_⟩
    · obtain ⟨⟨a, hm⟩, -⟩ := hw.concludes ht
      rw [hm]
      exact if_neg (by rw [hstate]; simp [endsBeforeStart])
    · exact (hw.concludes_supervisor ht).trans (hb.supervisor.trans ((congrArg State.supervisor hbase).trans hrecorded))
  case windowOff =>
    have hoff : s.supervisor.records .nodeLost = false := hrule
    have hbase : s.recoveryBase m (s.machine m) .nodeLost = s := if_neg (Bool.eq_false_iff.mp hoff)
    have hrecovers : s.supervisor.recoveryAfter .nodeLost = .done := if_neg fun h => absurd (hoff.symm.trans h.1) (by decide)
    refine recoveryWindow_closes hr hstate htimer hafter hx hparts hout (by rw [hbase]; exact Kept.refl _ _) (by simp) (by simp)
      fun b w t gs hw ht hb => ?_
    rw [hrecovers] at hw
    refine ⟨hw.settles ht hparts hout (by rw [hb.engine]) (by rw [hb.line]) hb.feeder hb.payment, ?_⟩
    obtain ⟨⟨a, hm⟩, -⟩ := hw.concludes ht
    rw [hm]
    exact if_neg (by rw [hstate]; simp [endsBeforeStart])

end Sys2Proof.Machine
end

section
/-! SUPPORT. The slow timer and tLOST (2.4), and the loss of a machine's node (1.7). -/
namespace Sys2Proof.Machine

/-! ## A node's link once the event has ended -/

section
variable {s b w t : State} {m : MachineNo} {r : MachineRecord} {l : Link} {gs : List MachineNo}

/-- What the next exchange leaves of a machine's link: all but its slow timer. -/
theorem State.Becomes.concludes_link (h : s.Becomes b w m r l gs) (ht : w.Concludes t) :
    (t.link m).state = l.state ∧ (t.link m).silentTimer = l.silentTimer := by
  obtain ⟨a, hl⟩ := h.link
  have hlink : t.link m = look w.line.begin.links m := congrArg (fun c : LineController => look c.links m) ht.line
  have hw : look w.line.links m = l.lamped a := hl
  rw [hlink]
  rcases w.line.begin_link_cases m with heq | ⟨-, heq⟩ <;> rw [heq, hw] <;> exact ⟨rfl, rfl⟩

/-- The other machines, where no block of the session engine or the line but machines and links has changed. -/
theorem State.Becomes.othersKept_of_kept {xs : List Block} (h : s.Becomes b w m r l gs) (ht : w.Concludes t) (hb : Kept xs s b)
    (hengine : Block.engine ∉ xs := by decide) (hline : Block.line ∉ xs := by decide) : OthersKept [m] s t := by
  have he : b.engine = s.engine := hb.2 .engine hengine
  have hl : b.line = s.line := hb.2 .line hline
  exact h.othersKept ht rfl rfl (by rw [he]) (by rw [hl])

/-- What the event leaves where machine `m`'s heat has been released: the unit, its notices and the machines told (R144, R149, R155). -/
theorem State.Becomes.heatReleased (h : s.Becomes b w m r l (s.feeder.released m).2) (ht : w.Concludes t)
    (hfeeder : b.feeder = (s.releasing m).feeder) :
    t.feeder.holdsGrant m = false ∧ t.feeder.queued m = false ∧ t.feeder.heaterFault = s.feeder.heaterFault ∧
      s.HeatReleased t m (s.feeder.released m).1.judged.2 := by
  have hunit : t.feeder = (s.releasing m).feeder := (h.concludes_feeder ht).trans hfeeder
  have hsettings : s.feeder.SameSettings (s.releasing m).feeder := (Feeder.sameSettings_released _ m).trans (Feeder.sameSettings_judged _)
  obtain ⟨hgrant, hqueue⟩ := s.releasing_absent m
  refine ⟨by rw [hunit]; exact hgrant, by rw [hunit]; exact hqueue, by rw [hunit]; exact hsettings.heaterFault, ?_, rfl,
    h.told.concludes ht rfl rfl⟩
  rw [hunit]
  rfl

/-! ## The note of a node lost -/

/-- The supervisor's part in the loss of a node: a NOTE, while the rule is enabled (R158, R163). -/
def State.noting (b : State) (m : MachineNo) (ref : Reference) (ends : Bool) : State :=
  if b.supervisor.records .nodeLost then (b.writeRecord (.machine m) .nodeLost .note ref).linked m false ends else b

theorem State.kept_noting (b : State) (m : MachineNo) (ref : Reference) (ends : Bool) :
    Kept [.supervisor] b (b.noting m ref ends) := by
  unfold State.noting
  split
  · exact ((Kept.refl _ _).and (State.kept_writeRecord _ _ _ _ _)).and (State.kept_linked _ _ _ _)
  · exact Kept.refl _ _

theorem State.noteNodeLost_eq (t : State) (m : MachineNo) (ends : Bool) : ∃ ns, t.noteNodeLost m ends =
    (t.noting m (t.sessionRef m) ends).offering ns ∧
      (t.supervisor.records .nodeLost = false → ns = []) := by
  unfold State.noteNodeLost State.noting
  split
  · next hrec =>
    have hlinked : (t.writeRecord (.machine m) .nodeLost .note (t.sessionRef m)).linked m false ends =
        (if ends then (t.writeRecord (.machine m) .nodeLost .note (t.sessionRef m)).setEnding m
          (some (t.writeRecord (.machine m) .nodeLost .note (t.sessionRef m)).supervisor.counter)
        else t.writeRecord (.machine m) .nodeLost .note (t.sessionRef m)) := rfl
    obtain ⟨ns, hns⟩ := ((t.writeRecord (.machine m) .nodeLost .note (t.sessionRef m)).linked m false ends).faultNotice_eq
    exact ⟨ns, by rw [← hns, hlinked], fun hoff => absurd (hoff.symm.trans hrec) (by decide)⟩
  · exact ⟨[], rfl, fun _ => rfl⟩

theorem State.Becomes.noteNodeLost {ref : Reference} (h : s.Becomes b t m r l gs) (href : r.ref = ref) (ends : Bool) : ∃ ns,
    s.Becomes ((b.noting m ref ends).offering ns) (t.noteNodeLost m ends) m r l gs ∧
      (b.supervisor.records .nodeLost = false → ns = []) := by
  obtain ⟨ns, hns, hoff⟩ := t.noteNodeLost_eq m ends
  rw [h.sessionRef, href] at hns
  rw [h.supervisor] at hoff
  refine ⟨ns, ?_, hoff⟩
  rw [hns]
  exact h.through (fun u => (u.noting m ref ends).offering ns) fun u ms ls => by
    simp only [State.noting]
    split <;> cases ends <;> rfl

/-- The supervisor with the note, the log not full. -/
theorem State.noting_on {b : State} (m : MachineNo) (ref : Reference) (ends : Bool) (hrule : look b.supervisor.enables 0 = true)
    (hlog : b.supervisor.log.length < 80) : (b.noting m ref ends).supervisor = { b.supervisor with
      log := b.supervisor.log ++ [⟨b.supervisor.next, b.clock.day, b.clock.minute, .machine m, .nodeLost, .note, ref, none, false⟩]
      counter := b.supervisor.next
      ending := if ends then b.supervisor.ending.set m.1 (some b.supervisor.next) else b.supervisor.ending } := by
  have hlinked := b.linked_supervisor m .nodeLost .note ref false ends
  rw [b.supervisor.makeRoom_room hlog] at hlinked
  exact (congrArg State.supervisor (if_pos (show b.supervisor.records .nodeLost = true from hrule))).trans hlinked

theorem State.noting_off {b : State} (m : MachineNo) (ref : Reference) (ends : Bool) (hrule : look b.supervisor.enables 0 = false) :
    b.noting m ref ends = b :=
  if_neg (Bool.eq_false_iff.mp (show b.supervisor.records .nodeLost = false from hrule))

/-! ## The loss of a node -/

/-- A machine whose node is lost enters OFFLINE and stays there (R3, R20). -/
theorem State.Becomes.enterOffline_lost (h : s.Becomes b t m r l gs) (hcalm : b.KeepsStart s m) (hl : l.state = .lost) :
    s.Becomes b (t.enterOffline m) m { r with state := .offline } l gs := by
  have h' := h.enterOffline hcalm
  rw [hl] at h'
  simpa using h'

/-- A RUNNING or DELAYED session is STRANDED (R20). -/
theorem State.Becomes.strand {x : Session} (h : s.Becomes b t m r l gs) (hcalm : b.KeepsStart s m) (hx : r.session = some x)
    (origin : StrandedFrom) :
    s.Becomes (b.releasing m) (t.strand m origin) m
      { r with state := .stranded, minuteTimer := false, graceTimer := some b.engine.graceMinutes
               session := some { x with strandedFrom := some origin } } l (gs ++ (b.feeder.released m).2) := by
  have hgrace : t.engine.graceMinutes = b.engine.graceMinutes := by rw [h.same]
  have h' := (((h.modSession fun x => { x with strandedFrom := some origin }).modMachine fun r =>
    { r with minuteTimer := false, graceTimer := some b.engine.graceMinutes }).releaseHeat).enter hcalm .stranded
  unfold State.strand
  rw [hgrace]
  rw [hx] at h'
  exact h'

end

theorem State.placed_engine_self (s : State) (m : MachineNo) (l : Link) : (s.placed m (s.machine m) l).engine = s.engine := by
  simp [State.placed, State.machine, look]

theorem Link.slowExpires_eq (l : Link) :
    l.slowExpires = { l with slow := if l.slow = SlowTimer.running then .expired else l.slow } := by
  unfold Link.slowExpires
  split <;> rfl

/-- A link as tLOST leaves it (R40). -/
def Link.losing (l : Link) : Link := { l with state := .lost, silentTimer := false }

theorem State.lostExpiry_on {s : State} {m : MachineNo} (hstate : (s.link m).state = .silent) (htimer : (s.link m).silentTimer = true) :
    s.lostExpiry m = (s.modLink m Link.losing).linkLost m := if_pos ⟨hstate, htimer⟩

theorem State.lostExpiry_off {s : State} {m : MachineNo} (h : (s.link m).state ≠ .silent ∨ (s.link m).silentTimer = false) :
    s.lostExpiry m = s := if_neg fun hc => h.elim (fun hne => hne hc.1) fun hoff => absurd (hoff.symm.trans hc.2) (by decide)

/-- The loss of a node by its machine's state, the machine's record being the one before (R20). -/
theorem State.linkLost_modLink (s : State) (m : MachineNo) (f : Link → Link) : (s.modLink m f).linkLost m =
    match (s.machine m).state with
    | .idle | .done => ((s.modLink m f).enterOffline m).noteNodeLost m false
    | .authorising => ((s.modLink m f).abandon m .nodeLoss).noteNodeLost m (s.machine m).abandoned.isNone
    | .armed => (((s.modLink m f).endSession m (.fault .nodeLost) .offline).noteNodeLost m true).completeIfEmpty m
    | .running => (s.modLink m f).strand m .running
    | .delayed => (s.modLink m f).strand m .delayed
    | .settling =>
      if (s.machine m).afterSettle.isLockedOut then s.modLink m f
      else (s.modLink m f).modMachine m fun y => { y with afterSettle := .offline }
    | .unassigned | .offline | .recovering | .stranded | .lockedOut => s.modLink m f := rfl

/-- The record an end from ARMED, DELAYED, RUNNING or STRANDED leaves, in the safety terms' words (R6). -/
theorem MachineRecord.ending_eq_settling {r : MachineRecord} {x : Session} (hparts : x.parts ≠ [])
    (hst : r.state = .armed ∨ r.state = .delayed ∨ r.state = .running ∨ r.state = .stranded) (cause : EndCause) (after : AfterSettle) :
    r.ending x cause after = r.settling x cause after := by
  unfold MachineRecord.ending MachineRecord.settling
  rcases hst with hst | hst | hst | hst <;> simp [hst, hparts, endsBeforeStart]

/-- A session with parts has ended, in the safety terms' words (R6). -/
theorem State.Becomes.ends {s b w t : State} {m : MachineNo} {l : Link} {gs : List MachineNo} {x : Session} {cause : EndCause}
    {after : AfterSettle} (hw : s.Becomes b w m ((s.machine m).ending x cause after) l gs) (ht : w.Concludes t) (hparts : x.parts ≠ [])
    (hst : (s.machine m).state = .armed ∨ (s.machine m).state = .delayed ∨ (s.machine m).state = .running ∨
      (s.machine m).state = .stranded)
    (hfeeder : b.feeder = (s.releasing m).feeder) (hpay : b.payment = ((s.releasing m).placing m (s.machine m) x cause x.elapsed).payment) :
    s.Ends t m x cause after := by
  obtain ⟨⟨a, hm⟩, -⟩ := hw.concludes ht
  obtain ⟨hgrant, hqueue⟩ := s.releasing_absent m
  unfold State.Ends
  rw [hw.concludes_feeder ht, hfeeder, hw.concludes_payment ht, hpay, hm, MachineRecord.ending_eq_settling hparts hst]
  refine ⟨rfl, hgrant, hqueue, ?_⟩
  unfold State.placing
  by_cases hout : (s.machine m).outstanding = .none
  · rw [if_pos ⟨hparts, hout⟩, if_pos hout]
    rfl
  · rw [if_neg fun h => hout h.2, if_neg hout]
    rfl

theorem State.noting_supervisor {b s : State} (m : MachineNo) (ref : Reference) (ends : Bool) (hv : b.supervisor = s.supervisor)
    (hc : b.clock = s.clock) : (b.noting m ref ends).supervisor = (s.noting m ref ends).supervisor := by
  unfold State.noting
  rw [hv]
  split
  · rw [State.linked_supervisor, State.linked_supervisor, hv, hc]
  · exact hv

/-- The blocks other than machines and links once the session of machine `m` has ended for its node's loss, the end noted. -/
def State.losingBase (s : State) (m : MachineNo) (x : Session) (ns : List Notice) : State :=
  ((s.endingBase m (s.machine m) x (.fault .nodeLost) x.elapsed).noting m (.session x.id) true).offering ns

/-- What those blocks are. -/
theorem State.losingBase_eq (s : State) (m : MachineNo) (x : Session) (ns : List Notice) :
    (s.losingBase m x ns).host = s.host.offered ((s.feeder.released m).1.judged.2 ++ ns) ∧
      (s.losingBase m x ns).feeder = (s.releasing m).feeder ∧
      (s.losingBase m x ns).payment = ((s.releasing m).placing m (s.machine m) x (.fault .nodeLost) x.elapsed).payment ∧
      (s.losingBase m x ns).supervisor = (s.noting m (.session x.id) true).supervisor ∧
      Kept [.feeder, .host, .payment, .supervisor] s (s.losingBase m x ns) ∧
      (look s.supervisor.enables 0 = false → Kept [.feeder, .host, .payment] s (s.losingBase m x ns)) := by
  have hended : Kept [.feeder, .host, .payment] s (s.endingBase m (s.machine m) x (.fault .nodeLost) x.elapsed) :=
    ((Kept.refl _ _).and (State.kept_releasing _ m)).and (State.kept_placing _ _ _ _ _ _)
  have hnoting := State.kept_noting (s.endingBase m (s.machine m) x (.fault .nodeLost) x.elapsed) m (.session x.id) true
  have hplacing := State.kept_placing (s.releasing m) m (s.machine m) x (.fault .nodeLost) x.elapsed
  have hhost : (s.endingBase m (s.machine m) x (.fault .nodeLost) x.elapsed).host = (s.releasing m).host := hplacing.2 .host (by decide)
  have hfeeder : (s.endingBase m (s.machine m) x (.fault .nodeLost) x.elapsed).feeder = (s.releasing m).feeder :=
    hplacing.2 .feeder (by decide)
  have hv : (s.endingBase m (s.machine m) x (.fault .nodeLost) x.elapsed).supervisor = s.supervisor := hended.2 .supervisor (by decide)
  have hc : (s.endingBase m (s.machine m) x (.fault .nodeLost) x.elapsed).clock = s.clock := hended.2 .clock (by decide)
  refine ⟨?_, (hnoting.2 .feeder (by decide)).trans hfeeder, hnoting.2 .payment (by decide), State.noting_supervisor m _ true hv hc,
    ((hended.mono (by decide)).and hnoting).and (State.kept_offering _ ns), fun hrule => ?_⟩
  · have hnoted : ((s.endingBase m (s.machine m) x (.fault .nodeLost) x.elapsed).noting m (.session x.id) true).host =
        (s.releasing m).host := (hnoting.2 .host (by decide)).trans hhost
    rw [HostLink.offered_append]
    exact congrArg (HostLink.offered · ns) hnoted
  · unfold State.losingBase
    rw [State.noting_off m _ true (by rw [hv]; exact hrule)]
    exact hended.and (State.kept_offering _ ns)

/-- An ARMED session whose node is lost, its end noted (R20). -/
theorem State.losing_armed {s : State} {m : MachineNo} {x : Session} (hother : s.OtherRecovering m)
    (hx : (s.machine m).session = some x) :
    ∃ ns, s.Becomes (s.losingBase m x ns)
      (((s.modLink m Link.losing).endSession m (.fault .nodeLost) .offline).noteNodeLost m true) m
      ((s.machine m).ending x (.fault .nodeLost) .offline) ((s.link m).losing.ending (s.machine m).state (.fault .nodeLost) x.id)
      (s.feeder.released m).2 := by
  have hended := ((s.becomes_self m).modLink Link.losing).endSession hother hx (.fault .nodeLost) .offline
  obtain ⟨ns, hw, -⟩ := hended.noteNodeLost (ref := .session x.id) rfl true
  exact ⟨ns, hw⟩

/-- The record of a part-less ARMED session's end, completed at once, its node lost (R7, R20). -/
theorem MachineRecord.lost_completed {r : MachineRecord} {x : Session} {l : Link} {cause : EndCause} (hst : r.state = .armed)
    (hl : l.state = .lost) : (r.ending x cause .offline).completed { x with endCause := some cause, heat := .none } l =
      { r.settling x cause .offline with state := .offline, session := none, outstanding := .none } := by
  simp [MachineRecord.completed, MachineRecord.entering, MachineRecord.ending, MachineRecord.settling, hst, hl, endsBeforeStart]

/-- The charge written into the session's ending record (R163). -/
theorem State.writeCharge_of_some {b : State} {m : MachineNo} {q : Nat} (h : look b.supervisor.ending m = some q) (total : Nat) :
    (b.writeCharge m total).supervisor = { b.supervisor with
      log := b.supervisor.log.map fun r => if r.sequence = q then { r with charge := some total } else r
      ending := b.supervisor.ending.set m.1 none } := by
  unfold State.writeCharge
  rw [h]
  rfl

theorem Kept.without {xs ys : List Block} {s b : State} {y : Block} (h : Kept xs s b) (hy : y.kept s b)
    (hsub : ∀ x ∈ xs, x = y ∨ x ∈ ys) : Kept ys s b := by
  refine ⟨h.1, fun z hz => ?_⟩
  by_cases hzy : z = y
  · rw [hzy]
    exact hy
  · exact h.2 z fun hmem => (hsub z hmem).elim hzy hz

/-- The blocks of a part-less session completed after its node's loss: its charge of 0 stands in the note (R163). -/
theorem State.lost_completing {s C : State} {m : MachineNo} {x : Session} (hparts : x.parts = [])
    (hending : look s.supervisor.ending m = none) (ns : List Notice)
    (hC : (s.losingBase m x ns).completing m ((s.machine m).ending x (.fault .nodeLost) .offline)
        { x with endCause := some (.fault .nodeLost), heat := .none } [] none = C) :
    C.feeder = (s.releasing m).feeder ∧
      C.host = s.host.offered ((s.feeder.released m).1.judged.2 ++ ns ++
        [.sessionEnded m x.id x.mode (some (.fault .nodeLost)) x.elapsed x.paused []]) ∧
      Kept [.feeder, .host, .supervisor] s C ∧
      (look s.supervisor.enables 0 = false → Kept [.feeder, .host] s C) ∧
      (look s.supervisor.enables 0 = true → s.supervisor.log.length < 80 → (∀ y ∈ s.supervisor.log, y.sequence ≠ s.supervisor.next) →
        C.supervisor = { s.supervisor with
          log := s.supervisor.log ++
            [⟨s.supervisor.next, s.clock.day, s.clock.minute, .machine m, .nodeLost, .note, .session x.id, some 0, false⟩]
          counter := s.supervisor.next }) := by
  obtain ⟨hhost, hfeeder, hpay, hnoted, hkept, hkeptOff⟩ := s.losingBase_eq m x ns
  generalize s.losingBase m x ns = B at *
  have hC : C = (B.notify (.sessionEnded m x.id x.mode (some (.fault .nodeLost)) x.elapsed x.paused [])).writeCharge m 0 := hC.symm
  generalize hN : B.notify (.sessionEnded m x.id x.mode (some (.fault .nodeLost)) x.elapsed x.paused []) = N at hC
  have hnotified : Kept [.host] B N := hN ▸ B.kept_notify _
  have hcharged : Kept [.supervisor] N C := hC ▸ N.kept_writeCharge m 0
  have hpayment : B.payment = s.payment := hpay.trans
    (congrArg State.payment (State.endingBase_of_empty s m (s.machine m) (.fault .nodeLost) x.elapsed hparts) :)
  have hkept' : Kept [.feeder, .host, .supervisor] s B := hkept.without (y := .payment) hpayment (by decide)
  refine ⟨(hcharged.2 .feeder (by decide)).trans ((hnotified.2 .feeder (by decide)).trans hfeeder), ?_,
    (hkept'.and hnotified).and hcharged, fun hrule => ?_, fun hrule hlog hfresh => ?_⟩
  · rw [HostLink.offered_append, ← hhost]
    exact (hcharged.2 .host (by decide)).trans (congrArg State.host hN.symm)
  · have hoff : Kept [.feeder, .host] s B := (hkeptOff hrule).without (y := .payment) hpayment (by decide)
    have hnone : look N.supervisor.ending m = none := by
      rw [show N.supervisor = s.supervisor from (hnotified.2 .supervisor (by decide)).trans (hoff.2 .supervisor (by decide))]
      exact hending
    rw [hC, State.writeCharge_of_none hnone]
    exact hoff.and hnotified
  · have hv : N.supervisor = _ := (hnotified.2 .supervisor (by decide)).trans (hnoted.trans (State.noting_on m _ true hrule hlog))
    have hsome : look N.supervisor.ending m = some s.supervisor.next := by
      rw [hv]
      exact look_set_self _ _ _
    rw [hC, State.writeCharge_of_some hsome, hv]
    have hlog' : ∀ tail, (s.supervisor.log ++ tail).map (fun r => if r.sequence = s.supervisor.next then { r with charge := some 0 } else r)
        = s.supervisor.log ++ tail.map fun r => if r.sequence = s.supervisor.next then { r with charge := some 0 } else r := by
      intro tail
      rw [List.map_append]
      congr 1
      exact (List.map_congr_left fun y hy => if_neg (hfresh y hy)).trans (List.map_id _)
    have hending' : (s.supervisor.ending.set m.1 (some s.supervisor.next)).set m.1 none = s.supervisor.ending := by
      rw [Vector.set_set, ← hending]
      exact Vector.set_getElem_self _
    simp only [hlog', if_true, List.map_cons, List.map_nil, hending']

/-- A machine's record and link replaced. -/
theorem State.kept_placed (s : State) (m : MachineNo) (r : MachineRecord) (l : Link) : Kept [.engine, .line] s (s.placed m r l) := by
  refine ⟨rfl, fun y hy => ?_⟩
  cases y
  case engine | line => simp at hy
  all_goals rfl

/-- A machine's link replaced. -/
theorem State.kept_link (s : State) (m : MachineNo) (l : Link) : Kept [.line] s (s.placed m (s.machine m) l) :=
  (s.kept_placed m _ l).without (y := .engine) (s.placed_engine_self m l) (by decide)

/-- The state with machine `m`'s authorisation abandoned for the loss of its node: the first mark stands (R9, R20). -/
def State.abandoning (s : State) (m : MachineNo) : State :=
  s.placed m { s.machine m with abandoned := some ((s.machine m).abandoned.getD .nodeLoss) } (s.link m).losing

theorem State.modLink_abandon (s : State) (m : MachineNo) : (s.modLink m Link.losing).abandon m .nodeLoss = s.abandoning m := by
  have hmark (x : Option Abandonment) : markAbandoned x .nodeLoss = x.getD .nodeLoss := by
    cases x with
    | none => rfl
    | some a => cases a <;> rfl
  simp only [State.abandon, hmark, State.modLink_eq, State.modMachine_eq, State.placed_machine, State.placed_link, State.placed_placed]
  rfl

/-- Settles O48: the slow timer by its link; tLOST by the machine's state. -/
theorem linkTimersExpire : Obligations.LinkTimersExpire := by
  intro s m hr l r out n lost
  have hslow : isEvent (.slowTimerExpiry m) := ⟨nofun, nofun⟩
  have hlost : isEvent (.lostTimerExpiry m) := ⟨nofun, nofun⟩
  refine ⟨?slow, fun h => leads_nothing hlost hr (State.lostExpiry_off h), fun hstate htimer hother => ?lost⟩
  case slow =>
    refine leads_of_effect hslow hr (s.modLink_eq m _) (s.kept_link m _) hr.2 fun t ht => ?_
    rw [ht.line, Link.slowExpires_eq]
    rfl
  case lost =>
    have heffect : effect (.lostTimerExpiry m) s = (s.modLink m Link.losing).linkLost m := State.lostExpiry_on hstate htimer
    have hlosing := (s.becomes_self m).modLink Link.losing
    refine ⟨fun x hx hst => ?strands, fun hst hnone => ⟨fun hrule => ?offlineOff, fun hrule hlog => ?offlineOn⟩, ?_⟩
    case strands =>
      have hstrands (origin : StrandedFrom) (horigin : (if r.state = .running then some StrandedFrom.running else some .delayed) = some origin)
          (heq : (s.modLink m Link.losing).linkLost m = (s.modLink m Link.losing).strand m origin) :
          Leads out s [.line, .engine, .feeder, .host] fun t =>
            lost t ∧ t.machine m = { r with
              state := .stranded, minuteTimer := false, graceTimer := some s.engine.graceMinutes
              lampSent := (t.machine m).lampSent
              session := some { x with strandedFrom := if r.state = .running then some .running else some .delayed } } ∧
            t.feeder.holdsGrant m = false ∧ t.feeder.queued m = false ∧ t.feeder.heaterFault = s.feeder.heaterFault ∧
            ∃ ns, s.HeatReleased t m ns ∧ t.host = (s.host.offered ns).transmit := by
        have hw := hlosing.strand hother hx origin
        refine leads_becomes hlost hr (heffect.trans heq) hw ((Kept.refl _ _).and (State.kept_releasing _ m))
          (by simp) (by simp) fun t ht => ?_
        obtain ⟨⟨a, hm⟩, -⟩ := hw.concludes ht
        obtain ⟨hgrant, hqueue, hfault, hreleased⟩ := hw.heatReleased ht rfl
        refine ⟨⟨hw.othersKept ht rfl rfl rfl rfl, hw.concludes_link ht⟩, ?_, hgrant, hqueue, hfault, _, hreleased, ?_⟩
        · rw [hm, horigin]
          rfl
        · rw [ht.host, hw.same]
          rfl
      rcases hst with hst | hst
      · exact hstrands .running (by rw [if_pos hst]) ((s.linkLost_modLink m _).trans (by rw [hst]))
      · exact hstrands .delayed (by rw [if_neg (by rw [hst]; simp)]) ((s.linkLost_modLink m _).trans (by rw [hst]))
    case offlineOff =>
      have heq : (s.modLink m Link.losing).linkLost m = ((s.modLink m Link.losing).enterOffline m).noteNodeLost m false := by
        rw [s.linkLost_modLink]
        rcases hst with hst | hst <;> rw [hst]
      obtain ⟨ns, hw, hoff⟩ := (hlosing.enterOffline_lost hother rfl).noteNodeLost (MachineRecord.ref_of_none hnone) false
      rw [hoff hrule, State.noting_off _ _ _ hrule] at hw
      refine leads_becomes hlost hr (heffect.trans heq) hw (Kept.refl _ _) (by simp) (by simp) fun t ht => ?_
      obtain ⟨⟨a, hm⟩, -⟩ := hw.concludes ht
      refine ⟨⟨hw.othersKept ht rfl rfl rfl rfl, hw.concludes_link ht⟩, ?_⟩
      rw [hm]
      rfl
    case offlineOn =>
      have heq : (s.modLink m Link.losing).linkLost m = ((s.modLink m Link.losing).enterOffline m).noteNodeLost m false := by
        rw [s.linkLost_modLink]
        rcases hst with hst | hst <;> rw [hst]
      obtain ⟨ns, hw, -⟩ := (hlosing.enterOffline_lost hother rfl).noteNodeLost (MachineRecord.ref_of_none hnone) false
      have hnoted := State.noting_on (b := s) m .none false hrule hlog
      have hkept : Kept [.supervisor, .host] s ((s.noting m .none false).offering ns) :=
        ((Kept.refl _ s).and (State.kept_noting s m .none false)).and (State.kept_offering _ _)
      have hhost : (s.noting m .none false).host = s.host := (s.kept_noting m .none false).2 .host (by decide)
      refine leadsNoticing_becomes ns hlost hr (heffect.trans heq) hw (congrArg (HostLink.offered · ns) hhost)
        (hkept.mono (by decide)) (by simp) (by simp) fun t ht _ => ?_
      obtain ⟨⟨a, hm⟩, -⟩ := hw.concludes ht
      refine ⟨⟨hw.othersKept_of_kept ht hkept, hw.concludes_link ht⟩, ?_, (hw.concludes_supervisor ht).trans hnoted⟩
      rw [hm]
      rfl
    have harmed (hst : r.state = .armed) : effect (.lostTimerExpiry m) s =
        (((s.modLink m Link.losing).endSession m (.fault .nodeLost) .offline).noteNodeLost m true).completeIfEmpty m :=
      (heffect.trans (s.linkLost_modLink m _)).trans (by rw [show (s.machine m).state = .armed from hst])
    have hauthorising (hst : r.state = .authorising) : effect (.lostTimerExpiry m) s =
        (s.abandoning m).noteNodeLost m (s.machine m).abandoned.isNone := by
      rw [heffect, s.linkLost_modLink, show (s.machine m).state = .authorising from hst, s.modLink_abandon]
    intro line sets cause note
    have hnote (ends : Bool) (charge : Option Nat) : note ends charge = { s.supervisor with
        log := s.supervisor.log ++ [⟨n, s.clock.day, s.clock.minute, .machine m, .nodeLost, .note, (s.machine m).ref, charge, false⟩]
        counter := n
        ending := if ends then s.supervisor.ending.set m.1 (some n) else s.supervisor.ending } := by
      simp only [note, MachineRecord.ref, r]
      cases (s.machine m).session <;> rfl
    refine ⟨fun x hx hst => ⟨fun hparts => ?armed, fun hparts hending => ?empty⟩,
      fun hst => ⟨fun hrule => ?authorisingOff, fun hrule hlog => ?authorisingOn⟩, fun hst => ⟨fun hlocked => ?locking, fun hopen => ?settling⟩,
      fun hst => ?others⟩
    case armed =>
      obtain ⟨ns, hended⟩ := s.losing_armed hother hx
      obtain ⟨hhost, hfeeder, hpay, hnoted, hkept, hkeptOff⟩ := s.losingBase_eq m x ns
      have hw := hended.completeIfEmpty_of_parts rfl hparts
      rw [← harmed hst, show (s.machine m).state = .armed from hst] at hw
      have hends (t : State) (ht : (effect (.lostTimerExpiry m) s).Concludes t) :
          lost t ∧ s.Ends t m x cause .offline ∧ (t.link m).table.arm = some (.disable x.id) := by
        obtain ⟨-, c, htable⟩ := hw.concludes ht
        refine ⟨⟨hw.othersKept_of_kept ht hkept, hw.concludes_link ht⟩, hw.ends ht hparts (.inl hst) hfeeder hpay, ?_⟩
        rw [htable]
        rfl
      refine ⟨fun hrule => ?_, fun hrule hlog => ?_⟩
      · exact leadsNoticing_becomes _ hlost hr rfl hw hhost ((hkeptOff hrule).mono (by decide)) (by simp) (by simp) fun t ht _ => hends t ht
      · refine leadsNoticing_becomes _ hlost hr rfl hw hhost (hkept.mono (by decide)) (by simp) (by simp) fun t ht _ => ⟨hends t ht, ?_⟩
        rw [hnote, MachineRecord.ref_of_some hx]
        exact (hw.concludes_supervisor ht).trans (hnoted.trans (State.noting_on m _ true hrule hlog))
    case empty =>
      obtain ⟨ns, hended⟩ := s.losing_armed hother hx
      obtain ⟨hhost, hfeeder, hpay, hnoted, hkept, hkeptOff⟩ := s.losingBase_eq m x ns
      have hw := hended.completeIfEmpty (fun h => hother ((hkept.2 .startUp (by decide)).symm.trans h)) rfl rfl hparts
      rw [← harmed hst, show (s.machine m).state = .armed from hst, MachineRecord.lost_completed hst rfl] at hw
      generalize hC : (s.losingBase m x ns).completing m ((s.machine m).ending x (.fault .nodeLost) .offline)
        { x with endCause := some (.fault .nodeLost), heat := .none } [] none = C at hw
      obtain ⟨hCfeeder, hChost, hCkept, hCoff, hCon⟩ := s.lost_completing hparts hending ns hC
      have hends (t : State) (ht : (effect (.lostTimerExpiry m) s).Concludes t) :
          lost t ∧ (t.link m).table.arm = some (.disable x.id) ∧
            t.machine m = { r.settling x cause .offline with
              state := .offline, session := none, outstanding := .none, lampSent := (t.machine m).lampSent } ∧
            t.feeder.holdsGrant m = false ∧ t.feeder.queued m = false := by
        obtain ⟨⟨a, hm⟩, c, htable⟩ := hw.concludes ht
        obtain ⟨hgrant, hqueue⟩ := s.releasing_absent m
        refine ⟨⟨hw.othersKept_of_kept ht hCkept, hw.concludes_link ht⟩, ?_, ?_, ?_⟩
        · rw [htable]
          rfl
        · rw [hm]
          rfl
        · rw [hw.concludes_feeder ht, hCfeeder]
          exact ⟨hgrant, hqueue⟩
      refine ⟨fun hrule => ?_, fun hrule hlog hfresh => ?_⟩
      · exact leadsNoticing_becomes _ hlost hr rfl hw hChost ((hCoff hrule).mono (by decide)) (by simp) (by simp) fun t ht _ => hends t ht
      · refine leadsNoticing_becomes _ hlost hr rfl hw hChost (hCkept.mono (by decide)) (by simp) (by simp) fun t ht _ => ⟨hends t ht, ?_⟩
        rw [hnote, MachineRecord.ref_of_some hx]
        exact (hw.concludes_supervisor ht).trans (hCon hrule hlog hfresh)
    case authorisingOff =>
      have hstays : (s.abandoning m).noteNodeLost m (s.machine m).abandoned.isNone = s.abandoning m := if_neg (Bool.eq_false_iff.mp hrule)
      exact leads_of_effect hlost hr ((hauthorising hst).trans hstays) (s.kept_placed m _ _ |>.mono (by decide)) hr.2 fun t ht =>
        ⟨ht.line, ht.engine⟩
    case authorisingOn =>
      obtain ⟨ns, hns, -⟩ := (s.abandoning m).noteNodeLost_eq m (s.machine m).abandoned.isNone
      have hnoting := (s.abandoning m).kept_noting m ((s.abandoning m).sessionRef m) (s.machine m).abandoned.isNone
      have hkept := (((s.kept_placed m _ _).mono (ys := [.line, .engine, .supervisor, .host]) (by decide)).and hnoting).and
        (State.kept_offering _ ns)
      refine leads_of_effect hlost hr ((hauthorising hst).trans hns) (hkept.mono (by decide)) (hkept.settled hr.2) fun t ht =>
        ⟨⟨ns, ht.host.trans ?_⟩, ht.line.trans ?_, ht.engine.trans ?_, ht.supervisor.trans ?_⟩
      · exact congrArg (fun g : HostLink => (g.offered ns).transmit) (hnoting.2 .host (by decide))
      · exact congrArg LineController.begin (hnoting.2 .line (by decide))
      · exact hnoting.2 .engine (by decide)
      · have href : (s.abandoning m).sessionRef m = (s.machine m).ref := by
          rw [((s.abandoning m).becomes_self m).sessionRef]
          exact (congrArg MachineRecord.ref (s.placed_machine m _ _) :)
        rw [hnote, href]
        exact State.noting_on (b := s.abandoning m) m _ _ hrule hlog
    case locking =>
      have heq : effect (.lostTimerExpiry m) s = s.placed m (s.machine m) l.losing := by
        rw [heffect, s.linkLost_modLink, show (s.machine m).state = _ from hst]
        obtain ⟨c, hc⟩ := hlocked
        simp only [show (s.machine m).afterSettle = _ from hc, AfterSettle.isLockedOut, if_true, s.modLink_eq]
        rfl
      exact leads_of_effect hlost hr heq (s.kept_link m _) hr.2 fun t ht => ht.line
    case settling =>
      have heq : effect (.lostTimerExpiry m) s = s.placed m { s.machine m with afterSettle := .offline } l.losing := by
        have hnot : (s.machine m).afterSettle.isLockedOut = false := by
          cases hc : (s.machine m).afterSettle with
          | lockedOut c => exact absurd hc (hopen c)
          | idle | done | offline => rfl
        rw [heffect, s.linkLost_modLink, show (s.machine m).state = _ from hst]
        simp only [hnot, Bool.false_eq_true, if_false, s.modLink_eq, State.modMachine_eq, State.placed_machine, State.placed_link,
          State.placed_placed]
        rfl
      exact leads_of_effect hlost hr heq ((s.kept_placed m _ _).mono (by decide)) hr.2 fun t ht => ⟨ht.line, ht.engine⟩
    case others =>
      have heq : effect (.lostTimerExpiry m) s = s.placed m (s.machine m) l.losing := by
        rw [heffect, s.linkLost_modLink, s.modLink_eq]
        simp only [List.mem_cons, List.not_mem_nil, or_false] at hst
        rcases hst with hst | hst | hst | hst | hst <;> rw [show (s.machine m).state = _ from hst]
      exact leads_of_effect hlost hr heq (s.kept_link m _) hr.2 fun t ht => ht.line

end Sys2Proof.Machine
end

section
/-! SUPPORT. A heat request at the feeder: the claim that joins its room's NEW queue or is granted at once, what the pass makes of it, and
the bounds, the order and the heads that the unit's operations keep (R142 to R144, R146). -/
namespace Sys2Proof.Machine.Feeder

variable {f g : Feeder} {r k : RoomNo} {q : Turn} {c d : Claim} {m : MachineNo}

/-! ## A claim that joins -/

/-- The unit with a claim at the tail of a room's NEW queue. -/
def joined (f : Feeder) (r : RoomNo) (c : Claim) : Feeder :=
  { f with rooms := f.rooms.set r.1 { look f.rooms r with newQueue := (look f.rooms r).newQueue ++ [c] } }

/-- The unit with a grant of load 0. -/
def freed (f : Feeder) (r : RoomNo) (m : MachineNo) : Feeder :=
  { f with
    rooms := f.rooms.set r.1 { look f.rooms r with grants := (look f.rooms r).grants ++ [⟨m, 0⟩] }
    order := f.order ++ [m] }

theorem joined_room_self : look (f.joined r c).rooms r = { look f.rooms r with newQueue := (look f.rooms r).newQueue ++ [c] } :=
  look_set_self _ _ _

theorem joined_room_other (h : k ≠ r) : look (f.joined r c).rooms k = look f.rooms k := look_set_other _ _ h

theorem freed_room_self : look (f.freed r m).rooms r = { look f.rooms r with grants := (look f.rooms r).grants ++ [⟨m, 0⟩] } :=
  look_set_self _ _ _

theorem freed_room_other (h : k ≠ r) : look (f.freed r m).rooms k = look f.rooms k := look_set_other _ _ h

@[simp] theorem joined_grants : (look (f.joined r c).rooms k).grants = (look f.rooms k).grants := by
  by_cases h : k = r
  · subst h; rw [joined_room_self]
  · rw [joined_room_other h]

@[simp] theorem joined_capacity : (look (f.joined r c).rooms k).capacity = (look f.rooms k).capacity := by
  by_cases h : k = r
  · subst h; rw [joined_room_self]
  · rw [joined_room_other h]

theorem joined_granted : (f.joined r c).granted k = f.granted k := by rw [granted, granted, joined_grants]

theorem joined_total : (f.joined r c).total = f.total := by
  unfold total
  rw [show (f.joined r c).granted = f.granted from funext fun _ => joined_granted]

theorem freed_granted : (f.freed r m).granted k = f.granted k := by
  unfold granted
  by_cases h : k = r
  · subst h
    rw [freed_room_self, loadOf_append]
    rfl
  · rw [freed_room_other h]

theorem freed_total : (f.freed r m).total = f.total := by
  unfold total
  rw [show (f.freed r m).granted = f.granted from funext fun _ => freed_granted]

@[simp] theorem freed_capacity : (look (f.freed r m).rooms k).capacity = (look f.rooms k).capacity := by
  by_cases h : k = r
  · subst h; rw [freed_room_self]
  · rw [freed_room_other h]

@[simp] theorem freed_queue : (look (f.freed r m).rooms k).queue q = (look f.rooms k).queue q := by
  by_cases h : k = r
  · subst h; rw [freed_room_self]; cases q <;> rfl
  · rw [freed_room_other h]

/-- Of the heads only that of the queue joined can be another, and that only where the queue was empty. -/
theorem joined_headFits : (f.joined r c).HeadFits k q d ↔ f.HeadFits k q d ∨
    k = r ∧ q = .new ∧ d = c ∧ (look f.rooms r).newQueue = [] ∧ f.granted r + c.load ≤ (look f.rooms r).capacity ∧
      f.total + c.load ≤ f.effectiveLimit := by
  unfold HeadFits
  rw [joined_capacity, joined_granted, joined_total]
  change _ ∧ _ ∧ f.total + d.load ≤ f.effectiveLimit ↔ _
  by_cases hk : k = r
  · subst hk
    rw [joined_room_self]
    cases q with
    | new =>
      cases hq : (look f.rooms k).newQueue with
      | nil =>
        simp only [RoomFeeder.queue, hq, List.nil_append, List.head?_cons, List.head?_nil, reduceCtorEq, false_and, false_or, true_and,
          Option.some.injEq]
        constructor
        · rintro ⟨rfl, h⟩; exact ⟨rfl, h⟩
        · rintro ⟨rfl, h⟩; exact ⟨rfl, h⟩
      | cons e es => simp [RoomFeeder.queue, hq]
    | resume => simp [RoomFeeder.queue]
  · rw [joined_room_other hk]
    simp [hk]

theorem freed_headFits : (f.freed r m).HeadFits k q d ↔ f.HeadFits k q d := by
  unfold HeadFits
  rw [freed_capacity, freed_granted, freed_total, freed_queue]
  exact Iff.rfl

/-! ## What the pass makes of it -/

/-- Machine `m`'s only place in the queues is a claim `c` in room `r`'s NEW queue. -/
def WaitsAlone (f : Feeder) (r : RoomNo) (c : Claim) : Prop :=
  ∀ k q, ∀ d ∈ (look f.rooms k).queue q, d.machine = c.machine → k = r ∧ q = .new ∧ d = c

theorem afterGrant_queue : (look (f.afterGrant r q c).rooms k).queue p =
    if k = r ∧ p = q then ((look f.rooms k).queue p).tail else (look f.rooms k).queue p := by
  by_cases hk : k = r
  · subst hk
    rw [afterGrant, look_set_self]
    cases q <;> cases p <;> simp [RoomFeeder.queue]
  · rw [afterGrant_room_other f r q c hk]
    simp [hk]

theorem WaitsAlone.afterGrant (h : f.WaitsAlone r c) : (f.afterGrant k q d).WaitsAlone r c := by
  intro j p e he hm
  refine h j p e ?_ hm
  rw [afterGrant_queue] at he
  split at he
  · exact List.mem_of_mem_tail he
  · exact he

/-- A pass grants a machine's claim that waits in a NEW queue, or leaves it there (R147). -/
theorem pass_claim (f : Feeder) : ∀ {r c}, f.WaitsAlone r c → c ∈ (look f.rooms r).newQueue →
    (c.machine ∈ f.pass.2 → c ∈ (look f.pass.1.rooms r).grants) ∧ (c.machine ∉ f.pass.2 → c ∈ (look f.pass.1.rooms r).newQueue) := by
  refine pass_induction (P := fun f p => ∀ {r c}, f.WaitsAlone r c → c ∈ (look f.rooms r).newQueue →
    (c.machine ∈ p.2 → c ∈ (look p.1.rooms r).grants) ∧ (c.machine ∉ p.2 → c ∈ (look p.1.rooms r).newQueue)) ?_ ?_ f
  · intro f _ r c _ hc
    exact ⟨nofun, fun _ => hc⟩
  · intro f k q d hgrants ih r c halone hc
    have hhead : ((look f.rooms k).queue q).head? = some d := hgrants.1.1
    have hprefix : (look (f.afterGrant k q d).rooms r).grants <+: (look (f.afterGrant k q d).pass.1.rooms r).grants :=
      pass_prefix _ r
    by_cases hm : d.machine = c.machine
    · obtain ⟨rfl, rfl, rfl⟩ := halone k q d (List.mem_of_mem_head? hhead) hm
      exact ⟨fun _ => hprefix.subset (by simp), fun hnot => absurd List.mem_cons_self hnot⟩
    · have hstays : c ∈ (look (f.afterGrant k q d).rooms r).newQueue := by
        have hqueue : (look (f.afterGrant k q d).rooms r).newQueue = (look (f.afterGrant k q d).rooms r).queue .new := rfl
        rw [hqueue, afterGrant_queue]
        split
        · rename_i hsame
          obtain ⟨rfl, rfl⟩ := hsame
          have hne : c ≠ d := fun heq => hm (by rw [heq])
          cases hq : (look f.rooms r).newQueue with
          | nil => rw [hq] at hc; exact absurd hc nofun
          | cons e es =>
            have he : e = d := by simpa [RoomFeeder.queue, hq] using hhead
            rw [hq, he] at hc
            simpa [RoomFeeder.queue, hq, hne] using hc
        · exact hc
      obtain ⟨hin, hout⟩ := ih halone.afterGrant hstays
      have hne : c.machine ≠ d.machine := fun heq => hm heq.symm
      simpa [hne] using And.intro hin hout

theorem joined_waitsAlone (h : c.machine ∉ f.places) : (f.joined r c).WaitsAlone r c := by
  intro k p d hd hm
  have habsent : ∀ j, d ∉ (look f.rooms j).queue p := fun j hj => by
    refine h (hm ▸ ?_)
    rw [places, List.mem_flatMap]
    refine ⟨j, List.mem_finRange j, List.mem_map_of_mem ?_⟩
    cases p
    · exact List.mem_append_left _ (List.mem_append_right _ hj)
    · exact List.mem_append_right _ hj
  by_cases hk : k = r
  · subst hk
    rw [joined_room_self] at hd
    cases p with
    | new =>
      rcases List.mem_append.mp hd with hd | hd
      · exact absurd hd (habsent k)
      · exact ⟨rfl, rfl, List.mem_singleton.mp hd⟩
    | resume => exact absurd hd (habsent k)
  · rw [joined_room_other hk] at hd
    exact absurd hd (habsent k)

/-- Where no head fitted before, the pass grants the claim that joined exactly where its queue was empty and its load fits (R142). -/
theorem joined_pass_mem (hf : f.Drained) : c.machine ∈ (f.joined r c).pass.2 ↔
    (look f.rooms r).newQueue = [] ∧ f.granted r + c.load ≤ (look f.rooms r).capacity ∧ f.total + c.load ≤ f.effectiveLimit := by
  constructor
  · intro hm
    by_contra hnot
    have hdrained : (f.joined r c).Drained := fun k p d hfits => by
      rcases joined_headFits.mp hfits with h | ⟨-, -, -, h⟩
      · exact hf k p d h
      · exact hnot h
    rw [pass_of_drained hdrained] at hm
    exact absurd hm nofun
  · intro hfits
    have honly : ∀ {k p d}, (f.joined r c).HeadFits k p d → k = r ∧ p = .new ∧ d = c := fun h => by
      rcases joined_headFits.mp h with h | ⟨hk, hp, hd, -⟩
      · exact absurd h (hf _ _ _)
      · exact ⟨hk, hp, hd⟩
    have hhead : (f.joined r c).HeadFits r .new c := joined_headFits.mpr (.inr ⟨rfl, rfl, rfl, hfits⟩)
    obtain ⟨p, d, hgrants⟩ := exists_visitGrants hhead
    obtain ⟨-, hp, hd⟩ := honly hgrants.1
    subst hp hd
    rw [pass_of_grant (fun k p e hlt h => by
      obtain ⟨rfl, -, -⟩ := honly h
      omega) hgrants]
    exact List.mem_cons_self

/-! ## The bounds, the order and the heads -/

/-- The loads are within the bounds, the building order and the places are consistent, and no queue head fits (R138, R142, R146). -/
def Sound (f : Feeder) : Prop := f.Bounded ∧ f.Consistent ∧ f.Drained

/-- One more machine in a room's lists. -/
theorem places_insert (hself : (roomPlaces (look g.rooms r)).Perm (m :: roomPlaces (look f.rooms r)))
    (hother : ∀ k, k ≠ r → look g.rooms k = look f.rooms k) : g.places.Perm (m :: f.places) := by
  rw [List.perm_iff_count]
  intro a
  have hsum := sum_indexes_add (f := fun k => (roomPlaces (look f.rooms k)).count a) (g := fun k => (roomPlaces (look g.rooms k)).count a)
    r (d := [m].count a) (by
      rw [hself.count_eq, List.count_cons, List.count_singleton]) fun k hk => by rw [hother k hk]
  rw [List.count_cons, places, places, List.count_flatMap, List.count_flatMap]
  rw [List.count_singleton] at hsum
  exact hsum

theorem joined_places : (f.joined r c).places.Perm (c.machine :: f.places) := by
  refine places_insert (r := r) ?_ fun k hk => joined_room_other hk
  rw [joined_room_self]
  rw [roomPlaces, ← List.append_assoc, List.append_assoc, List.singleton_append, List.map_append, List.map_cons]
  exact List.perm_middle.trans (by rw [← List.map_append]; exact List.Perm.refl _)

theorem freed_places : (f.freed r m).places.Perm (m :: f.places) := by
  refine places_insert (r := r) ?_ fun k hk => freed_room_other hk
  rw [freed_room_self]
  simp only [roomPlaces, List.map_append, List.map_cons, List.map_nil, List.append_assoc]
  exact List.perm_middle

theorem joined_bounded (h : f.Bounded) : (f.joined r c).Bounded := by
  refine ⟨fun k => ?_, ?_⟩
  · rw [joined_granted, joined_capacity]; exact h.1 k
  · rw [joined_total]; exact h.2

theorem joined_consistent (h : f.Consistent) (hm : c.machine ∉ f.places) : (f.joined r c).Consistent := by
  obtain ⟨horder, hnodup⟩ := consistent_iff.mp h
  refine consistent_iff.mpr ⟨fun k d hd => ?_, joined_places.nodup_iff.mpr (List.nodup_cons.mpr ⟨hm, hnodup⟩)⟩
  rw [joined_grants] at hd
  exact horder k d hd

theorem freed_sound (h : f.Sound) (hm : m ∉ f.places) : (f.freed r m).Sound := by
  obtain ⟨hbounded, hconsistent, hdrained⟩ := h
  obtain ⟨horder, hnodup⟩ := consistent_iff.mp hconsistent
  refine ⟨⟨fun k => ?_, ?_⟩, consistent_iff.mpr ⟨fun k d hd => List.mem_append.mpr ?_,
    freed_places.nodup_iff.mpr (List.nodup_cons.mpr ⟨hm, hnodup⟩)⟩, fun k q d hfits => hdrained k q d (freed_headFits.mp hfits)⟩
  · rw [freed_granted, freed_capacity]; exact hbounded.1 k
  · rw [freed_total]; exact hbounded.2
  · by_cases hk : k = r
    · subst hk
      rw [freed_room_self] at hd
      rcases List.mem_append.mp hd with hd | hd
      · exact .inl (horder k d hd)
      · exact .inr (List.mem_singleton.mpr (by rw [List.mem_singleton.mp hd]))
    · rw [freed_room_other hk] at hd
      exact .inl (horder k d hd)

theorem pass_sound (hb : f.Bounded) (hc : f.Consistent) : f.pass.1.Sound := ⟨pass_bounded hb, pass_consistent f hc, pass_drained f⟩

theorem joined_pass_sound (h : f.Sound) (hm : c.machine ∉ f.places) : (f.joined r c).pass.1.Sound :=
  pass_sound (joined_bounded h.1) (joined_consistent h.2.1 hm)

theorem loadOf_filter_le (p : Claim → Bool) (cs : List Claim) : loadOf (cs.filter p) ≤ loadOf cs :=
  (List.filter_sublist.map Claim.load).sum_le_sum fun _ _ => Nat.zero_le _

theorem without_granted_le : (f.without m).granted k ≤ f.granted k := by
  simp only [granted, without, look, Vector.getElem_map]
  exact loadOf_filter_le _ _

theorem without_bounded (h : f.Bounded) : (f.without m).Bounded := by
  refine ⟨fun k => ?_, ?_⟩
  · have hcapacity : (look (f.without m).rooms k).capacity = (look f.rooms k).capacity := by simp [without, look]
    rw [hcapacity]
    exact without_granted_le.trans (h.1 k)
  · have htotal : (f.without m).total ≤ f.total := List.sum_le_sum fun k _ => without_granted_le
    exact htotal.trans h.2

theorem without_consistent (h : f.Consistent) : (f.without m).Consistent := by
  obtain ⟨horder, hnodup⟩ := consistent_iff.mp h
  refine consistent_iff.mpr ⟨fun k d hd => ?_, by rw [without_places]; exact hnodup.filter _⟩
  simp only [without, look, Vector.getElem_map, List.mem_filter] at hd
  exact List.mem_filter.mpr ⟨horder k d hd.1, hd.2⟩

theorem released_sound (h : f.Sound) : (f.released m).1.Sound := by
  unfold released
  split
  · exact pass_sound (without_bounded h.1) (without_consistent h.2.1)
  · exact h

theorem Sound.of_rooms {f g : Feeder} (h : f.Sound) (hrooms : g.rooms = f.rooms) (horder : g.order = f.order)
    (hlimit : g.effectiveLimit = f.effectiveLimit) : g.Sound := by
  have hgranted : g.granted = f.granted := funext fun k => by rw [granted, granted, hrooms]
  have htotal : g.total = f.total := by rw [total, total, hgranted]
  unfold Sound Bounded Consistent Drained HeadFits at h ⊢
  rwa [hrooms, horder, hlimit, hgranted, htotal]

theorem judged_sound (h : f.Sound) : f.judged.1.Sound := by
  rw [f.judged_eq]
  exact h.of_rooms rfl rfl rfl

/-- With no claim anywhere the unit is sound whatever its capacities and limit. -/
theorem sound_of_empty (hrooms : ∀ r, let x := look f.rooms r
    x.grants = [] ∧ x.newQueue = [] ∧ x.resumeQueue = []) : f.Sound := by
  have hgranted (k : RoomNo) : f.granted k = 0 := by rw [granted, (hrooms k).1]; rfl
  refine ⟨⟨fun k => by rw [hgranted]; exact Nat.zero_le _, ?_⟩, consistent_iff.mpr ⟨fun k d hd => ?_, ?_⟩, fun k q d hfits => ?_⟩
  · have htotal : f.total = 0 := by rw [total, funext hgranted]; rfl
    rw [htotal]
    exact Nat.zero_le _
  · rw [(hrooms k).1] at hd
    exact absurd hd nofun
  · have hplaces : f.places = [] := List.flatMap_eq_nil_iff.mpr fun k _ => by
      obtain ⟨hg, hn, hr⟩ := hrooms k
      rw [roomPlaces, hg, hn, hr]
      rfl
    rw [hplaces]
    exact List.nodup_nil
  · obtain ⟨-, hn, hr⟩ := hrooms k
    have hhead := hfits.1
    cases q <;> simp [RoomFeeder.queue, hn, hr] at hhead

end Sys2Proof.Machine.Feeder
end

section
/-! SUPPORT. What the payment unit's flows, the directory, the accounts and the store port leave alone: every block that is not the
directory's, the cache's, the payment unit's, the supervisor's, the store's or the host link's. One lemma per operation. -/
namespace Sys2Proof.Machine

/-- The blocks that no payment request, directory request, account request or store transaction touches. -/
def State.apart (s : State) :
    Bool × StartUpState × Timebase × LineController × SessionEngine × Tariff × Feeder × LampMap × Scan × Fram × List Instr :=
  (s.powered, s.startUp, s.clock, s.line, s.engine, s.tariff, s.feeder, s.lamps, s.scan, s.fram, s.pending)

@[simp] theorem State.apart_mk (a b c d e f g h i j k l m n o p q r) :
    (State.mk a b c d e f g h i j k l m n o p q r).apart = (a, b, c, e, f, j, k, m, o, p, r) := rfl

@[simp] theorem State.apart_fold (s : State) :
    (s.powered, s.startUp, s.clock, s.line, s.engine, s.tariff, s.feeder, s.lamps, s.scan, s.fram, s.pending) = s.apart :=
  rfl

@[simp] theorem State.apart_ite {c : Prop} [Decidable c] (a b : State) :
    (if c then a else b).apart = if c then a.apart else b.apart := by
  split <;> rfl

theorem foldl_apart {α : Type} (f : State → α → State) (h : ∀ a t, (f t a).apart = t.apart) (xs : List α) (s : State) :
    (xs.foldl f s).apart = s.apart := by
  induction xs generalizing s with
  | nil => rfl
  | cons x xs ih => simp [ih, h]

@[simp] theorem State.markLockout_apart (s : State) (m : MachineNo) : (s.markLockout m).apart = s.apart := by
  simp [State.markLockout]

@[simp] theorem State.useFree_apart (s : State) : s.useFree.apart = s.apart := by
  simp [State.useFree]

@[simp] theorem State.modContext_apart (s : State) (c : ContextNo) (f : Context → Context) :
    (s.modContext c f).apart = s.apart := by
  simp [State.modContext]

@[simp] theorem State.stage_apart (s : State) (c : ContextNo) (g : Stage) : (s.stage c g).apart = s.apart := by
  simp [State.stage]

@[simp] theorem State.freeContext_apart (s : State) (c : ContextNo) : (s.freeContext c).apart = s.apart := by
  simp [State.freeContext]

@[simp] theorem State.enqueue_apart (s : State) (q : PayRequest) : (s.enqueue q).apart = s.apart := by
  simp [State.enqueue]

@[simp] theorem State.issue_apart (s : State) (i : Issuer) (a : Access) : (s.issue i a).apart = s.apart := by
  simp [State.issue]

@[simp] theorem State.notify_apart (s : State) (n : Notice) : (s.notify n).apart = s.apart := by
  simp [State.notify]

@[simp] theorem State.reply_apart (s : State) (status : Status) (results : List Byte) :
    (s.reply status results).apart = s.apart := by
  unfold State.reply
  (repeat' split) <;> simp

@[simp] theorem State.refuse_apart (s : State) (status : Status) : (s.refuse status).apart = s.apart := by
  simp [State.refuse]

@[simp] theorem State.writeRecord_apart (s : State) (source : Source) (code : FaultCode) (severity : Severity) (ref : Reference) :
    (s.writeRecord source code severity ref).apart = s.apart := by
  simp [State.writeRecord]

@[simp] theorem State.faultNotice_apart (s : State) : s.faultNotice.apart = s.apart := by
  unfold State.faultNotice
  (repeat' split) <;> simp

@[simp] theorem State.reportPart_apart (s : State) (code : FaultCode) (ref : Reference) :
    (s.reportPart code ref).apart = s.apart := by
  simp [State.reportPart]

@[simp] theorem State.markStale_apart (s : State) (p : DirPath) : (s.markStale p).apart = s.apart := by
  unfold State.markStale
  exact foldl_apart _ (fun c t => by (repeat' split) <;> simp) _ s

@[simp] theorem State.addDamaged_apart (s : State) (a : AccountNo) : (s.addDamaged a).apart = s.apart := by
  simp [State.addDamaged]

@[simp] theorem State.reportDamaged_apart (s : State) (a : AccountNo) :
    (s.reportDamaged a).apart = s.apart := by
  simp [State.reportDamaged]

@[simp] theorem State.foundDamaged_apart (s : State) (a : AccountNo) : (s.foundDamaged a).apart = s.apart := by
  simp [State.foundDamaged]

@[simp] theorem State.withLocks_apart (s : State) (l : List LockEntry) : (s.withLocks l).apart = s.apart := by
  simp [State.withLocks]

@[simp] theorem State.askLock_apart (s : State) (c : ContextNo) (a : AccountNo) :
    (s.askLock c a).1.apart = s.apart := by
  unfold State.askLock
  (repeat' split) <;> simp

@[simp] theorem State.releaseLock_apart (s : State) (a : AccountNo) : (s.releaseLock a).1.apart = s.apart := by
  unfold State.releaseLock
  (repeat' split) <;> simp

@[simp] theorem State.releaseLocks_apart (s : State) (as : List AccountNo) : (s.releaseLocks as).1.apart = s.apart := by
  unfold State.releaseLocks
  generalize ([] : List ContextNo) = cs
  induction as generalizing s cs with
  | nil => rfl
  | cons a as ih => simp [ih]

@[simp] theorem State.issueFor_apart (s : State) (c : ContextNo) (a : Access) :
    (s.issueFor c a).apart = s.apart := by
  simp [State.issueFor]

@[simp] theorem State.goTo_apart (s : State) (c : ContextNo) (g : Stage) (a : Access) :
    (s.goTo c g a).apart = s.apart := by
  simp [State.goTo]

@[simp] theorem State.replyHost_apart (s : State) (c : ContextNo) (st : Status) (results : List Byte) :
    (s.replyHost c st results).apart = s.apart := by
  simp [State.replyHost]

@[simp] theorem State.refuseVend_apart (s : State) (c : ContextNo) (why : Reason) :
    (s.refuseVend c why).apart = s.apart := by
  simp [State.refuseVend]

@[simp] theorem State.holdSlotStep_apart (s : State) (c : ContextNo) (v : Vend) (p : Part) :
    (s.holdSlotStep c v p).apart = s.apart := by
  simp [State.holdSlotStep]

@[simp] theorem State.priceOnly_apart (s : State) (c : ContextNo) (v : Vend) (payer : Option AccountNo) (source : PayerSource) (attrs : Attributes) (free : Bool) :
    (s.priceOnly c v payer source attrs free).apart = s.apart := by
  unfold State.priceOnly
  (repeat' split) <;> simp

@[simp] theorem State.accountSteps_apart (s : State) (c : ContextNo) (v : Vend) (y : Payer) :
    (s.accountSteps c v y).1.apart = s.apart := by
  unfold State.accountSteps
  (repeat' split) <;> simp

@[simp] theorem State.startWalk_apart (s : State) (c : ContextNo) (p : CardPath) (cls : MachineClass) (restarted : Bool) :
    (s.startWalk c p cls restarted).apart = s.apart := by
  simp [State.startWalk]

@[simp] theorem State.askCache_apart (s : State) (c : ContextNo) (p : CardPath) (cls : MachineClass) :
    (s.askCache c p cls).apart = s.apart := by
  simp [State.askCache]

@[simp] theorem State.resolveVend_apart (s : State) (c : ContextNo) (v : Vend) :
    (s.resolveVend c v).1.apart = s.apart := by
  unfold State.resolveVend
  (repeat' split) <;> simp

@[simp] theorem State.beginVend_apart (s : State) (c : ContextNo) (v : Vend) :
    (s.beginVend c v).1.apart = s.apart := by
  unfold State.beginVend
  (repeat' split) <;> simp

@[simp] theorem State.vendResolved_apart (s : State) (c : ContextNo) (v : Vend) (hold : Bool) (a : AccountNo) (attrs : Attributes) :
    (s.vendResolved c v hold a attrs).1.apart = s.apart := by
  unfold State.vendResolved
  (repeat' split) <;> simp

@[simp] theorem State.probeReply_apart (s : State) (c : ContextNo) (r : ProbeResult) :
    (s.probeReply c r).apart = s.apart := by
  simp [State.probeReply]

@[simp] theorem State.beginProbe_apart (s : State) (c : ContextNo) (card : CardId) (cls : MachineClass) :
    (s.beginProbe c card cls).apart = s.apart := by
  unfold State.beginProbe
  (repeat' split) <;> simp

@[simp] theorem State.lookupDone_apart (s : State) (c : ContextNo) (hit : Option CacheEntry) :
    (s.lookupDone c hit).1.apart = s.apart := by
  unfold State.lookupDone
  (repeat' split) <;> simp

@[simp] theorem State.updateDay_apart (s : State) (r : Resolution) : (s.updateDay r).apart = s.apart := by
  simp [State.updateDay]

@[simp] theorem State.walkResolved_apart (s : State) (c : ContextNo) (v : Vend) (r : Resolution) :
    (s.walkResolved c v r).1.apart = s.apart := by
  unfold State.walkResolved
  (repeat' split) <;> simp

@[simp] theorem State.walkEnd_apart (s : State) (c : ContextNo) (e : WalkStep) :
    (s.walkEnd c e).1.apart = s.apart := by
  unfold State.walkEnd
  (repeat' split) <;> simp

@[simp] theorem State.walkDone_apart (s : State) (c : ContextNo) (w : Walk) (r : Result) :
    (s.walkDone c w r).1.apart = s.apart := by
  unfold State.walkDone
  (repeat' split) <;> simp

@[simp] theorem State.walkFailed_apart (s : State) (c : ContextNo) : (s.walkFailed c).apart = s.apart := by
  unfold State.walkFailed
  (repeat' split) <;> simp

@[simp] theorem State.refuseLocked_apart (s : State) (c : ContextNo) (a : AccountNo) (why : Reason) :
    (s.refuseLocked c a why).1.apart = s.apart := by
  simp [State.refuseLocked]

@[simp] theorem State.holdLocked_apart (s : State) (c : ContextNo) (y : Payer) :
    (s.holdLocked c y).1.apart = s.apart := by
  unfold State.holdLocked
  (repeat' split) <;> simp

@[simp] theorem State.priceStep_apart (s : State) (c : ContextNo) (v : Vend) (y : Payer) (x : Account) :
    (s.priceStep c v y x).1.apart = s.apart := by
  unfold State.priceStep
  (repeat' split) <;> simp

@[simp] theorem State.holdReadDone_apart (s : State) (c : ContextNo) (v : Vend) (y : Payer) (r : Result) :
    (s.holdReadDone c v y r).1.apart = s.apart := by
  unfold State.holdReadDone
  (repeat' split) <;> simp

@[simp] theorem State.holdWriteDone_apart (s : State) (c : ContextNo) (v : Vend) (y : Payer) (p : Part) :
    (s.holdWriteDone c v y p).1.apart = s.apart := by
  simp [State.holdWriteDone]

@[simp] theorem State.withDeferred_apart (s : State) (l : List Deferred) :
    (s.withDeferred l).apart = s.apart := by
  simp [State.withDeferred]

@[simp] theorem State.offerOne_apart (s : State) : s.offerOne.apart = s.apart := by
  unfold State.offerOne
  (repeat' split) <;> simp

theorem State.offers_apart (n : Nat) (s : State) : (State.offers n s).apart = s.apart := by
  induction n generalizing s with
  | zero => rfl
  | succ n ih => simp [State.offers, ih]

@[simp] theorem State.offerDeferred_apart (s : State) : s.offerDeferred.apart = s.apart := by
  unfold State.offerDeferred
  split <;> simp [State.offers_apart]

@[simp] theorem State.placeEntry_apart (s : State) (c : ContextNo) (h : Handed) (d : Deferred) :
    (s.placeEntry c h d).apart = s.apart := by
  simp [State.placeEntry]

@[simp] theorem State.placeKept_apart (s : State) : s.placeKept.apart = s.apart := by
  unfold State.placeKept
  dsimp only
  (repeat' split) <;> simp

@[simp] theorem State.entryDone_apart (s : State) (key : Nat) : (s.entryDone key).apart = s.apart := by
  simp [State.entryDone]

@[simp] theorem State.modEntry_apart (s : State) (key : Nat) (f : Deferred → Deferred) :
    (s.modEntry key f).apart = s.apart := by
  simp [State.modEntry]

@[simp] theorem State.settleEnd_apart (s : State) (c : ContextNo) (j : SettleJob) :
    (s.settleEnd c j).apart = s.apart := by
  simp [State.settleEnd]

@[simp] theorem State.settleNext_apart (s : State) (c : ContextNo) (j : SettleJob) :
    (s.settleNext c j).1.apart = s.apart := by
  unfold State.settleNext
  dsimp only
  (repeat' split) <;> simp

@[simp] theorem State.settlePast_apart (s : State) (c : ContextNo) (j : SettleJob) (a : AccountNo) (charge : Nat) :
    (s.settlePast c j a charge).1.apart = s.apart := by
  simp [State.settlePast]

@[simp] theorem State.settleUnreadable_apart (s : State) (c : ContextNo) (j : SettleJob) (a : AccountNo) :
    (s.settleUnreadable c j a).1.apart = s.apart := by
  unfold State.settleUnreadable
  (repeat' split) <;> simp

@[simp] theorem State.settleLocked_apart (s : State) (c : ContextNo) (j : SettleJob) :
    (s.settleLocked c j).1.apart = s.apart := by
  unfold State.settleLocked
  (repeat' split) <;> simp

@[simp] theorem State.settleReadDone_apart (s : State) (c : ContextNo) (j : SettleJob) (r : Result) :
    (s.settleReadDone c j r).1.apart = s.apart := by
  unfold State.settleReadDone
  (repeat' split) <;> simp

@[simp] theorem State.settleWriteDone_apart (s : State) (c : ContextNo) (j : SettleJob) (charge : Nat) :
    (s.settleWriteDone c j charge).1.apart = s.apart := by
  unfold State.settleWriteDone
  (repeat' split) <;> simp

@[simp] theorem State.settleFromCopy_apart (s : State) (c : ContextNo) (j : SettleJob) :
    (s.settleFromCopy c j).1.apart = s.apart := by
  unfold State.settleFromCopy
  (repeat' split) <;> simp

@[simp] theorem State.settleSlotDone_apart (s : State) (c : ContextNo) (m : MachineNo) (id : Nat) (cause : EndCause) (e p : Nat) (rules : CaptureRules) (r : Result) :
    (s.settleSlotDone c m id cause e p rules r).1.apart = s.apart := by
  unfold State.settleSlotDone
  (repeat' split) <;> simp

@[simp] theorem State.deferSettle_apart (s : State) (c : ContextNo) (j : SettleJob) (slotLost : Bool) :
    (s.deferSettle c j slotLost).apart = s.apart := by
  simp [State.deferSettle]

@[simp] theorem State.beginSettle_apart (s : State) (c : ContextNo) (m : MachineNo) (id : Nat) (cause : EndCause) (e p : Nat) :
    (s.beginSettle c m id cause e p).1.apart = s.apart := by
  unfold State.beginSettle
  (repeat' split) <;> simp

@[simp] theorem State.releaseSlotStep_apart (s : State) (c : ContextNo) (m : MachineNo) :
    (s.releaseSlotStep c m).apart = s.apart := by
  unfold State.releaseSlotStep
  (repeat' split) <;> simp

@[simp] theorem State.beginRelease_apart (s : State) (c : ContextNo) (m : MachineNo) (p : Part) :
    (s.beginRelease c m p).apart = s.apart := by
  unfold State.beginRelease
  split <;> simp

@[simp] theorem State.releaseMarked_apart (s : State) (c : ContextNo) (m : MachineNo) (p : Part) :
    (s.releaseMarked c m p).1.apart = s.apart := by
  unfold State.releaseMarked
  (repeat' split) <;> simp

@[simp] theorem State.releasePast_apart (s : State) (c : ContextNo) (m : MachineNo) (a : AccountNo) :
    (s.releasePast c m a).1.apart = s.apart := by
  simp [State.releasePast]

@[simp] theorem State.releaseLocked_apart (s : State) (c : ContextNo) (m : MachineNo) (a : AccountNo) :
    (s.releaseLocked c m a).1.apart = s.apart := by
  unfold State.releaseLocked
  (repeat' split) <;> simp

@[simp] theorem State.releaseReadDone_apart (s : State) (c : ContextNo) (m : MachineNo) (p : Part) (a : AccountNo) (r : Result) :
    (s.releaseReadDone c m p a r).1.apart = s.apart := by
  unfold State.releaseReadDone
  (repeat' split) <;> simp

@[simp] theorem State.deferRelease_apart (s : State) (c : ContextNo) (m : MachineNo) (id number : Nat) (p : Part) (w written : Bool) :
    (s.deferRelease c m id number p w written).apart = s.apart := by
  simp [State.deferRelease]

@[simp] theorem State.deferredNext_apart (s : State) (c : ContextNo) (d : Deferred) :
    (s.deferredNext c d).1.apart = s.apart := by
  unfold State.deferredNext
  (repeat' split) <;> simp

@[simp] theorem State.beginDeferred_apart (s : State) (c : ContextNo) (key : Nat) :
    (s.beginDeferred c key).1.apart = s.apart := by
  unfold State.beginDeferred
  dsimp only
  (repeat' split) <;> simp

@[simp] theorem State.deferredPast_apart (s : State) (c : ContextNo) (d : Deferred) (p : DeferredPart) (a : AccountNo) :
    (s.deferredPast c d p a).1.apart = s.apart := by
  simp [State.deferredPast]

@[simp] theorem State.deferredLocked_apart (s : State) (c : ContextNo) (d : Deferred) :
    (s.deferredLocked c d).1.apart = s.apart := by
  unfold State.deferredLocked
  (repeat' split) <;> simp

@[simp] theorem State.deferredReadDone_apart (s : State) (c : ContextNo) (d : Deferred) (r : Result) :
    (s.deferredReadDone c d r).1.apart = s.apart := by
  unfold State.deferredReadDone
  (repeat' split) <;> simp

@[simp] theorem State.deferredWriteDone_apart (s : State) (c : ContextNo) (d : Deferred) :
    (s.deferredWriteDone c d).1.apart = s.apart := by
  unfold State.deferredWriteDone
  (repeat' split) <;> simp

@[simp] theorem State.deferredSlotDone_apart (s : State) (c : ContextNo) (d : Deferred) :
    (s.deferredSlotDone c d).apart = s.apart := by
  simp [State.deferredSlotDone]

@[simp] theorem State.deferredFailed_apart (s : State) (c : ContextNo) (d : Deferred) :
    (s.deferredFailed c d).apart = s.apart := by
  simp [State.deferredFailed]

@[simp] theorem State.dirReply_apart (s : State) (c : ContextNo) (locks : List AccountNo) (st : Status) (results : List Byte) :
    (s.dirReply c locks st results).1.apart = s.apart := by
  simp [State.dirReply]

@[simp] theorem State.dirPlanStep_apart (s : State) (c : ContextNo) (j : DirJob) :
    (s.dirPlanStep c j).1.apart = s.apart := by
  unfold State.dirPlanStep
  (repeat' split) <;> simp

@[simp] theorem State.dirAccountStep_apart (s : State) (c : ContextNo) (j : DirJob) :
    (s.dirAccountStep c j).1.apart = s.apart := by
  unfold State.dirAccountStep
  (repeat' split) <;> simp

@[simp] theorem State.dirLockStep_apart (s : State) (c : ContextNo) (j : DirJob) (wanted : List AccountNo) :
    (s.dirLockStep c j wanted).1.apart = s.apart := by
  unfold State.dirLockStep
  (repeat' split) <;> simp

@[simp] theorem State.dirGo_apart (s : State) (c : ContextNo) (j : DirJob) (n : DirNext) :
    (s.dirGo c j n).1.apart = s.apart := by
  unfold State.dirGo
  (repeat' split) <;> simp

@[simp] theorem State.beginDirectory_apart (s : State) (c : ContextNo) (p : DirPath) (w : Option NewDescriptor) :
    (s.beginDirectory c p w).apart = s.apart := by
  simp [State.beginDirectory]

@[simp] theorem State.dirReadDone_apart (s : State) (c : ContextNo) (j : DirJob) (r : Result) :
    (s.dirReadDone c j r).1.apart = s.apart := by
  unfold State.dirReadDone
  (repeat' split) <;> simp

@[simp] theorem State.dirLocked_apart (s : State) (c : ContextNo) (j : DirJob) (wanted : List AccountNo) :
    (s.dirLocked c j wanted).1.apart = s.apart := by
  unfold State.dirLocked
  (repeat' split) <;> simp

@[simp] theorem State.dirAccountDone_apart (s : State) (c : ContextNo) (j : DirJob) (r : Result) :
    (s.dirAccountDone c j r).1.apart = s.apart := by
  unfold State.dirAccountDone
  (repeat' split) <;> simp

@[simp] theorem State.requestSweep_apart (s : State) (w : Sweep) : (s.requestSweep w).apart = s.apart := by
  simp [State.requestSweep]

@[simp] theorem State.dirEffect_apart (s : State) (x : DirWrites) (e : DirEffect) :
    (s.dirEffect x e).1.1.apart = s.apart := by
  unfold State.dirEffect
  (repeat' split) <;> simp

@[simp] theorem State.restorePages_apart (s : State) (x : DirWrites) : (s.restorePages x).apart = s.apart := by
  unfold State.restorePages
  split <;> rfl

@[simp] theorem State.dirWriteDone_apart (s : State) (c : ContextNo) (x : DirWrites) (r : Result) :
    (s.dirWriteDone c x r).1.apart = s.apart := by
  unfold State.dirWriteDone
  (repeat' split) <;> simp

@[simp] theorem State.accountReply_apart (s : State) (c : ContextNo) (a : AccountNo) (st : Status) (results : List Byte) :
    (s.accountReply c a st results).1.apart = s.apart := by
  simp [State.accountReply]

@[simp] theorem State.damagedReply_apart (s : State) (c : ContextNo) (a : AccountNo) :
    (s.damagedReply c a).1.apart = s.apart := by
  simp [State.damagedReply]

@[simp] theorem State.accountUnreadable_apart (s : State) (c : ContextNo) (a : AccountNo) (op : AccountOp) :
    (s.accountUnreadable c a op).1.apart = s.apart := by
  unfold State.accountUnreadable
  (repeat' split) <;> simp

@[simp] theorem State.accountVerdict_apart (s : State) (c : ContextNo) (a : AccountNo) (x : Account) (v : AccountVerdict) :
    (s.accountVerdict c a x v).1.apart = s.apart := by
  unfold State.accountVerdict
  (repeat' split) <;> simp

@[simp] theorem State.accountLocked_apart (s : State) (c : ContextNo) (a : AccountNo) (op : AccountOp) :
    (s.accountLocked c a op).1.apart = s.apart := by
  unfold State.accountLocked
  (repeat' split) <;> simp

@[simp] theorem State.accountReadDone_apart (s : State) (c : ContextNo) (a : AccountNo) (op : AccountOp) (r : Result) :
    (s.accountReadDone c a op r).1.apart = s.apart := by
  unfold State.accountReadDone
  (repeat' split) <;> simp

@[simp] theorem State.accountWriteDone_apart (s : State) (c : ContextNo) (a : AccountNo) (op : AccountOp) (y : Account) (before : Int) :
    (s.accountWriteDone c a op y before).1.apart = s.apart := by
  unfold State.accountWriteDone
  (repeat' split) <;> simp

@[simp] theorem State.gotLock_apart (s : State) (c : ContextNo) : (s.gotLock c).1.apart = s.apart := by
  unfold State.gotLock
  dsimp only
  (repeat' split) <;> simp

@[simp] theorem State.begin_apart (s : State) (c : ContextNo) (z : PayRequest) :
    (s.begin c z).1.apart = s.apart := by
  unfold State.begin
  (repeat' split) <;> simp

theorem State.goOn_apart (n : Nat) (cs : List ContextNo) (s : State) : (State.goOn n cs s).apart = s.apart := by
  induction n generalizing s cs with
  | zero => rfl
  | succ n ih =>
    cases cs with
    | nil => rfl
    | cons c cs => simp [State.goOn, ih]

@[simp] theorem Flow.run_apart (f : Flow) : f.run.apart = f.1.apart := State.goOn_apart _ _ _

@[simp] theorem State.takeRequest_apart (s : State) : s.takeRequest.apart = s.apart := by
  unfold State.takeRequest
  (repeat' split) <;> simp

@[simp] theorem State.contextDone_apart (s : State) (c : ContextNo) (r : Result) :
    (s.contextDone c r).1.apart = s.apart := by
  unfold State.contextDone
  dsimp only
  (repeat' split) <;> simp

@[simp] theorem State.holdSlotFailed_apart (s : State) (c : ContextNo) (v : Vend) (p : Part) :
    (s.holdSlotFailed c v p).apart = s.apart := by
  simp [State.holdSlotFailed]

@[simp] theorem State.andRelease_apart (s : State) (a : Option AccountNo) :
    (s.andRelease a).1.apart = s.apart := by
  unfold State.andRelease
  (repeat' split) <;> simp

@[simp] theorem State.contextFailed_apart (s : State) (c : ContextNo) :
    (s.contextFailed c).1.apart = s.apart := by
  unfold State.contextFailed
  dsimp only
  (repeat' split) <;> simp

@[simp] theorem State.withQueue_apart (s : State) (q : List Transaction) : (s.withQueue q).apart = s.apart := by
  simp [State.withQueue]

@[simp] theorem State.remark_apart (s : State) (m : MachineNo) (lockout : Bool) :
    (s.remark m lockout).apart = s.apart := by
  simp [State.remark]

@[simp] theorem State.failIssuer_apart (s : State) (i : Issuer) : (s.failIssuer i).apart = s.apart := by
  unfold State.failIssuer
  split <;> simp

theorem State.drain_apart (n : Nat) (s : State) : (State.drain n s).apart = s.apart := by
  induction n generalizing s with
  | zero => simp [State.drain]
  | succ n ih =>
    unfold State.drain
    split <;> simp [ih]

@[simp] theorem State.failIssued_apart (s : State) : s.failIssued.apart = s.apart := by
  unfold State.failIssued
  split <;> simp [State.drain_apart]

@[simp] theorem State.storeDown_apart (s : State) : s.storeDown.apart = s.apart := by
  simp [State.storeDown]

@[simp] theorem State.storeReturns_apart (s : State) : s.storeReturns.apart = s.apart := by
  simp [State.storeReturns]

@[simp] theorem State.issueDay_apart (s : State) : s.issueDay.apart = s.apart := by
  unfold State.issueDay
  (repeat' split) <;> simp

@[simp] theorem State.passRefresher_apart (s : State) (m : MachineNo) :
    (s.passRefresher m).apart = s.apart := by
  simp [State.passRefresher]

@[simp] theorem State.issueLockout_apart (s : State) (m : MachineNo) : (s.issueLockout m).apart = s.apart := by
  simp [State.issueLockout]

@[simp] theorem State.issueRefresh_apart (s : State) (m : MachineNo) : (s.issueRefresh m).apart = s.apart := by
  simp [State.issueRefresh]

@[simp] theorem State.refresh_apart (s : State) : s.refresh.apart = s.apart := by
  unfold State.refresh
  (repeat' split) <;> simp

@[simp] theorem State.issueOwn_apart (s : State) : s.issueOwn.apart = s.apart := by
  simp [State.issueOwn]

@[simp] theorem State.saveSegment_apart (s : State) (b : ConfigBlock) (k : Fin 4) :
    (s.saveSegment b k).apart = s.apart := by
  simp [State.saveSegment]

@[simp] theorem State.segmentDone_apart (s : State) : s.segmentDone.apart = s.apart := by
  unfold State.segmentDone
  (repeat' split) <;> simp

end Sys2Proof.Machine
end

section
/-! SUPPORT. What keeps the feeder sound: the loads within the bounds, the building order and the places consistent, and no queue head that
fits (R138, R142, R146), while the start-up scan stands where it does. One lemma per operation of the session engine, the controller and
the host's requests. -/
namespace Sys2Proof.Machine

def feeding (scanAt : ScanAt) (f : Feeder) (x : Scan) : Prop := x.at_ = scanAt ∧ f.Sound

/-- The feeder is sound, and the start-up scan stands at `scanAt`. -/
def State.Feeds (scanAt : ScanAt) (s : State) : Prop := feeding scanAt s.feeder s.scan

variable {scanAt : ScanAt} {s t : State}

@[simp] theorem State.feeds_mk (a b c d e f g h i j k l m n o q r w) :
    (State.mk a b c d e f g h i j k l m n o q r w).Feeds scanAt ↔ feeding scanAt k o := Iff.rfl

@[simp] theorem State.feeds_fold (s : State) : feeding scanAt s.feeder s.scan ↔ s.Feeds scanAt := Iff.rfl

@[simp] theorem State.feeds_ite {c : Prop} [Decidable c] (a b : State) :
    (if c then a else b).Feeds scanAt ↔ if c then a.Feeds scanAt else b.Feeds scanAt := by
  split <;> rfl

theorem State.Feeds.of_apart (h : s.Feeds scanAt) (ht : t.apart = s.apart) : t.Feeds scanAt := by
  simp only [State.apart, Prod.mk.injEq] at ht
  obtain ⟨-, -, -, -, -, -, hfeeder, -, hscan, -⟩ := ht
  exact ⟨hscan ▸ h.1, hfeeder ▸ h.2⟩

theorem State.feeds_of_apart (ht : t.apart = s.apart) : t.Feeds scanAt ↔ s.Feeds scanAt := ⟨fun h => h.of_apart ht.symm, fun h => h.of_apart ht⟩

theorem forEach_feeds {α : Type} {f : α → State → State} (hf : ∀ a t, t.Feeds scanAt → (f a t).Feeds scanAt) (xs : List α) {s : State}
    (hs : s.Feeds scanAt) : (forEach xs f s).Feeds scanAt := by
  unfold forEach
  induction xs generalizing s with
  | nil => exact hs
  | cons x xs ih => exact ih (hf x s hs)

theorem Feeder.addGrant_eq_freed (f : Feeder) (r : RoomNo) (m : MachineNo) : f.addGrant r ⟨m, 0⟩ = f.freed r m := rfl

theorem Feeder.joined_eq_modRoom (f : Feeder) (r : RoomNo) (c : Claim) :
    f.joined r c = f.modRoom r fun x => { x with newQueue := x.newQueue ++ [c] } := rfl

@[simp] theorem State.modMachine_feeds (s : State) (m : MachineNo) (f : MachineRecord → MachineRecord) : (s.modMachine m f).Feeds scanAt ↔ s.Feeds scanAt := by
  simp [State.modMachine]

@[simp] theorem State.modSession_feeds (s : State) (m : MachineNo) (f : Session → Session) : (s.modSession m f).Feeds scanAt ↔ s.Feeds scanAt := by
  simp [State.modSession]

@[simp] theorem State.modLink_feeds (s : State) (m : MachineNo) (f : Link → Link) : (s.modLink m f).Feeds scanAt ↔ s.Feeds scanAt := by
  simp [State.modLink]

@[simp] theorem State.modGuard_feeds (s : State) (r : RoomNo) (f : RoomGuard → RoomGuard) : (s.modGuard r f).Feeds scanAt ↔ s.Feeds scanAt := by
  simp [State.modGuard]

@[simp] theorem State.modContext_feeds (s : State) (c : ContextNo) (f : Context → Context) : (s.modContext c f).Feeds scanAt ↔ s.Feeds scanAt :=
  State.feeds_of_apart (by simp)

@[simp] theorem State.stage_feeds (s : State) (c : ContextNo) (g : Stage) : (s.stage c g).Feeds scanAt ↔ s.Feeds scanAt :=
  State.feeds_of_apart (by simp)

@[simp] theorem State.freeContext_feeds (s : State) (c : ContextNo) : (s.freeContext c).Feeds scanAt ↔ s.Feeds scanAt :=
  State.feeds_of_apart (by simp)

@[simp] theorem State.enqueue_feeds (s : State) (q : PayRequest) : (s.enqueue q).Feeds scanAt ↔ s.Feeds scanAt :=
  State.feeds_of_apart (by simp)

@[simp] theorem State.issue_feeds (s : State) (i : Issuer) (a : Access) : (s.issue i a).Feeds scanAt ↔ s.Feeds scanAt :=
  State.feeds_of_apart (by simp)

@[simp] theorem State.useFree_feeds (s : State) : s.useFree.Feeds scanAt ↔ s.Feeds scanAt :=
  State.feeds_of_apart (by simp)

@[simp] theorem State.notify_feeds (s : State) (n : Notice) : (s.notify n).Feeds scanAt ↔ s.Feeds scanAt :=
  State.feeds_of_apart (by simp)

@[simp] theorem State.reply_feeds (s : State) (status : Status) (results : List Byte) : (s.reply status results).Feeds scanAt ↔ s.Feeds scanAt :=
  State.feeds_of_apart (by simp)

@[simp] theorem State.refuse_feeds (s : State) (status : Status) : (s.refuse status).Feeds scanAt ↔ s.Feeds scanAt :=
  State.feeds_of_apart (by simp)

@[simp] theorem State.transmit_feeds (s : State) : s.transmit.Feeds scanAt ↔ s.Feeds scanAt := by
  simp [State.transmit]

@[simp] theorem State.send_feeds (s : State) (m : MachineNo) (c : NodeCommand) : (s.send m c).Feeds scanAt ↔ s.Feeds scanAt := by
  simp [State.send]

@[simp] theorem State.sendLamp_feeds (s : State) (m : MachineNo) (l : Lamp) : (s.sendLamp m l).Feeds scanAt ↔ s.Feeds scanAt := by
  simp [State.sendLamp]

@[simp] theorem State.relamp_feeds (s : State) (m : MachineNo) : (s.relamp m).Feeds scanAt ↔ s.Feeds scanAt := by
  unfold State.relamp
  (repeat' split) <;> simp

@[simp] theorem State.resyncLamp_feeds (s : State) (m : MachineNo) : (s.resyncLamp m).Feeds scanAt ↔ s.Feeds scanAt := by
  unfold State.resyncLamp
  (repeat' split) <;> simp

theorem forEach_relamp_feeds (ms : List MachineNo) (s : State) : (forEach ms (fun m t => t.relamp m) s).Feeds scanAt ↔ s.Feeds scanAt := by
  unfold forEach
  induction ms generalizing s with
  | nil => exact Iff.rfl
  | cons m ms ih => rw [List.foldl_cons, ih, State.relamp_feeds]

@[simp] theorem State.relampAll_feeds (s : State) : s.relampAll.Feeds scanAt ↔ s.Feeds scanAt := forEach_relamp_feeds _ s

@[simp] theorem State.endRecovering_feeds (s : State) : s.endRecovering.Feeds scanAt ↔ s.Feeds scanAt := by
  simp [State.endRecovering]

@[simp] theorem State.enter_feeds (s : State) (m : MachineNo) (st : MachineState) : (s.enter m st).Feeds scanAt ↔ s.Feeds scanAt := by
  simp [State.enter]

@[simp] theorem State.setHeat_feeds (s : State) (m : MachineNo) (h : HeatState) : (s.setHeat m h).Feeds scanAt ↔ s.Feeds scanAt := by
  simp [State.setHeat]

@[simp] theorem State.enterOffline_feeds (s : State) (m : MachineNo) : (s.enterOffline m).Feeds scanAt ↔ s.Feeds scanAt := by
  simp [State.enterOffline]

@[simp] theorem State.markLockout_feeds (s : State) (m : MachineNo) : (s.markLockout m).Feeds scanAt ↔ s.Feeds scanAt :=
  State.feeds_of_apart (by simp)

@[simp] theorem State.enterLockedOut_feeds (s : State) (m : MachineNo) (code : FaultCode) : (s.enterLockedOut m code).Feeds scanAt ↔ s.Feeds scanAt := by
  simp [State.enterLockedOut]

@[simp] theorem State.startProbing_feeds (s : State) (m : MachineNo) : (s.startProbing m).Feeds scanAt ↔ s.Feeds scanAt := by
  simp [State.startProbing]

@[simp] theorem State.disableLink_feeds (hs : s.Feeds scanAt) (m : MachineNo) : (s.disableLink m).Feeds scanAt :=
  ⟨hs.1, hs.2.of_rooms rfl rfl rfl⟩

@[simp] theorem State.endExchange_feeds (s : State) (x : Exchange) : (s.endExchange x).Feeds scanAt ↔ s.Feeds scanAt := by
  simp [State.endExchange]

@[simp] theorem State.beginExchange_feeds (s : State) : s.beginExchange.Feeds scanAt ↔ s.Feeds scanAt := by
  simp [State.beginExchange]

@[simp] theorem State.takeGrant_feeds (s : State) (m : MachineNo) : (s.takeGrant m).Feeds scanAt ↔ s.Feeds scanAt := by
  unfold State.takeGrant
  (repeat' split) <;> simp

@[simp] theorem State.takeWithdrawal_feeds (s : State) (m : MachineNo) : (s.takeWithdrawal m).Feeds scanAt ↔ s.Feeds scanAt := by
  unfold State.takeWithdrawal
  (repeat' split) <;> simp

@[simp] theorem State.takeHold_feeds (s : State) (m : MachineNo) : (s.takeHold m).Feeds scanAt ↔ s.Feeds scanAt := by
  unfold State.takeHold
  (repeat' split) <;> simp

theorem State.runPass_feeds (h : s.scan.at_ = scanAt) (hb : s.feeder.Bounded) (hc : s.feeder.Consistent) : s.runPass.1.Feeds scanAt :=
  forEach_feeds (fun _ _ ht => by simp [ht]) _ ⟨h, Feeder.pass_sound hb hc⟩

theorem State.runShedding_scan (s : State) : s.runShedding.1.scan = s.scan := by
  rw [s.runShedding_same]

theorem State.runShedding_feeder (s : State) : s.runShedding.1.feeder = (s.shedding s.feeder).1 := by
  rw [s.runShedding_same]

@[simp] theorem State.judgeBacklog_feeds (hs : s.Feeds scanAt) : s.judgeBacklog.Feeds scanAt := by
  rw [s.judgeBacklog_eq]
  exact ⟨hs.1, Feeder.judged_sound hs.2⟩

@[simp] theorem State.dropClaim_feeds (hs : s.Feeds scanAt) (m : MachineNo) : (s.dropClaim m).Feeds scanAt := by
  rw [s.dropClaim_eq]
  exact forEach_feeds (fun _ _ ht => by simp [ht]) _ ⟨hs.1, Feeder.released_sound hs.2⟩

theorem State.dropClaim_absent (s : State) (m : MachineNo) : m ∉ (s.dropClaim m).feeder.places := by
  rw [(s.becomes_self m).dropClaim.same]
  exact (Feeder.released_absent s.feeder m).1

@[simp] theorem State.releaseHeat_feeds (hs : s.Feeds scanAt) (m : MachineNo) : (s.releaseHeat m).Feeds scanAt := by
  simp [State.releaseHeat, hs]

/-- A request from a machine without a claim. -/
theorem State.claimHeat_feeds (hs : s.Feeds scanAt) {m : MachineNo} (hm : m ∉ s.feeder.places) (load : Nat) : (s.claimHeat m load).Feeds scanAt := by
  obtain ⟨hscan, hsound⟩ := hs
  unfold State.claimHeat
  dsimp only
  split
  · have hfreed : State.Feeds scanAt { s with feeder := s.feeder.addGrant (s.machine m).room ⟨m, 0⟩ } := by
      refine ⟨hscan, ?_⟩
      rw [Feeder.addGrant_eq_freed]
      exact Feeder.freed_sound hsound hm
    simp [hfreed]
  · refine State.judgeBacklog_feeds ?_
    rw [← Feeder.joined_eq_modRoom]
    have hpass : (State.runPass { s with feeder := s.feeder.joined (s.machine m).room ⟨m, load⟩ }).1.Feeds scanAt :=
      State.runPass_feeds hscan (Feeder.joined_bounded hsound.1) (Feeder.joined_consistent hsound.2.1 hm)
    split <;> simp [hpass]

@[simp] theorem State.requestHeat_feeds (hs : s.Feeds scanAt) (m : MachineNo) : (s.requestHeat m).Feeds scanAt := by
  unfold State.requestHeat
  split
  · exact hs
  · exact State.claimHeat_feeds (State.dropClaim_feeds hs m) (s.dropClaim_absent m) _

/-- Shedding and a pass restore what a change of capacities or limits has broken. -/
theorem State.rebalance_feeds (h : s.scan.at_ = scanAt) (hc : s.feeder.Consistent) : s.rebalance.1.Feeds scanAt := by
  refine State.judgeBacklog_feeds (State.runPass_feeds ?_ ?_ ?_)
  · rw [State.runShedding_scan]; exact h
  · rw [State.runShedding_feeder]; exact Feeder.shed_bounded _ hc
  · rw [State.runShedding_feeder]; exact Feeder.shed_consistent _ hc

@[simp] theorem State.placeSettle_feeds (s : State) (m : MachineNo) (e : Nat) : (s.placeSettle m e).Feeds scanAt ↔ s.Feeds scanAt := by
  unfold State.placeSettle
  (repeat' split) <;> simp

@[simp] theorem State.endCommands_feeds (s : State) (m : MachineNo) (was : MachineState) (cause : EndCause) (id : Nat) : (s.endCommands m was cause id).Feeds scanAt ↔ s.Feeds scanAt := by
  unfold State.endCommands
  (repeat' split) <;> simp

@[simp] theorem State.endSessionWith_feeds (hs : s.Feeds scanAt) (m : MachineNo) (cause : EndCause) (after : AfterSettle) (e : Nat) : (s.endSessionWith m cause after e).Feeds scanAt := by
  unfold State.endSessionWith
  (repeat' split) <;> simp [hs]

@[simp] theorem State.endSession_feeds (hs : s.Feeds scanAt) (m : MachineNo) (cause : EndCause) (after : AfterSettle) : (s.endSession m cause after).Feeds scanAt := by
  simp [State.endSession, hs]

@[simp] theorem State.writeCharge_feeds (s : State) (m : MachineNo) (total : Nat) : (s.writeCharge m total).Feeds scanAt ↔ s.Feeds scanAt := by
  unfold State.writeCharge
  (repeat' split) <;> simp

@[simp] theorem State.enterAfter_feeds (s : State) (m : MachineNo) (slotCode : Option (Option FaultCode)) : (s.enterAfter m slotCode).Feeds scanAt ↔ s.Feeds scanAt := by
  unfold State.enterAfter
  (repeat' split) <;> simp

@[simp] theorem State.completeSettlement_feeds (s : State) (m : MachineNo) (parts : List Part) (slotCode : Option (Option FaultCode)) : (s.completeSettlement m parts slotCode).Feeds scanAt ↔ s.Feeds scanAt := by
  unfold State.completeSettlement
  (repeat' split) <;> simp

@[simp] theorem State.completeIfEmpty_feeds (s : State) (m : MachineNo) : (s.completeIfEmpty m).Feeds scanAt ↔ s.Feeds scanAt := by
  unfold State.completeIfEmpty
  (repeat' split) <;> simp

@[simp] theorem State.abandon_feeds (s : State) (m : MachineNo) (a : Abandonment) : (s.abandon m a).Feeds scanAt ↔ s.Feeds scanAt := by
  simp [State.abandon]

@[simp] theorem State.takeId_feeds (s : State) : s.takeId.Feeds scanAt ↔ s.Feeds scanAt := by
  simp [State.takeId]

@[simp] theorem State.arm_feeds (s : State) (m : MachineNo) (price : Nat) : (s.arm m price).Feeds scanAt ↔ s.Feeds scanAt := by
  unfold State.arm
  (repeat' split) <;> simp

@[simp] theorem State.goRunning_feeds (hs : s.Feeds scanAt) (m : MachineNo) : (s.goRunning m).Feeds scanAt := by
  unfold State.goRunning
  (repeat' split) <;> simp [hs]

@[simp] theorem State.takeStart_feeds (hs : s.Feeds scanAt) (m : MachineNo) : (s.takeStart m).Feeds scanAt := by
  unfold State.takeStart
  (repeat' split) <;> simp [hs]

@[simp] theorem State.endHeat_feeds (hs : s.Feeds scanAt) (m : MachineNo) : (s.endHeat m).Feeds scanAt := by
  simp [State.endHeat, hs]

@[simp] theorem State.finish_feeds (hs : s.Feeds scanAt) (m : MachineNo) : (s.finish m).Feeds scanAt := by
  unfold State.finish
  (repeat' split) <;> simp [hs]

@[simp] theorem State.strand_feeds (hs : s.Feeds scanAt) (m : MachineNo) (origin : StrandedFrom) : (s.strand m origin).Feeds scanAt := by
  simp [State.strand, hs]

@[simp] theorem State.complete_feeds (hs : s.Feeds scanAt) (m : MachineNo) : (s.complete m).Feeds scanAt := by
  simp [State.complete, hs]

@[simp] theorem State.refuseCard_feeds (s : State) (m : MachineNo) (card : CardId) (why : Reason) : (s.refuseCard m card why).Feeds scanAt ↔ s.Feeds scanAt := by
  simp [State.refuseCard]

@[simp] theorem State.writeRecord_feeds (s : State) (source : Source) (code : FaultCode) (severity : Severity) (ref : Reference) : (s.writeRecord source code severity ref).Feeds scanAt ↔ s.Feeds scanAt :=
  State.feeds_of_apart (by simp)

@[simp] theorem State.faultNotice_feeds (s : State) : s.faultNotice.Feeds scanAt ↔ s.Feeds scanAt :=
  State.feeds_of_apart (by simp)

@[simp] theorem State.setLocking_feeds (s : State) (m : MachineNo) (q : Option Nat) : (s.setLocking m q).Feeds scanAt ↔ s.Feeds scanAt := by
  simp [State.setLocking]

@[simp] theorem State.setEnding_feeds (s : State) (m : MachineNo) (q : Option Nat) : (s.setEnding m q).Feeds scanAt ↔ s.Feeds scanAt := by
  simp [State.setEnding]

@[simp] theorem State.stopOrder_feeds (hs : s.Feeds scanAt) (m : MachineNo) (code : FaultCode) : (s.stopOrder m code).Feeds scanAt := by
  unfold State.stopOrder
  (repeat' split) <;> simp [hs]

@[simp] theorem State.lockoutOrder_feeds (hs : s.Feeds scanAt) (m : MachineNo) (code : FaultCode) : (s.lockoutOrder m code).Feeds scanAt := by
  unfold State.lockoutOrder
  (repeat' split) <;> simp [hs]

@[simp] theorem State.carryOut_feeds (hs : s.Feeds scanAt) (m : MachineNo) (code : FaultCode) (z : Order) : (s.carryOut m code z).Feeds scanAt := by
  unfold State.carryOut
  (repeat' split) <;> simp [hs]

@[simp] theorem State.linkRecord_feeds (s : State) (m : MachineNo) (o : Order) : (s.linkRecord m o).Feeds scanAt ↔ s.Feeds scanAt := by
  simp [State.linkRecord]

@[simp] theorem State.recordReport_feeds (hs : s.Feeds scanAt) (m : MachineNo) (code : FaultCode) (sev : Severity) : (s.recordReport m code sev).Feeds scanAt := by
  unfold State.recordReport
  dsimp only
  split <;> simp [hs]

@[simp] theorem State.reportFault_feeds (hs : s.Feeds scanAt) (m : MachineNo) (code : FaultCode) : (s.reportFault m code).Feeds scanAt := by
  simp [State.reportFault, hs]

@[simp] theorem State.reportEnding_feeds (hs : s.Feeds scanAt) (m : MachineNo) (code : FaultCode) : (s.reportEnding m code).Feeds scanAt := by
  simp [State.reportEnding, hs]

@[simp] theorem State.noteNodeLost_feeds (s : State) (m : MachineNo) (ends : Bool) : (s.noteNodeLost m ends).Feeds scanAt ↔ s.Feeds scanAt := by
  simp [State.noteNodeLost]

@[simp] theorem State.reportRecovery_feeds (hs : s.Feeds scanAt) (m : MachineNo) (code : FaultCode) (e : Nat) : (s.reportRecovery m code e).Feeds scanAt := by
  simp [State.reportRecovery, hs]

@[simp] theorem State.reportPart_feeds (s : State) (code : FaultCode) (ref : Reference) : (s.reportPart code ref).Feeds scanAt ↔ s.Feeds scanAt :=
  State.feeds_of_apart (by simp)

@[simp] theorem State.leakOrder_feeds (hs : s.Feeds scanAt) (m : MachineNo) : (s.leakOrder m).Feeds scanAt := by
  simp [State.leakOrder, hs]

@[simp] theorem State.relampRoom_feeds (s : State) (r : RoomNo) : (s.relampRoom r).Feeds scanAt ↔ s.Feeds scanAt :=
  forEach_relamp_feeds _ s

@[simp] theorem State.closeRoom_feeds (hs : s.Feeds scanAt) (r : RoomNo) : (s.closeRoom r).Feeds scanAt := by
  have hguard : ((s.writeRecord (.room r) .leak .room .none).modGuard r fun g =>
      { g with closed := true, valveOpen := false, closing := some (s.writeRecord (.room r) .leak .room .none).supervisor.counter }).Feeds
        scanAt := by simp [hs]
  have horders := forEach_feeds (fun m u (hu : u.Feeds scanAt) => State.leakOrder_feeds hu m) (s.washersOf r) hguard
  exact forEach_feeds (fun m u (hu : u.Feeds scanAt) => (State.completeIfEmpty_feeds u m).mpr hu) _ (by simpa using horders)

@[simp] theorem State.takeOnset_feeds (hs : s.Feeds scanAt) (r : RoomNo) : (s.takeOnset r).Feeds scanAt := by
  simp [State.takeOnset, hs]

@[simp] theorem State.takeClear_feeds (s : State) (r : RoomNo) : (s.takeClear r).Feeds scanAt ↔ s.Feeds scanAt := by
  simp [State.takeClear]

@[simp] theorem State.rejudgeRoom_feeds (hs : s.Feeds scanAt) (r : RoomNo) : (s.rejudgeRoom r).Feeds scanAt := by
  simp [State.rejudgeRoom, hs]

@[simp] theorem State.startAuthorise_feeds (s : State) (m : MachineNo) (card : CardId) (p : ProgrammeNo) (count : Nat) : (s.startAuthorise m card p count).Feeds scanAt ↔ s.Feeds scanAt := by
  simp [State.startAuthorise]

@[simp] theorem State.cardAtIdle_feeds (s : State) (m : MachineNo) (card : CardId) (programme count : Nat) : (s.cardAtIdle m card programme count).Feeds scanAt ↔ s.Feeds scanAt := by
  unfold State.cardAtIdle
  (repeat' split) <;> simp

@[simp] theorem State.cardAtDryer_feeds (s : State) (m : MachineNo) (card : CardId) (count : Nat) : (s.cardAtDryer m card count).Feeds scanAt ↔ s.Feeds scanAt := by
  unfold State.cardAtDryer
  (repeat' split) <;> simp

@[simp] theorem State.takeCard_feeds (s : State) (m : MachineNo) (card : CardId) (programme count : Nat) : (s.takeCard m card programme count).Feeds scanAt ↔ s.Feeds scanAt := by
  unfold State.takeCard
  (repeat' split) <;> simp

@[simp] theorem State.takeStartPressed_feeds (hs : s.Feeds scanAt) (m : MachineNo) : (s.takeStartPressed m).Feeds scanAt := by
  unfold State.takeStartPressed
  dsimp only
  (repeat' split) <;> simp [hs]

@[simp] theorem State.takePhase_feeds (hs : s.Feeds scanAt) (m : MachineNo) (p : Phase) : (s.takePhase m p).Feeds scanAt := by
  unfold State.takePhase
  (repeat' split) <;> simp [hs]

@[simp] theorem State.takeDoor_feeds (s : State) (m : MachineNo) (opened : Bool) : (s.takeDoor m opened).Feeds scanAt ↔ s.Feeds scanAt := by
  unfold State.takeDoor
  (repeat' split) <;> simp

@[simp] theorem State.foreignRun_feeds (hs : s.Feeds scanAt) (m : MachineNo) (id : Nat) : (s.foreignRun m id).Feeds scanAt := by
  unfold State.foreignRun
  dsimp only
  (repeat' split) <;> simp [hs]

@[simp] theorem State.judgeIdle_feeds (hs : s.Feeds scanAt) (m : MachineNo) (n : Summary) (first : Bool) : (s.judgeIdle m n first).Feeds scanAt := by
  unfold State.judgeIdle
  dsimp only
  (repeat' split) <;> simp [hs]

@[simp] theorem State.delayOver_feeds (hs : s.Feeds scanAt) (m : MachineNo) : (s.delayOver m).Feeds scanAt := by
  simp [State.delayOver, hs]

@[simp] theorem State.judgeArmed_feeds (hs : s.Feeds scanAt) (m : MachineNo) (n : Summary) (x : Session) : (s.judgeArmed m n x).Feeds scanAt := by
  unfold State.judgeArmed
  (repeat' split) <;> simp [hs]

@[simp] theorem State.judgeRunning_feeds (hs : s.Feeds scanAt) (m : MachineNo) (n : Summary) (x : Session) : (s.judgeRunning m n x).Feeds scanAt := by
  unfold State.judgeRunning
  (repeat' split) <;> simp [hs]

@[simp] theorem State.judgeStranded_feeds (hs : s.Feeds scanAt) (m : MachineNo) (n : Summary) (x : Session) : (s.judgeStranded m n x).Feeds scanAt := by
  unfold State.judgeStranded
  (repeat' split) <;> simp [hs]

@[simp] theorem State.resume_feeds (hs : s.Feeds scanAt) (m : MachineNo) (n : Summary) (x : Session) : (s.resume m n x).Feeds scanAt := by
  unfold State.resume
  (repeat' split) <;> simp [hs]

@[simp] theorem State.judgeRecovering_feeds (hs : s.Feeds scanAt) (m : MachineNo) (n : Summary) (x : Session) : (s.judgeRecovering m n x).Feeds scanAt := by
  unfold State.judgeRecovering
  (repeat' split) <;> simp [hs]

@[simp] theorem State.judgeSummary_feeds (hs : s.Feeds scanAt) (m : MachineNo) (n : Summary) (first : Bool) : (s.judgeSummary m n first).Feeds scanAt := by
  unfold State.judgeSummary
  dsimp only
  (repeat' split) <;> simp [hs]

@[simp] theorem State.linkLost_feeds (hs : s.Feeds scanAt) (m : MachineNo) : (s.linkLost m).Feeds scanAt := by
  unfold State.linkLost
  dsimp only
  (repeat' split) <;> simp [hs]

@[simp] theorem State.dryerMinute_feeds (hs : s.Feeds scanAt) (m : MachineNo) : (s.dryerMinute m).Feeds scanAt := by
  unfold State.dryerMinute
  (repeat' split) <;> simp [hs]

@[simp] theorem State.checkOverrun_feeds (hs : s.Feeds scanAt) (m : MachineNo) : (s.checkOverrun m).Feeds scanAt := by
  unfold State.checkOverrun
  (repeat' split) <;> simp [hs]

@[simp] theorem State.markRefresh_feeds (s : State) (m : MachineNo) (x : Session) : (s.markRefresh m x).Feeds scanAt ↔ s.Feeds scanAt := by
  simp [State.markRefresh]

@[simp] theorem State.runningMinute_feeds (hs : s.Feeds scanAt) (m : MachineNo) (x : Session) : (s.runningMinute m x).Feeds scanAt := by
  unfold State.runningMinute
  dsimp only
  (repeat' split) <;> simp [hs]

@[simp] theorem State.delayedMinute_feeds (hs : s.Feeds scanAt) (m : MachineNo) (x : Session) : (s.delayedMinute m x).Feeds scanAt := by
  simp [State.delayedMinute, hs]

@[simp] theorem State.minuteExpiry_feeds (hs : s.Feeds scanAt) (m : MachineNo) : (s.minuteExpiry m).Feeds scanAt := by
  unfold State.minuteExpiry
  (repeat' split) <;> simp [hs]

@[simp] theorem State.armExpiry_feeds (hs : s.Feeds scanAt) (m : MachineNo) : (s.armExpiry m).Feeds scanAt := by
  unfold State.armExpiry
  split <;> simp [hs]

@[simp] theorem State.graceExpiry_feeds (hs : s.Feeds scanAt) (m : MachineNo) : (s.graceExpiry m).Feeds scanAt := by
  unfold State.graceExpiry
  (repeat' split) <;> simp [hs]

@[simp] theorem State.recoveryExpiry_feeds (hs : s.Feeds scanAt) (m : MachineNo) : (s.recoveryExpiry m).Feeds scanAt := by
  unfold State.recoveryExpiry
  split <;> simp [hs]

@[simp] theorem State.authorised_feeds (hs : s.Feeds scanAt) (m : MachineNo) (p : Part) : (s.authorised m p).Feeds scanAt := by
  unfold State.authorised
  dsimp only
  (repeat' split) <;> simp [hs]

@[simp] theorem State.authoriseRefused_feeds (s : State) (m : MachineNo) (card : CardId) (why : Reason) : (s.authoriseRefused m card why).Feeds scanAt ↔ s.Feeds scanAt := by
  unfold State.authoriseRefused
  dsimp only
  (repeat' split) <;> simp

@[simp] theorem State.placeHeldBack_feeds (s : State) (m : MachineNo) : (s.placeHeldBack m).Feeds scanAt ↔ s.Feeds scanAt := by
  simp [State.placeHeldBack]

@[simp] theorem State.extended_feeds (s : State) (m : MachineNo) (p : Part) (w : Bool) : (s.extended m p w).Feeds scanAt ↔ s.Feeds scanAt := by
  unfold State.extended
  (repeat' split) <;> simp

@[simp] theorem State.extendRefused_feeds (s : State) (m : MachineNo) (card : CardId) (why : Reason) : (s.extendRefused m card why).Feeds scanAt ↔ s.Feeds scanAt := by
  simp [State.extendRefused]

@[simp] theorem State.partReleased_feeds (s : State) (m : MachineNo) : (s.partReleased m).Feeds scanAt ↔ s.Feeds scanAt := by
  simp [State.partReleased]

@[simp] theorem State.sampleRoom_feeds (hs : s.Feeds scanAt) (r : RoomNo) : (s.sampleRoom r).Feeds scanAt := by
  simp [State.sampleRoom, hs]

@[simp] theorem State.startMachine_feeds (s : State) (m : MachineNo) : (s.startMachine m).Feeds scanAt ↔ s.Feeds scanAt := by
  simp [State.startMachine]

@[simp] theorem State.saveSegment_feeds (s : State) (b : ConfigBlock) (k : Fin 4) : (s.saveSegment b k).Feeds scanAt ↔ s.Feeds scanAt :=
  State.feeds_of_apart (by simp)

@[simp] theorem State.accept_feeds (s : State) : s.accept.Feeds scanAt ↔ s.Feeds scanAt := by
  simp [State.accept]

@[simp] theorem State.setSite_feeds (s : State) (code : Nat) : (s.setSite code).Feeds scanAt ↔ s.Feeds scanAt := by
  simp [State.setSite]

theorem Feeder.consistent_of_claims {f g : Feeder} (h : f.Consistent) (horder : g.order = f.order) (hrooms : ∀ r,
    (look g.rooms r).grants = (look f.rooms r).grants ∧ (look g.rooms r).newQueue = (look f.rooms r).newQueue ∧
      (look g.rooms r).resumeQueue = (look f.rooms r).resumeQueue) : g.Consistent := by
  unfold Feeder.Consistent at h ⊢
  simpa only [horder, hrooms] using h

theorem Feeder.modRoom_capacity_consistent {f : Feeder} (h : f.Consistent) (r : RoomNo) (n : Nat) :
    (f.modRoom r fun x => { x with capacity := n }).Consistent := by
  refine Feeder.consistent_of_claims h rfl fun k => ?_
  by_cases hk : r = k
  · subst hk; simp [Feeder.modRoom, State.look_update_self]
  · simp [Feeder.modRoom, State.look_update_other _ _ _ _ hk]

@[simp] theorem State.setRoom_feeds (hs : s.Feeds scanAt) (r : RoomNo) (n : Nat) (e : EdgeSelect) : (s.setRoom r n e).Feeds scanAt := by
  obtain ⟨hscan, hsound⟩ := hs
  unfold State.setRoom
  dsimp only
  have hmoved := State.rebalance_feeds (s := { s with feeder := s.feeder.modRoom r fun x => { x with capacity := n } }) hscan
    (Feeder.modRoom_capacity_consistent hsound.2.1 r n)
  split
  · simp [show s.Feeds scanAt from ⟨hscan, hsound⟩]
  · split <;> simp [hmoved]

@[simp] theorem State.assignMachine_feeds (hs : s.Feeds scanAt) (m : MachineNo) (room : RoomNo) (cls : MachineClass) : (s.assignMachine m room cls).Feeds scanAt := by
  simp [State.assignMachine, hs]

@[simp] theorem State.unassignMachine_feeds (hs : s.Feeds scanAt) (m : MachineNo) (room : RoomNo) (cls : MachineClass) : (s.unassignMachine m room cls).Feeds scanAt := by
  simp [State.unassignMachine, hs]

@[simp] theorem State.setMachine_feeds (hs : s.Feeds scanAt) (m : MachineNo) (room : Nat) (cls : MachineClass) (assigned : Bool) : (s.setMachine m room cls assigned).Feeds scanAt := by
  unfold State.setMachine
  (repeat' split) <;> simp [hs]

@[simp] theorem State.setWasher_feeds (s : State) (p : ProgrammeNo) (price duration heat : Nat) : (s.setWasher p price duration heat).Feeds scanAt ↔ s.Feeds scanAt := by
  simp [State.setWasher]

@[simp] theorem State.setDryer_feeds (s : State) (p : ProgrammeNo) (price length maximum heat : Nat) : (s.setDryer p price length maximum heat).Feeds scanAt ↔ s.Feeds scanAt := by
  simp [State.setDryer]

@[simp] theorem State.setProgramme_feeds (s : State) (i : ProgrammeItem) : (s.setProgramme i).Feeds scanAt ↔ s.Feeds scanAt := by
  unfold State.setProgramme
  (repeat' split) <;> simp

@[simp] theorem State.setTariff_feeds (s : State) (t : Tariff) : (s.setTariff t).Feeds scanAt ↔ s.Feeds scanAt := by
  simp [State.setTariff]

@[simp] theorem State.setBand_feeds (s : State) (b : Fin 4) (start factor : Nat) : (s.setBand b start factor).Feeds scanAt ↔ s.Feeds scanAt := by
  simp [State.setBand]

@[simp] theorem State.setGroup_feeds (s : State) (g : Fin 8) (discount : Nat) : (s.setGroup g discount).Feeds scanAt ↔ s.Feeds scanAt := by
  simp [State.setGroup]

@[simp] theorem State.setSurcharge_feeds (s : State) (n : Nat) : (s.setSurcharge n).Feeds scanAt ↔ s.Feeds scanAt := by
  simp [State.setSurcharge]

@[simp] theorem State.setCap_feeds (s : State) (n : Nat) : (s.setCap n).Feeds scanAt ↔ s.Feeds scanAt := by
  simp [State.setCap]

@[simp] theorem State.setGrace_feeds (s : State) (n : Nat) : (s.setGrace n).Feeds scanAt ↔ s.Feeds scanAt := by
  simp [State.setGrace]

@[simp] theorem State.setPause_feeds (s : State) (a k : Nat) : (s.setPause a k).Feeds scanAt ↔ s.Feeds scanAt := by
  simp [State.setPause]

@[simp] theorem State.setEngine_feeds (s : State) (e : SessionEngine) : (s.setEngine e).Feeds scanAt ↔ s.Feeds scanAt := by
  simp [State.setEngine]

@[simp] theorem State.setArm_feeds (s : State) (n : Nat) : (s.setArm n).Feeds scanAt ↔ s.Feeds scanAt := by
  simp [State.setArm]

@[simp] theorem State.setOverrun_feeds (s : State) (n : Nat) : (s.setOverrun n).Feeds scanAt ↔ s.Feeds scanAt := by
  simp [State.setOverrun]

@[simp] theorem State.setNodeGrace_feeds (s : State) (n : Nat) : (s.setNodeGrace n).Feeds scanAt ↔ s.Feeds scanAt := by
  simp [State.setNodeGrace]

@[simp] theorem State.setWindow_feeds (s : State) (n : Fin 4) (w : WindowItem) : (s.setWindow n w).Feeds scanAt ↔ s.Feeds scanAt := by
  unfold State.setWindow
  (repeat' split) <;> simp

@[simp] theorem State.setCache_feeds (s : State) (i : CacheItem) : (s.setCache i).Feeds scanAt ↔ s.Feeds scanAt := by
  simp [State.setCache]

@[simp] theorem State.setGrant_feeds (hs : s.Feeds scanAt) (mode : Arbitration) (limit high low : Nat) :
    (s.setGrant mode limit high low).Feeds scanAt := by
  obtain ⟨hscan, hsound⟩ := hs
  have hmoved := State.rebalance_feeds
    (s := { s with feeder := { s.feeder with mode := mode, limit := limit, high := high, low := low } }) hscan hsound.2.1
  unfold State.setGrant
  dsimp only
  split
  · simp [show s.Feeds scanAt from ⟨hscan, hsound⟩]
  · split
    · rename_i hlimit
      have hkept : State.Feeds scanAt { s with feeder := { s.feeder with mode := mode, limit := limit, high := high, low := low } } :=
        ⟨hscan, hsound.of_rooms rfl rfl (by subst hlimit; rfl)⟩
      simp [hkept]
    · simp [hmoved]

@[simp] theorem State.setLamps_feeds (s : State) (k : LampMap) : (s.setLamps k).Feeds scanAt ↔ s.Feeds scanAt := by
  simp [State.setLamps]

@[simp] theorem State.setMask_feeds (s : State) (k : NoticeMask) : (s.setMask k).Feeds scanAt ↔ s.Feeds scanAt := by
  simp [State.setMask]

theorem State.withIndex_feeds (hs : s.Feeds scanAt) {n k : Nat} {f : Fin n → State} (hf : ∀ i, (f i).Feeds scanAt) : (s.withIndex n k f).Feeds scanAt := by
  unfold State.withIndex
  split <;> simp [hs, hf]

@[simp] theorem State.configSet_feeds (hs : s.Feeds scanAt) (i : ConfigItem) : (s.configSet i).Feeds scanAt := by
  unfold State.configSet
  split
  case h_2 | h_3 | h_5 | h_6 | h_14 => exact State.withIndex_feeds hs fun k => by simp [hs]
  all_goals simp [hs]

@[simp] theorem State.configGet_feeds (s : State) (code index : Nat) : (s.configGet code index).Feeds scanAt ↔ s.Feeds scanAt := by
  unfold State.configGet
  (repeat' split) <;> simp

@[simp] theorem State.configSave_feeds (s : State) : s.configSave.Feeds scanAt ↔ s.Feeds scanAt := by
  simp [State.configSave]

@[simp] theorem State.machineQuery_feeds (s : State) (m : MachineNo) : (s.machineQuery m).Feeds scanAt ↔ s.Feeds scanAt := by
  simp [State.machineQuery]

@[simp] theorem State.startService_feeds (s : State) (m : MachineNo) (p : ProgrammeNo) (count : Nat) : (s.startService m p count).Feeds scanAt ↔ s.Feeds scanAt := by
  simp [State.startService]

@[simp] theorem State.serviceStart_feeds (s : State) (m : MachineNo) (programme count : Nat) : (s.serviceStart m programme count).Feeds scanAt ↔ s.Feeds scanAt := by
  unfold State.serviceStart
  dsimp only
  (repeat' split) <;> simp

@[simp] theorem State.abort_feeds (hs : s.Feeds scanAt) (m : MachineNo) : (s.abort m).Feeds scanAt := by
  unfold State.abort
  (repeat' split) <;> simp [hs]

@[simp] theorem State.lock_feeds (hs : s.Feeds scanAt) (m : MachineNo) : (s.lock m).Feeds scanAt := by
  unfold State.lock
  (repeat' split) <;> simp [hs]

@[simp] theorem State.lockoutClear_feeds (s : State) (m : MachineNo) : (s.lockoutClear m).Feeds scanAt ↔ s.Feeds scanAt := by
  unfold State.lockoutClear
  (repeat' split) <;> simp

@[simp] theorem State.nodeEnable_feeds (hs : s.Feeds scanAt) (m : MachineNo) : (s.nodeEnable m).Feeds scanAt := by
  simp [State.nodeEnable, hs]

@[simp] theorem State.nodeDisable_feeds (hs : s.Feeds scanAt) (m : MachineNo) : (s.nodeDisable m).Feeds scanAt := by
  unfold State.nodeDisable
  (repeat' split) <;> simp [hs]

@[simp] theorem State.queueDirectory_feeds (s : State) (q : PayRequest) : (s.queueDirectory q).Feeds scanAt ↔ s.Feeds scanAt := by
  simp [State.queueDirectory]

@[simp] theorem State.directoryWrite_feeds (s : State) (p : RawPath) (d : RawDescriptor) : (s.directoryWrite p d).Feeds scanAt ↔ s.Feeds scanAt := by
  unfold State.directoryWrite
  (repeat' split) <;> simp

@[simp] theorem State.directoryRead_feeds (s : State) (p : RawPath) : (s.directoryRead p).Feeds scanAt ↔ s.Feeds scanAt := by
  unfold State.directoryRead
  (repeat' split) <;> simp

@[simp] theorem State.cardProbe_feeds (s : State) (card : CardId) (cls : MachineClass) : (s.cardProbe card cls).Feeds scanAt ↔ s.Feeds scanAt := by
  simp [State.cardProbe]

@[simp] theorem State.queueAccount_feeds (s : State) (account : Nat) (op : Option AccountOp) : (s.queueAccount account op).Feeds scanAt ↔ s.Feeds scanAt := by
  unfold State.queueAccount
  (repeat' split) <;> simp

@[simp] theorem State.flushNow_feeds (s : State) (scope : Nat) (gone : CacheEntry → Bool) (c : Cache) : (s.flushNow scope gone c).Feeds scanAt ↔ s.Feeds scanAt := by
  simp [State.flushNow]

@[simp] theorem State.flushSweep_feeds (s : State) (scope : Nat) (w : Sweep) : (s.flushSweep scope w).Feeds scanAt ↔ s.Feeds scanAt := by
  simp [State.flushSweep]

@[simp] theorem State.cacheFlush_feeds (s : State) (scope : FlushScope) : (s.cacheFlush scope).Feeds scanAt ↔ s.Feeds scanAt := by
  unfold State.cacheFlush
  (repeat' split) <;> simp

theorem State.changeDemand_claims (s : State) (limit duration : Nat) : (s.changeDemand limit duration).scan = s.scan ∧
    (s.changeDemand limit duration).feeder.rooms = s.feeder.rooms ∧ (s.changeDemand limit duration).feeder.order = s.feeder.order := by
  unfold State.changeDemand
  (repeat' split) <;> exact ⟨rfl, rfl, rfl⟩

@[simp] theorem State.demandSet_feeds (hs : s.Feeds scanAt) (limit duration : Nat) : (s.demandSet limit duration).Feeds scanAt := by
  unfold State.demandSet
  dsimp only
  split
  · simp [hs]
  · obtain ⟨hscan, hrooms, horder⟩ := s.changeDemand_claims limit (min duration Config.demandDurationLimit)
    have hmoved := State.rebalance_feeds (s := s.changeDemand limit (min duration Config.demandDurationLimit)) (hscan.symm ▸ hs.1)
      (Feeder.consistent_of_claims hs.2.2.1 horder fun r => by rw [hrooms]; exact ⟨rfl, rfl, rfl⟩)
    simp [hmoved]

@[simp] theorem State.demandExpiry_feeds (hs : s.Feeds scanAt) : s.demandExpiry.Feeds scanAt := by
  unfold State.demandExpiry
  split
  · exact hs
  · exact State.judgeBacklog_feeds (State.runPass_feeds hs.1 (Feeder.bounded_without_demand hs.2.1) hs.2.2.1)

@[simp] theorem State.keepMinutes_feeds (hs : s.Feeds scanAt) : s.keepMinutes.Feeds scanAt := by
  unfold State.keepMinutes
  split
  · exact ⟨hs.1, hs.2.of_rooms rfl rfl (by unfold Feeder.effectiveLimit; simp [*])⟩
  · exact hs

@[simp] theorem State.budgetQuery_feeds (hs : s.Feeds scanAt) : s.budgetQuery.Feeds scanAt := by
  simp [State.budgetQuery, hs]

@[simp] theorem State.faultRead_feeds (s : State) (start count : Nat) : (s.faultRead start count).Feeds scanAt ↔ s.Feeds scanAt := by
  simp [State.faultRead]

@[simp] theorem State.faultAck_feeds (s : State) (q : Nat) : (s.faultAck q).Feeds scanAt ↔ s.Feeds scanAt := by
  unfold State.faultAck
  (repeat' split) <;> simp

@[simp] theorem State.rulesSet_feeds (hs : s.Feeds scanAt) (i : RulesItem) : (s.rulesSet i).Feeds scanAt := by
  unfold State.rulesSet
  dsimp only
  have hset (v : Supervisor) : State.Feeds scanAt { s with supervisor := v } := hs
  have hrejudged (v : Supervisor) := forEach_feeds (fun r u (hu : u.Feeds scanAt) => State.rejudgeRoom_feeds hu r) (indexes 4) (hset v)
  (repeat' split) <;> simp [hs, hrejudged]

@[simp] theorem State.valveOpen_feeds (hs : s.Feeds scanAt) (room : Nat) : (s.valveOpen room).Feeds scanAt := by
  unfold State.valveOpen
  (repeat' split) <;> simp [hs]

@[simp] theorem State.linkReturns_feeds (s : State) (m : MachineNo) : (s.linkReturns m).Feeds scanAt ↔ s.Feeds scanAt := by
  unfold State.linkReturns
  dsimp only
  (repeat' split) <;> simp

@[simp] theorem State.linkGood_feeds (s : State) (m : MachineNo) : (s.linkGood m).Feeds scanAt ↔ s.Feeds scanAt := by
  unfold State.linkGood
  (repeat' split) <;> simp

@[simp] theorem State.setHeaterFault_feeds (hs : s.Feeds scanAt) (m : MachineNo) (b : Bool) : (s.setHeaterFault m b).Feeds scanAt :=
  ⟨hs.1, hs.2.of_rooms rfl rfl rfl⟩

@[simp] theorem State.superviseHeater_feeds (hs : s.Feeds scanAt) (m : MachineNo) (heater confirmed : Bool) : (s.superviseHeater m heater confirmed).Feeds scanAt := by
  simp [State.superviseHeater, hs]

@[simp] theorem State.handReport_feeds (hs : s.Feeds scanAt) (m : MachineNo) (z : Report) : (s.handReport m z).Feeds scanAt := by
  unfold State.handReport
  (repeat' split) <;> simp [hs]

@[simp] theorem State.nodeRestarted_feeds (s : State) (m : MachineNo) : (s.nodeRestarted m).Feeds scanAt ↔ s.Feeds scanAt := by
  simp [State.nodeRestarted]

@[simp] theorem State.takeReport_feeds (hs : s.Feeds scanAt) (m : MachineNo) (r : Report) (toggle : Bool) : (s.takeReport m r toggle).Feeds scanAt := by
  unfold State.takeReport
  dsimp only
  (repeat' split) <;> simp [hs]

@[simp] theorem State.summaryOf_feeds (hs : s.Feeds scanAt) (m : MachineNo) (n : Summary) (first : Bool) : (s.summaryOf m n first).Feeds scanAt := by
  simp [State.summaryOf, hs]

@[simp] theorem State.goodReply_feeds (hs : s.Feeds scanAt) (x : Exchange) (r : NodeReply) : (s.goodReply x r).Feeds scanAt := by
  unfold State.goodReply
  dsimp only
  have hecho : ((s.linkGood x.node).modLink x.node fun l => { l with table := l.table.echo x.command r.echo }).Feeds scanAt := by
    simp [hs]
  have hheater := State.superviseHeater_feeds (State.summaryOf_feeds hecho x.node r.summary (decide ((s.link x.node).state = .probing)))
    x.node r.summary.heater (((s.linkGood x.node).link x.node).table.confirmsOff x.command r.echo)
  split
  · exact State.takeReport_feeds hheater _ _ _
  · exact hheater

@[simp] theorem State.missed_feeds (s : State) (x : Exchange) : (s.missed x).Feeds scanAt ↔ s.Feeds scanAt := by
  simp [State.missed]

@[simp] theorem State.nodeReply_feeds (hs : s.Feeds scanAt) (r : NodeReply) : (s.nodeReply r).Feeds scanAt := by
  unfold State.nodeReply
  (repeat' split) <;> simp [hs]

@[simp] theorem State.replyTimeout_feeds (s : State) : s.replyTimeout.Feeds scanAt ↔ s.Feeds scanAt := by
  unfold State.replyTimeout
  (repeat' split) <;> simp

@[simp] theorem State.lostExpiry_feeds (hs : s.Feeds scanAt) (m : MachineNo) : (s.lostExpiry m).Feeds scanAt := by
  simp [State.lostExpiry, hs]

@[simp] theorem State.receive_feeds (s : State) (r : Receiver) : (s.receive r).Feeds scanAt ↔ s.Feeds scanAt := by
  simp [State.receive]

@[simp] theorem State.linkError_feeds (s : State) : s.linkError.Feeds scanAt ↔ s.Feeds scanAt := by
  simp [State.linkError]

@[simp] theorem State.gapExpiry_feeds (s : State) : s.gapExpiry.Feeds scanAt ↔ s.Feeds scanAt := by
  unfold State.gapExpiry
  (repeat' split) <;> simp

@[simp] theorem State.setInput_feeds (s : State) (r : RoomNo) (high : Bool) : (s.setInput r high).Feeds scanAt ↔ s.Feeds scanAt := by
  simp [State.setInput]

@[simp] theorem State.leakInput_feeds (s : State) (r : RoomNo) (high : Bool) : (s.leakInput r high).Feeds scanAt ↔ s.Feeds scanAt := by
  simp [State.leakInput]

@[simp] theorem State.debounceExpiry_feeds (hs : s.Feeds scanAt) (r : RoomNo) : (s.debounceExpiry r).Feeds scanAt := by
  simp [State.debounceExpiry, hs]

@[simp] theorem State.carryLookup_feeds (hs : s.Feeds scanAt) : s.carryLookup.Feeds scanAt := by
  refine hs.of_apart ?_
  unfold State.carryLookup
  (repeat' split) <;> simp

@[simp] theorem State.cacheLookup_feeds (hs : s.Feeds scanAt) : s.cacheLookup.Feeds scanAt := by
  simp [State.cacheLookup, hs]

@[simp] theorem State.sweepStep_feeds (s : State) : s.sweepStep.Feeds scanAt ↔ s.Feeds scanAt := by
  simp [State.sweepStep]

@[simp] theorem State.takeAuthorise_feeds (hs : s.Feeds scanAt) (m : MachineNo) : (s.takeAuthorise m).Feeds scanAt := by
  unfold State.takeAuthorise
  (repeat' split) <;> simp [hs]

@[simp] theorem State.takeExtend_feeds (hs : s.Feeds scanAt) (m : MachineNo) : (s.takeExtend m).Feeds scanAt := by
  unfold State.takeExtend
  (repeat' split) <;> simp [hs]

@[simp] theorem State.takeSettled_feeds (hs : s.Feeds scanAt) (m : MachineNo) : (s.takeSettled m).Feeds scanAt := by
  unfold State.takeSettled
  (repeat' split) <;> simp [hs]

@[simp] theorem State.takeReleased_feeds (hs : s.Feeds scanAt) (m : MachineNo) : (s.takeReleased m).Feeds scanAt := by
  unfold State.takeReleased
  (repeat' split) <;> simp [hs]

@[simp] theorem State.probeExpiry_feeds (s : State) : s.probeExpiry.Feeds scanAt ↔ s.Feeds scanAt := by
  simp [State.probeExpiry]

@[simp] theorem State.probeDone_feeds (hs : s.Feeds scanAt) (valid : Bool) : (s.probeDone valid).Feeds scanAt := by
  refine hs.of_apart ?_
  unfold State.probeDone
  dsimp only
  (repeat' split) <;> simp

end Sys2Proof.Machine
end

section
/-! SUPPORT. What keeps everything but the start-up scan idle while the scan runs (R209, R210), and with it the bounds of the feeder over
every step (R138, R142, R146). -/
namespace Sys2Proof.Machine

variable {s t : State} {m : MachineNo}

/-! ## Nothing but the scan at work -/

/-- What stands idle beside the scan. -/
structure State.Alone (s : State) : Prop where
  starting : s.startingUp = true
  line : s.line.exchange = none
  machines : ∀ m, (s.link m).state = .disabled ∧
    [.unassigned, .offline, .lockedOut, .recovering].contains (s.machine m).state = true ∧ (s.machine m).recoveryWindow = false
  queue : s.payment.queue = []
  contexts : ∀ c, (s.context c).request = none ∧ (s.context c).stage = .free
  deferred : s.store.deferred = []
  order : s.feeder.order = []
  rooms : ∀ r, let x := look s.feeder.rooms r
    x.grants = [] ∧ x.newQueue = [] ∧ x.resumeQueue = []
  guards : ∀ r, let g := s.guard r
    g.closed = false ∧ g.debounce = false ∧ g.valveOpen = false

theorem State.scanAlone_iff : s.ScanAlone ↔ (s.scan.at_ ≠ .off → s.Alone) := by
  refine ⟨fun h hon => ?_, fun h hon => ?_⟩
  · obtain ⟨h1, h2, h3, h4, h5, h6, h7, h8, h9⟩ := h hon
    exact ⟨h1, h2, h3, h4, h5, h6, h7, h8, h9⟩
  · obtain ⟨h1, h2, h3, h4, h5, h6, h7, h8, h9⟩ := h hon
    exact ⟨h1, h2, h3, h4, h5, h6, h7, h8, h9⟩

/-- The blocks, or the parts of them, that stand idle beside the scan. -/
def State.idle (s : State) : StartUpState × LineController × Vector MachineRecord 64 × List PayRequest × Vector Context 8 ×
    List Deferred × Feeder × Vector RoomGuard 4 :=
  (s.startUp, s.line, s.engine.machines, s.payment.queue, s.payment.contexts, s.store.deferred, s.feeder, s.supervisor.rooms)

@[simp] theorem State.idle_mk (a b c d e f g h i j k l m n o p q r) :
    (State.mk a b c d e f g h i j k l m n o p q r).idle =
      (b, e, f.machines, i.queue, i.contexts, n.deferred, k, l.rooms) := rfl

@[simp] theorem State.idle_fold (s : State) : (s.startUp, s.line, s.engine.machines, s.payment.queue, s.payment.contexts,
    s.store.deferred, s.feeder, s.supervisor.rooms) = s.idle := rfl

@[simp] theorem State.idle_ite {c : Prop} [Decidable c] (a b : State) : (if c then a else b).idle = if c then a.idle else b.idle := by
  split <;> rfl

theorem State.Alone.of_idle (h : s.Alone) (ht : t.idle = s.idle) : t.Alone := by
  simp only [State.idle, Prod.mk.injEq] at ht
  obtain ⟨hstart, hline, hmachines, hqueue, hcontexts, hdeferred, hfeeder, hrooms⟩ := ht
  have hmachine (m : MachineNo) : t.machine m = s.machine m := congrArg (fun v => look v m) hmachines
  have hlink (m : MachineNo) : t.link m = s.link m := congrArg (fun c => look (LineController.links c) m) hline
  have hcontext (c : ContextNo) : t.context c = s.context c := congrArg (fun v => look v c) hcontexts
  have hguard (r : RoomNo) : t.guard r = s.guard r := congrArg (fun v => look v r) hrooms
  exact {
    starting := by rw [State.startingUp, hstart]; exact h.starting
    line := by rw [hline]; exact h.line
    machines := fun m => by rw [hlink, hmachine]; exact h.machines m
    queue := by rw [hqueue]; exact h.queue
    contexts := fun c => by rw [hcontext]; exact h.contexts c
    deferred := by rw [hdeferred]; exact h.deferred
    order := by rw [hfeeder]; exact h.order
    rooms := fun r => by rw [hfeeder]; exact h.rooms r
    guards := fun r => by rw [hguard]; exact h.guards r }

theorem State.Alone.sound (h : s.Alone) : s.feeder.Sound := Feeder.sound_of_empty h.rooms

/-! ## What every step keeps -/

/-- The feeder is sound, and while the scan runs nothing else is at work. -/
def State.Fed (s : State) : Prop := s.feeder.Sound ∧ (s.scan.at_ ≠ .off → s.Alone)

theorem State.Alone.fed (h : s.Alone) : s.Fed := ⟨h.sound, fun _ => h⟩

theorem State.Feeds.fed (h : s.Feeds .off) : s.Fed := ⟨h.2, fun hon => absurd h.1 hon⟩

theorem State.Fed.cases (h : s.Fed) : s.Feeds .off ∨ s.Alone := by
  by_cases hoff : s.scan.at_ = .off
  · exact .inl ⟨hoff, h.1⟩
  · exact .inr (h.2 hoff)

/-- An operation keeps both, from what it does after the scan and what it does while the scan runs. -/
theorem State.Fed.keeps {f : State → State} (h : s.Fed) (off : s.Feeds .off → (f s).Feeds .off) (on : s.Alone → (f s).Alone) : (f s).Fed :=
  h.cases.elim (fun h => (off h).fed) fun h => (on h).fed

/-! ## What leaves all of it idle -/

@[simp] theorem State.notify_idle (s : State) (n : Notice) : (s.notify n).idle = s.idle := by simp [State.notify]

@[simp] theorem State.reply_idle (s : State) (status : Status) (results : List Byte) : (s.reply status results).idle = s.idle := by
  unfold State.reply
  (repeat' split) <;> simp

@[simp] theorem State.refuse_idle (s : State) (status : Status) : (s.refuse status).idle = s.idle := by simp [State.refuse]

@[simp] theorem State.accept_idle (s : State) : s.accept.idle = s.idle := by simp [State.accept]

@[simp] theorem State.transmit_idle (s : State) : s.transmit.idle = s.idle := by simp [State.transmit]

@[simp] theorem State.issue_idle (s : State) (i : Issuer) (a : Access) : (s.issue i a).idle = s.idle := by simp [State.issue]

@[simp] theorem State.withQueue_idle (s : State) (q : List Transaction) : (s.withQueue q).idle = s.idle := by simp [State.withQueue]

@[simp] theorem State.modScan_idle (s : State) (f : Scan → Scan) : (s.modScan f).idle = s.idle := by simp [State.modScan]

@[simp] theorem State.scanTo_idle (s : State) (at_ : ScanAt) (a : Access) : (s.scanTo at_ a).idle = s.idle := by simp [State.scanTo]

@[simp] theorem State.markLockout_idle (s : State) (m : MachineNo) : (s.markLockout m).idle = s.idle := by simp [State.markLockout]

@[simp] theorem State.remark_idle (s : State) (m : MachineNo) (lockout : Bool) : (s.remark m lockout).idle = s.idle := by
  simp [State.remark]

@[simp] theorem Supervisor.makeRoom_rooms (v : Supervisor) : v.makeRoom.rooms = v.rooms := by
  unfold Supervisor.makeRoom
  (repeat' split) <;> rfl

@[simp] theorem State.writeRecord_idle (s : State) (source : Source) (code : FaultCode) (severity : Severity) (ref : Reference) :
    (s.writeRecord source code severity ref).idle = s.idle := by
  simp [State.writeRecord]

@[simp] theorem State.faultNotice_idle (s : State) : s.faultNotice.idle = s.idle := by
  unfold State.faultNotice
  (repeat' split) <;> simp

@[simp] theorem State.setLocking_idle (s : State) (m : MachineNo) (q : Option Nat) : (s.setLocking m q).idle = s.idle := by
  simp [State.setLocking]

@[simp] theorem State.reportPart_idle (s : State) (code : FaultCode) (ref : Reference) : (s.reportPart code ref).idle = s.idle := by
  simp [State.reportPart]

@[simp] theorem State.foundDamaged_idle (s : State) (a : AccountNo) : (s.foundDamaged a).idle = s.idle := by
  simp [State.foundDamaged, State.reportDamaged, State.addDamaged]

@[simp] theorem State.saveSegment_idle (s : State) (b : ConfigBlock) (k : Fin 4) : (s.saveSegment b k).idle = s.idle := by
  simp [State.saveSegment]

@[simp] theorem State.segmentDone_idle (s : State) : s.segmentDone.idle = s.idle := by
  unfold State.segmentDone
  (repeat' split) <;> simp

@[simp] theorem State.receive_idle (s : State) (r : Receiver) : (s.receive r).idle = s.idle := by simp [State.receive]

@[simp] theorem State.linkError_idle (s : State) : s.linkError.idle = s.idle := by simp [State.linkError]

@[simp] theorem State.restoreLockout_idle (s : State) (m : MachineNo) : (s.restoreLockout m).idle = s.idle := by
  simp [State.restoreLockout]

@[simp] theorem State.carry_idle (s : State) (x : Transaction) (rest : List Transaction) : (s.carry x rest).2.idle = s.idle := by
  simp [State.carry, State.withQueue]

/-! ## The events beside the scan -/

theorem State.Alone.machine_state (h : s.Alone) (m : MachineNo) : (s.machine m).state = .unassigned ∨ (s.machine m).state = .offline ∨
    (s.machine m).state = .lockedOut ∨ (s.machine m).state = .recovering := by
  simpa using (h.machines m).2.1

/-- A machine record changed within the states the scan finds machines in. -/
theorem State.Alone.modMachine (h : s.Alone) (m : MachineNo) (f : MachineRecord → MachineRecord)
    (hstate : [.unassigned, .offline, .lockedOut, .recovering].contains (f (s.machine m)).state = true)
    (hwindow : (f (s.machine m)).recoveryWindow = false) : (s.modMachine m f).Alone := by
  refine { h with machines := fun k => ?_ }
  obtain ⟨hlink, hk, hw⟩ := h.machines k
  by_cases hkm : k = m
  · subst hkm
    rw [State.modMachine_machine_self]
    exact ⟨hlink, hstate, hwindow⟩
  · rw [State.modMachine_machine_other _ _ _ _ (Ne.symm hkm)]
    exact ⟨hlink, hk, hw⟩

theorem State.Alone.modLink (h : s.Alone) (m : MachineNo) (f : Link → Link) (hf : ∀ l, (f l).state = l.state) : (s.modLink m f).Alone := by
  refine { h with machines := fun k => ?_ }
  obtain ⟨hlink, hk⟩ := h.machines k
  refine ⟨?_, hk⟩
  by_cases hkm : k = m
  · subst hkm
    rw [State.modLink_link_self, hf]
    exact hlink
  · rw [State.modLink_link_other _ _ _ _ (Ne.symm hkm)]
    exact hlink

theorem State.Alone.modGuard (h : s.Alone) (r : RoomNo) (f : RoomGuard → RoomGuard) (hclosed : ∀ g, (f g).closed = g.closed)
    (hdebounce : ∀ g, (f g).debounce = g.debounce) (hvalve : ∀ g, (f g).valveOpen = g.valveOpen) : (s.modGuard r f).Alone := by
  refine { h with guards := fun k => ?_ }
  by_cases hk : k = r
  · subst hk
    rw [State.modGuard_guard_self]
    dsimp only
    rw [hclosed, hdebounce, hvalve]
    exact h.guards k
  · rw [State.modGuard_guard_other _ _ _ _ (Ne.symm hk)]
    exact h.guards k

/-! ## Failing back -/

theorem State.Alone.contextFailed (h : s.Alone) (c : ContextNo) : (s.contextFailed c).run = s := by
  have hstage := (h.contexts c).2
  unfold State.contextFailed
  simp only [hstage]
  rfl

theorem State.Alone.failIssuer (h : s.Alone) (i : Issuer) : (s.failIssuer i).Alone := by
  cases i with
  | context c =>
    unfold State.failIssuer
    simp only [h.contextFailed c]
    exact h
  | _ => exact h.of_idle (by simp [State.failIssuer])

theorem State.Alone.drain (fuel : Nat) : ∀ {s : State}, s.Alone → (State.drain fuel s).Alone := by
  induction fuel with
  | zero => exact fun h => h.of_idle (State.withQueue_idle _ _)
  | succ fuel ih =>
    intro s h
    unfold State.drain
    split
    · exact h
    · exact ih (((h.of_idle (State.withQueue_idle _ _)).failIssuer _).of_idle (State.withQueue_idle _ _))

theorem State.Alone.failIssued (h : s.Alone) : s.failIssued.Alone := by
  unfold State.failIssued
  split
  · exact h
  · exact h.drain 64

theorem State.Alone.storeDown (h : s.Alone) : s.storeDown.Alone := by
  have hdown : State.Alone { s with store := { s.store with state := .down } } := h.of_idle rfl
  exact hdown.failIssued.of_idle (by simp [State.storeDown])

/-! ## The end of an event -/

@[simp] theorem State.issueDay_idle (s : State) : s.issueDay.idle = s.idle := by
  unfold State.issueDay
  (repeat' split) <;> simp

@[simp] theorem State.passRefresher_idle (s : State) (m : MachineNo) : (s.passRefresher m).idle = s.idle := by
  simp [State.passRefresher]

@[simp] theorem State.issueLockout_idle (s : State) (m : MachineNo) : (s.issueLockout m).idle = s.idle := by
  simp [State.issueLockout]

@[simp] theorem State.issueRefresh_idle (s : State) (m : MachineNo) : (s.issueRefresh m).idle = s.idle := by
  simp [State.issueRefresh]

@[simp] theorem State.refresh_idle (s : State) : s.refresh.idle = s.idle := by
  unfold State.refresh
  (repeat' split) <;> simp

@[simp] theorem State.issueOwn_idle (s : State) : s.issueOwn.idle = s.idle := by
  unfold State.issueOwn
  split <;> simp

theorem State.Alone.choose (h : s.Alone) : s.line.choose = none := by
  have hdisabled (m : MachineNo) : (look s.line.links m).state = .disabled := (h.machines m).1
  simp [LineController.choose, firstFrom, Link.hasCommand, Link.slowDue, hdisabled]

theorem State.Alone.begin (h : s.Alone) : s.line.begin = s.line := by
  unfold LineController.begin
  rw [h.line, h.choose]

theorem State.Alone.conclude (h : s.Alone) : s.conclude.Alone := by
  have hissued : s.failIssued.issueOwn.arbitrate.Alone := h.failIssued.of_idle (by simp [State.arbitrate])
  have hbegun : s.failIssued.issueOwn.arbitrate.beginExchange = s.failIssued.issueOwn.arbitrate := by
    unfold State.beginExchange
    rw [hissued.begin]
  unfold State.conclude
  rw [hbegun]
  exact hissued.of_idle (State.transmit_idle _)

theorem State.Feeds.conclude (h : s.Feeds .off) : s.conclude.Feeds .off := by
  have hissued : s.failIssued.issueOwn.arbitrate.Feeds .off := h.of_apart (by simp [State.arbitrate])
  simp [State.conclude, hissued]

theorem State.Fed.conclude (h : s.Fed) : s.conclude.Fed := h.keeps State.Feeds.conclude State.Alone.conclude

/-! ## The host link while the scan runs -/

theorem State.Alone.serve (h : s.Alone) (q : Request) : (s.serve q).Alone := by
  refine h.of_idle ?_
  unfold State.serve
  split
  · simp
  · split
    · simp
    · rename_i hon
      have halways : Request.always q = true := by simpa [h.starting] using hon
      cases q with
      | identify => simp [State.own]
      | clockSet minute day =>
        simp only [State.own, State.clockSet]
        split <;> simp
      | _ => exact absurd halways nofun

theorem State.Alone.dispatch (h : s.Alone) : s.dispatch.Alone := by
  unfold State.dispatch
  split
  · exact h
  · split
    · exact h.of_idle (State.refuse_idle _ _)
    · exact h.of_idle (State.refuse_idle _ _)
    · exact h.serve _

theorem State.Alone.offerFrame (h : s.Alone) (f : Frame) {serve : State → State} (hserve : ∀ {u : State}, u.Alone → (serve u).Alone) :
    (s.offerFrame f serve).Alone := by
  unfold State.offerFrame
  split
  · exact hserve (h.of_idle (by simp))
  · exact h.of_idle (by simp)
  · exact h.of_idle (by simp)

theorem State.Alone.hostByte (h : s.Alone) (b : Byte) : (s.hostByte b).Alone := by
  unfold State.hostByte State.frameEnds
  (repeat' split)
  case h_1 => exact (h.of_idle (State.receive_idle _ _)).offerFrame _ State.Alone.dispatch
  all_goals exact h.of_idle (by simp)

/-! ## The host link after the scan -/

theorem State.Feeds.withMachine (h : s.Feeds .off) (m : Nat) {f : MachineNo → State} (hf : ∀ k, (f k).Feeds .off) :
    (s.withMachine m f).Feeds .off := by
  unfold State.withMachine
  split
  · exact hf _
  · simp [h]

theorem State.Feeds.own (h : s.Feeds .off) (q : Request) : (s.own q).Feeds .off := by
  unfold State.own
  split
  case h_5 minute day =>
    unfold State.clockSet
    split <;> simp [h]
  case h_30 => simp [State.rulesLock, h]
  case h_7 | h_8 | h_9 | h_10 | h_11 | h_12 | h_13 => exact h.withMachine _ fun k => by simp [h]
  all_goals simp [h]

theorem State.Feeds.serve (h : s.Feeds .off) (q : Request) : (s.serve q).Feeds .off := by
  unfold State.serve
  split
  · simp [h]
  · split
    · simp [h]
    · exact h.own q

theorem State.Feeds.dispatch (h : s.Feeds .off) : s.dispatch.Feeds .off := by
  unfold State.dispatch
  split
  · exact h
  · split
    · simp [h]
    · simp [h]
    · exact h.serve _

theorem State.Feeds.offerFrame (h : s.Feeds .off) (f : Frame) {serve : State → State}
    (hserve : ∀ {u : State}, u.Feeds .off → (serve u).Feeds .off) : (s.offerFrame f serve).Feeds .off := by
  unfold State.offerFrame
  split
  · exact hserve h
  · exact h
  · exact h

theorem State.Feeds.hostByte (h : s.Feeds .off) (b : Byte) : (s.hostByte b).Feeds .off := by
  unfold State.hostByte State.frameEnds
  (repeat' split)
  case h_1 =>
    have hunt : (s.receive .hunt).Feeds .off := by simp [h]
    exact hunt.offerFrame _ State.Feeds.dispatch
  all_goals simp [h]

/-! ## Power and resets -/

/-- At its reset values the part is idle beside the scan. -/
theorem State.restart_alone (s : State) (f : Fram) : (s.restart f).Alone := by
  have hroom : ∀ r, look State.reset.feeder.rooms r = RoomFeeder.initial := fun r => Vector.getElem_replicate _
  have hlink : ∀ m, State.reset.link m = { Link.initial with slow := .expired } := fun m => Vector.getElem_replicate _
  have hmachine : ∀ m, State.reset.machine m = MachineRecord.initial := fun m => Vector.getElem_replicate _
  have hcontext : ∀ c, State.reset.context c = Context.initial := fun c => Vector.getElem_replicate _
  exact {
    starting := rfl
    line := rfl
    machines := fun m => by
      show (State.reset.link m).state = _ ∧ [.unassigned, .offline, .lockedOut, .recovering].contains (State.reset.machine m).state = true ∧
        (State.reset.machine m).recoveryWindow = false
      rw [hlink, hmachine]
      exact ⟨rfl, rfl, rfl⟩
    queue := rfl
    contexts := fun c => by
      show (State.reset.context c).request = none ∧ (State.reset.context c).stage = .free
      rw [hcontext]
      exact ⟨rfl, rfl⟩
    deferred := rfl
    order := rfl
    rooms := fun r => by
      show (look State.reset.feeder.rooms r).grants = [] ∧ (look State.reset.feeder.rooms r).newQueue = [] ∧
        (look State.reset.feeder.rooms r).resumeQueue = []
      rw [hroom]
      exact ⟨rfl, rfl, rfl⟩
    guards := fun r => by simp [State.guard, State.restart, State.resetGuards, look, RoomGuard.initial] }

theorem State.softReset_alone (s : State) : s.softReset.Alone := (s.restart_alone (s.cutFram .afterWrite)).of_idle rfl

theorem State.Fed.frameSent (h : s.Fed) : s.frameSent.Fed := by
  unfold State.frameSent
  split
  · exact h
  · split
    · exact s.softReset_alone.fed
    · have hsent : State.Fed { s with host := { s.host with sending := none } } :=
        h.keeps (f := fun u => { u with host := { u.host with sending := none } }) id fun h => h.of_idle rfl
      dsimp only
      split
      · exact hsent.keeps (f := State.nextRequest)
          (fun h => State.Feeds.dispatch (s := { s with host := { s.host with sending := none, buffer := s.host.buffer.tail } }) h)
          fun h => State.Alone.dispatch (h.of_idle rfl)
      · exact hsent

theorem State.Fed.beginSoftReset (h : s.Fed) : s.beginSoftReset.Fed := by
  unfold State.beginSoftReset
  split
  · exact s.softReset_alone.fed
  · exact h

/-! ## The scan -/

/-- The scan ends with a sound feeder, the rooms sampled and the links started (R209). -/
theorem State.endScan_feeds (h : s.feeder.Sound) (st : StartUpState) (mask : NoticeMask) : (s.endScan st mask).Feeds .off := by
  have hoff : State.Feeds .off { s with scan := { Scan.initial with at_ := .off } } := ⟨rfl, h⟩
  have hsampled := forEach_feeds (fun r u (hu : u.Feeds .off) => State.sampleRoom_feeds hu r) (indexes 4) hoff
  have hstarted := forEach_feeds (fun m u (hu : u.Feeds .off) => (State.startMachine_feeds u m).mpr hu) (indexes 64) hsampled
  unfold State.endScan
  dsimp only
  rw [State.notify_feeds, State.feeds_mk, State.feeds_fold]
  exact hstarted

theorem Feeder.initial_sound : Feeder.initial.Sound := Feeder.sound_of_empty fun r => by
  have hroom : look Feeder.initial.rooms r = RoomFeeder.initial := Vector.getElem_replicate _
  rw [hroom]
  exact ⟨rfl, rfl, rfl⟩

theorem State.scanNoStore_feeds (s : State) : s.scanNoStore.Feeds .off := State.endScan_feeds Feeder.initial_sound _ _

theorem State.Alone.scanNotConfigured (h : s.Alone) : s.scanNotConfigured.Feeds .off := State.endScan_feeds h.sound _ _

theorem State.Alone.scanComplete (h : s.Alone) : s.scanComplete.Feeds .off :=
  State.endScan_feeds (s := s.raiseCap) h.sound _ _

theorem forEach_alone {α : Type} {f : α → State → State} (hf : ∀ a u, u.Alone → (f a u).Alone) (xs : List α) {s : State} (h : s.Alone) :
    (forEach xs f s).Alone := by
  unfold forEach
  induction xs generalizing s with
  | nil => exact h
  | cons x xs ih => exact ih (hf x s h)

theorem State.Alone.loadRoom (h : s.Alone) (c : SegmentOne) (r : RoomNo) : (s.loadRoom c r).Alone := by
  have hroom : State.Alone { s with feeder := s.feeder.modRoom r fun x => { x with capacity := (look c.rooms r).capacity } } := by
    refine { h with rooms := fun k => ?_ }
    by_cases hk : r = k
    · subst hk
      simpa [Feeder.modRoom, State.look_update_self] using h.rooms r
    · simpa [Feeder.modRoom, State.look_update_other _ _ _ _ hk] using h.rooms k
  exact hroom.modGuard r _ (fun _ => rfl) (fun _ => rfl) fun _ => rfl

theorem State.Alone.loadMachine (h : s.Alone) (c : SegmentOne) (m : MachineNo) : (s.loadMachine c m).Alone :=
  h.modMachine m _ (h.machines m).2.1 (h.machines m).2.2

theorem State.Alone.loadThree (h : s.Alone) (c : SegmentThree) : (s.loadThree c).Alone :=
  { starting := h.starting, line := h.line, machines := h.machines, queue := h.queue, contexts := h.contexts, deferred := h.deferred,
    order := h.order, rooms := h.rooms, guards := h.guards }

/-- The items of segments 3 and 4 taking effect. -/
def State.loadRest (s : State) (c : ConfigBlock) : State :=
  let t := s.loadThree c.three
  { t with supervisor := { t.supervisor with enables := c.four.enables, severities := c.four.severities } }

theorem State.loadConfig_eq (s : State) (c : ConfigBlock) : s.loadConfig c =
    (forEach (indexes 64) (fun m u => u.loadMachine c.one m) (forEach (indexes 4) (fun r u => u.loadRoom c.one r)
      { s with directory := { s.directory with site := c.one.site }, tariff := c.two })).loadRest c := rfl

theorem State.Alone.loadRest (h : s.Alone) (c : ConfigBlock) : (s.loadRest c).Alone := (h.loadThree c.three).of_idle rfl

theorem State.Alone.loadConfig (h : s.Alone) (c : ConfigBlock) : (s.loadConfig c).Alone := by
  have hsite : State.Alone { s with directory := { s.directory with site := c.one.site }, tariff := c.two } := h.of_idle rfl
  have hrooms := forEach_alone (fun r u (hu : u.Alone) => hu.loadRoom c.one r) (indexes 4) hsite
  have hmachines := forEach_alone (fun m u (hu : u.Alone) => hu.loadMachine c.one m) (indexes 64) hrooms
  rw [State.loadConfig_eq]
  exact hmachines.loadRest c

theorem State.Alone.scanSegment (h : s.Alone) (r : Result) : (s.scanSegment r).Fed := by
  unfold State.scanSegment
  split
  case h_4 =>
    split
    · exact ((h.loadConfig _).of_idle (State.scanTo_idle _ _ _)).fed
    · exact h.scanNotConfigured.fed
  case h_5 => exact h.scanNotConfigured.fed
  all_goals exact (h.of_idle (by simp)).fed

theorem State.Alone.takeParts (h : s.Alone) (y : MachineNo × Slot) : (s.takeParts y).Alone := by
  unfold State.takeParts
  split
  · exact h.modMachine y.1 _ (h.machines y.1).2.1 (h.machines y.1).2.2
  · exact h

theorem State.Alone.detach (h : s.Alone) (slots : List (MachineNo × Slot)) : (s.detach slots).Alone :=
  forEach_alone (fun y _ hu => hu.takeParts y) slots (h.of_idle (State.modScan_idle _ _))

theorem State.Alone.scanSlotWrites (h : s.Alone) : s.scanSlotWrites.Fed := by
  unfold State.scanSlotWrites
  split
  · exact h.scanComplete.fed
  · dsimp only
    split <;> exact (h.of_idle (by simp)).fed

theorem State.Alone.scanAfterAccount (h : s.Alone) (a : AccountNo) : (s.scanAfterAccount a).Fed := by
  unfold State.scanAfterAccount
  split
  · exact (h.of_idle (State.scanTo_idle _ _ _)).fed
  · exact h.scanSlotWrites

theorem State.Alone.scanAccount (h : s.Alone) (a : AccountNo) (r : Result) : (s.scanAccount a r).Fed := by
  unfold State.scanAccount
  split
  · dsimp only
    split
    · exact h.scanAfterAccount a
    · split
      · exact (h.of_idle (State.scanTo_idle _ _ _)).fed
      · exact ((h.detach _).of_idle (State.scanTo_idle _ _ _)).fed
  · exact (h.of_idle (State.foundDamaged_idle _ _)).scanAfterAccount a

theorem State.Alone.scanSlotFrom (h : s.Alone) (k : Nat) : (s.scanSlotFrom k).Alone := by
  unfold State.scanSlotFrom
  split <;> exact h.of_idle (State.scanTo_idle _ _ _)

theorem State.Alone.judgeSlot (h : s.Alone) (m : MachineNo) (x : Slot) : (s.judgeSlot m x).Alone := by
  have hwindow := (h.machines m).2.2
  unfold State.judgeSlot
  split
  · exact h.modMachine m _ rfl hwindow
  · exact (h.modMachine m _ rfl hwindow).of_idle (State.restoreLockout_idle _ _)
  · have hfound (c : SlotCopy) (after : AfterSettle) : (s.modMachine m fun r =>
        { r with state := .recovering, session := some (rebuilt c s.clock), afterSettle := after }).Alone := h.modMachine m _ rfl hwindow
    have hcounted (c : SlotCopy) (after : AfterSettle) (n : Nat) (f : Scan → Scan) : (State.modScan { s.modMachine m fun r =>
        { r with state := .recovering, session := some (rebuilt c s.clock), afterSettle := after } with
          engine := { (s.modMachine m fun r => { r with state := .recovering, session := some (rebuilt c s.clock), afterSettle := after }).engine
            with idCounter := n } } f).Alone := (hfound c after).of_idle rfl
    dsimp only
    split
    · exact (hcounted _ _ _ _).of_idle (State.restoreLockout_idle _ _)
    · exact hcounted _ _ _ _

theorem State.Alone.scanSlot (h : s.Alone) (m : MachineNo) (r : Result) : (s.scanSlot m r).Alone := by
  unfold State.scanSlot
  split
  · exact (h.judgeSlot m _).scanSlotFrom _
  · exact h.of_idle (State.scanTo_idle _ _ _)

theorem State.Alone.scanSlotRepaired (h : s.Alone) (m : MachineNo) : (s.scanSlotRepaired m).Alone :=
  ((h.modMachine m (fun r => { r with state := .lockedOut, lockout := some .restoredLockout }) rfl (h.machines m).2.2).of_idle
    (by simp)).scanSlotFrom _

theorem State.Alone.scanPages (h : s.Alone) (ps : List ScanPage) : (s.scanPages ps).Alone := by
  unfold State.scanPages
  split
  · exact (h.of_idle (by simp [State.buildPools])).scanSlotFrom 0
  · split <;> exact h.of_idle (State.scanTo_idle _ _ _)

theorem State.Alone.scanPage (h : s.Alone) (p : ScanPage) (rest : List ScanPage) (r : Result) : (s.scanPage p rest r).Alone := by
  unfold State.scanPage
  split
  · exact (h.of_idle (State.modScan_idle _ _)).scanPages _
  · exact (h.of_idle (by simp)).scanPages _
  · exact h.of_idle (State.scanTo_idle _ _ _)

theorem State.Alone.scanFloors (h : s.Alone) (r : Result) : (s.scanFloors r).Alone := by
  unfold State.scanFloors
  split
  · exact h.scanPages _
  · exact h.of_idle (State.scanTo_idle _ _ _)

theorem State.Alone.repaired (h : s.Alone) (ref : Reference) : (s.repaired ref).Alone := h.of_idle (State.reportPart_idle _ _ _)

/-- A transaction of the scan completes: the scan goes on alone, or has ended. -/
theorem State.Alone.scanDone (h : s.Alone) (r : Result) : (s.scanDone r).Fed := by
  unfold State.scanDone
  split
  · exact h.fed
  · exact h.scanSegment r
  · exact (h.scanFloors r).fed
  · exact ((h.repaired _).scanPages _).fed
  · exact (h.scanPage _ _ r).fed
  · exact ((h.repaired _).scanPages _).fed
  · exact (h.scanSlot _ r).fed
  · exact (h.scanSlotRepaired _).fed
  · exact h.scanAccount _ r
  · exact (h.repaired _).scanAfterAccount _
  · exact h.scanSlotWrites

/-! ## The store port's events -/

theorem State.carry_feeds (h : s.Feeds .off) (x : Transaction) (rest : List Transaction) : (s.carry x rest).2.Feeds .off := h

theorem State.Fed.contextEvent (h : s.Fed) (due : Stage → Bool) (hfree : due .free = false) : (s.contextEvent due).Fed := by
  unfold State.contextEvent
  split
  · rename_i c a rest _
    split
    · rename_i hdue
      rcases h.cases with h | h
      · have hrun : ((s.carry ⟨.context c, a⟩ rest).2.contextDone c (s.carry ⟨.context c, a⟩ rest).1).run.Feeds .off :=
          (State.carry_feeds h ⟨.context c, a⟩ rest).of_apart (by simp)
        exact hrun.fed
      · rw [(h.contexts c).2, hfree, Bool.and_false] at hdue
        exact absurd hdue nofun
    · exact h
  · exact h

theorem State.Fed.ownEvent (h : s.Fed) (due : Issuer → Bool) {f : Issuer → Result → State → State}
    (hoff : ∀ i r u, u.Feeds .off → (f i r u).Feeds .off) (hon : ∀ i r u, u.Alone → (f i r u).Fed) : (s.ownEvent due f).Fed := by
  unfold State.ownEvent
  split
  · split
    · rcases h.cases with h | h
      · exact (hoff _ _ _ (State.carry_feeds h _ _)).fed
      · exact hon _ _ _ (h.of_idle (State.carry_idle _ _ _))
    · exact h
  · exact h

theorem State.Fed.refreshDone (h : s.Fed) : s.refreshDone.Fed := by
  refine h.ownEvent _ (fun i r u hu => ?_) fun i r u hu => ?_
  · split
    · simp [hu]
    · exact hu
  · split
    · exact (hu.of_idle (State.reportPart_idle _ _ _)).fed
    · exact hu.fed

theorem State.Fed.scanTransaction (h : s.Fed) : s.scanTransaction.Fed :=
  h.ownEvent _ (fun _ r u hu => by unfold State.scanDone; rw [hu.1]; exact hu) fun _ r u hu => hu.scanDone r

theorem State.Fed.storeFails (h : s.Fed) : s.storeFails.Fed := by
  unfold State.storeFails
  split
  · exact h
  · split
    · split
      · exact s.scanNoStore_feeds.fed
      · exact h.keeps (f := State.storeDown) (fun h => h.of_apart (by simp)) State.Alone.storeDown
    · exact h

theorem State.Alone.offerDeferred (h : s.Alone) : s.offerDeferred = s := by
  have hone : s.offerOne = s := by
    unfold State.offerOne
    rw [h.deferred]
    simp
  unfold State.offerDeferred
  split
  · generalize Config.deferredWaiting = n
    induction n with
    | zero => rfl
    | succ n ih => rw [State.offers, hone, ih]
  · rfl

theorem State.Alone.storeReturns (h : s.Alone) : s.storeReturns.Alone := by
  have hup : (State.notify { s with store := { s.store with state := .up } } (.store .up s.store.deferred.length)).Alone :=
    h.of_idle (by simp)
  unfold State.storeReturns
  exact hup.offerDeferred.symm ▸ hup

theorem State.Alone.probeDone (h : s.Alone) (valid : Bool) : (s.probeDone valid).Alone := by
  unfold State.probeDone
  split
  · split
    · dsimp only
      split
      · exact (h.of_idle (State.withQueue_idle _ _)).storeReturns
      · exact h.of_idle (by simp [State.withQueue])
    · exact h
  · exact h

/-! ## The other events while the scan runs -/

theorem State.Alone.state_ne (h : s.Alone) {st : MachineState}
    (hst : [.unassigned, .offline, .lockedOut, .recovering].contains st = false) : (s.machine m).state ≠ st := fun heq => by
  have hin := (h.machines m).2.1
  rw [heq, hst] at hin
  exact absurd hin nofun

theorem State.Alone.minuteExpiry (h : s.Alone) (m : MachineNo) : s.minuteExpiry m = s := by
  have hrunning : (s.machine m).state ≠ .running := h.state_ne rfl
  have hdelayed : (s.machine m).state ≠ .delayed := h.state_ne rfl
  unfold State.minuteExpiry
  split
  · split
    · contradiction
    · contradiction
    · rfl
  · rfl

theorem State.Alone.armExpiry (h : s.Alone) (m : MachineNo) : s.armExpiry m = s := by
  have harmed : (s.machine m).state ≠ .armed := h.state_ne rfl
  exact if_neg fun hdue => harmed hdue.1

theorem State.Alone.graceExpiry (h : s.Alone) (m : MachineNo) : s.graceExpiry m = s := by
  have hstranded : (s.machine m).state ≠ .stranded := h.state_ne rfl
  unfold State.graceExpiry
  split
  · contradiction
  · rfl

theorem State.Alone.recoveryExpiry (h : s.Alone) (m : MachineNo) : s.recoveryExpiry m = s :=
  if_neg fun hdue => by
    rw [(h.machines m).2.2] at hdue
    exact absurd hdue.2 nofun

theorem State.Alone.lostExpiry (h : s.Alone) (m : MachineNo) : s.lostExpiry m = s :=
  if_neg fun hdue => by
    rw [(h.machines m).1] at hdue
    exact absurd hdue.1 nofun

theorem State.Alone.findHanded {α : Type} (h : s.Alone) (f : PayRequest → Handed → Option α) : s.findHanded f = none :=
  List.findSome?_eq_none_iff.mpr fun c _ => by simp [State.handedTo, (h.contexts c).1]

theorem State.Alone.takeAuthorise (h : s.Alone) (m : MachineNo) : s.takeAuthorise m = s := by simp [State.takeAuthorise, h.findHanded]

theorem State.Alone.takeExtend (h : s.Alone) (m : MachineNo) : s.takeExtend m = s := by simp [State.takeExtend, h.findHanded]

theorem State.Alone.takeSettled (h : s.Alone) (m : MachineNo) : s.takeSettled m = s := by simp [State.takeSettled, h.findHanded]

theorem State.Alone.takeReleased (h : s.Alone) (m : MachineNo) : s.takeReleased m = s := by simp [State.takeReleased, h.findHanded]

theorem State.Alone.nodeReply (h : s.Alone) (r : NodeReply) : s.nodeReply r = s := by simp [State.nodeReply, h.line]

theorem State.Alone.replyTimeout (h : s.Alone) : s.replyTimeout = s := by simp [State.replyTimeout, h.line]

theorem State.Alone.gapExpiry (h : s.Alone) : s.gapExpiry.Alone := h.of_idle (by simp [State.gapExpiry_eq])

theorem State.Alone.sweepStep (h : s.Alone) : s.sweepStep.Alone := h.of_idle (by simp [State.sweepStep])

theorem State.Alone.takeRequest (h : s.Alone) : s.takeRequest = s := by
  unfold State.takeRequest
  rw [h.queue]
  split <;> trivial

theorem State.Alone.cacheLookup (h : s.Alone) : s.cacheLookup = s := by
  unfold State.cacheLookup State.carryLookup
  split
  · split
    · rfl
    · rw [(h.contexts _).1]
      rfl
  · rfl

theorem State.Alone.feeder (h : s.Alone) {f : Feeder} (horder : f.order = s.feeder.order) (hrooms : f.rooms = s.feeder.rooms) :
    State.Alone { s with feeder := f } :=
  { starting := h.starting, line := h.line, machines := h.machines, queue := h.queue, contexts := h.contexts, deferred := h.deferred,
    order := horder.trans h.order, rooms := fun r => by rw [hrooms]; exact h.rooms r, guards := h.guards }

theorem State.Alone.demandExpiry (h : s.Alone) : s.demandExpiry.Alone := by
  cases hd : s.feeder.demand with
  | none =>
    unfold State.demandExpiry
    rw [hd]
    exact h
  | some d =>
    have hended : State.Alone { s with feeder := { s.feeder with demand := none } } := h.feeder rfl rfl
    have hnotified := hended.of_idle (State.notify_idle _ (.demandEnd .expired { s.feeder with demand := none }.effectiveLimit))
    have hjudged (u : State) (hu : u.Alone) : u.runPass.1.judgeBacklog.Alone := by
      rw [u.runPass_eq, Feeder.pass_of_drained hu.sound.2.2, State.judgeBacklog_eq, Feeder.judged_eq]
      exact (hu.feeder (f := { u.feeder with backlog := u.feeder.judged.1.backlog }) rfl rfl).of_idle (by simp [forEach])
    unfold State.demandExpiry
    rw [hd]
    exact hjudged _ hnotified

theorem State.Alone.leakInput (h : s.Alone) (r : RoomNo) (high : Bool) : (s.leakInput r high).Alone := by
  unfold State.leakInput
  dsimp only
  split
  · exact h
  · rw [if_pos h.starting]
    exact h.modGuard r _ (fun _ => rfl) (fun _ => rfl) fun _ => rfl

theorem State.Alone.debounceExpiry (h : s.Alone) (r : RoomNo) : s.debounceExpiry r = s := by
  unfold State.debounceExpiry
  rw [if_neg]
  rw [(h.guards r).2.1]
  exact nofun

/-! ## Every event -/

theorem State.Fed.setInput (h : s.Fed) (r : RoomNo) (high : Bool) : (s.setInput r high).Fed :=
  h.keeps (f := fun u => u.setInput r high) (fun h => by simp [h]) fun h => h.modGuard r _ (fun _ => rfl) (fun _ => rfl) fun _ => rfl

theorem State.Alone.keep {f : State → State} (h : s.Alone) (hf : f s = s) : (f s).Alone := hf.symm ▸ h

/-- Every event of a powered part keeps the feeder sound, and while the scan runs all else idle. -/
theorem State.Fed.effect (h : s.Fed) (c : Instr) : (effect c s).Fed := by
  cases c
  case powerOnReset => exact h
  case powerLoss => exact h
  case softReset => exact h.beginSoftReset
  case hostFrameSent => exact h.frameSent
  case walkReadDone | accountReadDone | accountWriteDone | slotReadDone | slotWriteDone | directoryStoreWriteDone =>
    exact h.contextEvent _ rfl
  case dayUpdateDone => exact h.ownEvent _ (fun _ _ _ hu => hu) fun _ _ _ hu => hu.fed
  case slotRefreshDone => exact h.refreshDone
  case configSegmentWriteDone =>
    exact h.ownEvent _ (fun _ _ _ hu => hu.of_apart (by simp)) fun _ _ _ hu => (hu.of_idle (State.segmentDone_idle _)).fed
  case scanTransactionDone => exact h.scanTransaction
  case storeFailure => exact h.storeFails
  case hostByteReceived b => exact h.keeps (fun h => h.hostByte b) fun h => h.hostByte b
  case gapTimerExpiry => exact h.keeps (fun h => (State.gapExpiry_feeds s).mpr h) fun h => h.gapExpiry
  case nodeReply r => exact h.keeps (fun h => State.nodeReply_feeds h r) fun h => h.keep (h.nodeReply r)
  case replyTimeout => exact h.keeps (fun h => (State.replyTimeout_feeds s).mpr h) fun h => h.keep h.replyTimeout
  case slowTimerExpiry m =>
    exact h.keeps (f := fun u => u.modLink m Link.slowExpires) (fun h => by simp [h])
      fun h => h.modLink m _ fun l => by unfold Link.slowExpires; split <;> rfl
  case lostTimerExpiry m => exact h.keeps (fun h => State.lostExpiry_feeds h m) fun h => h.keep (h.lostExpiry m)
  case armTimerExpiry m => exact h.keeps (fun h => State.armExpiry_feeds h m) fun h => h.keep (h.armExpiry m)
  case minuteTimerExpiry m => exact h.keeps (fun h => State.minuteExpiry_feeds h m) fun h => h.keep (h.minuteExpiry m)
  case graceTimerExpiry m => exact h.keeps (fun h => State.graceExpiry_feeds h m) fun h => h.keep (h.graceExpiry m)
  case recoveryWindowExpiry m => exact h.keeps (fun h => State.recoveryExpiry_feeds h m) fun h => h.keep (h.recoveryExpiry m)
  case authoriseResult m =>
    exact h.keeps (fun h => State.takeAuthorise_feeds h m) fun h => h.keep (h.takeAuthorise m)
  case extendResult m =>
    exact h.keeps (fun h => State.takeExtend_feeds h m) fun h => h.keep (h.takeExtend m)
  case settleComplete m =>
    exact h.keeps (fun h => State.takeSettled_feeds h m) fun h => h.keep (h.takeSettled m)
  case partReleaseComplete m =>
    exact h.keeps (fun h => State.takeReleased_feeds h m) fun h => h.keep (h.takeReleased m)
  case contextTakeRequest => exact h.keeps (f := State.takeRequest) (fun h => h.of_apart (by simp)) fun h => h.keep h.takeRequest
  case cacheLookup => exact h.keeps (fun h => State.cacheLookup_feeds h) fun h => h.keep h.cacheLookup
  case sweepStep => exact h.keeps (fun h => (State.sweepStep_feeds s).mpr h) fun h => h.sweepStep
  case demandTimerExpiry => exact h.keeps (fun h => State.demandExpiry_feeds h) State.Alone.demandExpiry
  case leakInputChange r high => exact h.keeps (fun h => (State.leakInput_feeds s r high).mpr h) fun h => h.leakInput r high
  case debounceExpiry r => exact h.keeps (fun h => State.debounceExpiry_feeds h r) fun h => h.keep (h.debounceExpiry r)
  case probeTimerExpiry =>
    exact h.keeps (f := State.probeExpiry) (fun h => (State.probeExpiry_feeds s).mpr h) fun h => h.of_idle (by simp [State.probeExpiry])
  case probeComplete valid => exact h.keeps (fun h => State.probeDone_feeds h valid) fun h => h.probeDone valid
  case timebaseMinute => exact h.keeps (f := State.minutePasses) id fun h => h.of_idle rfl
  all_goals exact h.keeps (f := fun u => u.request _ _) (fun h => h.offerFrame _ fun hu => hu.serve _) fun h => h.offerFrame _ fun hu => hu.serve _

/-! ## The obligation -/

theorem State.fed_iff : s.Fed ↔ s.feeder.Bounded ∧ s.feeder.Consistent ∧ s.feeder.Drained ∧ s.ScanAlone := by
  rw [State.scanAlone_iff]
  exact ⟨fun ⟨⟨hb, hc, hd⟩, h⟩ => ⟨hb, hc, hd, h⟩, fun ⟨hb, hc, hd, h⟩ => ⟨⟨hb, hc, hd⟩, h⟩⟩

/-- Settles O39: a pass by induction over its grants; a step by what each event does after the scan, where every operation keeps the
feeder sound, and while the scan runs, where every list of the feeder is empty. -/
theorem feederBoundsAreKept : Obligations.FeederBoundsAreKept := by
  refine ⟨fun f => ⟨Feeder.pass_of_drained, fun r q c hbefore hgrants => Feeder.pass_of_grant hbefore hgrants, Feeder.pass_drained f,
    Feeder.pass_bounded, Feeder.pass_order f, Feeder.pass_waiting f, Feeder.pass_prefix f⟩, ?_⟩
  intro s t hb hc hd ha hstep
  refine State.fed_iff.mp (step_keeps (P := State.Fed) ?queue (State.fed_iff.mpr ⟨hb, hc, hd, ha⟩) hstep ?pin ?on ?off ?event)
  case queue => exact fun u l hu => hu.keeps (f := fun u => { u with pending := l }) id fun h => h.of_idle rfl
  case pin => exact fun u r high hu => hu.setInput r high
  case on => exact fun u _ => (u.restart_alone _).fed.conclude
  case off => exact fun u cut _ => State.Alone.fed ((u.restart_alone (u.cutFram cut)).of_idle (t := u.losePower cut) rfl)
  case event => exact fun c u hu _ => (hu.effect c).conclude

end Sys2Proof.Machine
end

section
/-! SUPPORT. Machines whose node has been sent the lamp their record calls for: what recomputes a lamp brings it about, and what the
session engine does at one machine keeps it at the others (R43, R45). -/
namespace Sys2Proof.Machine

/-- The lamp last sent to machine `k` is the one its record calls for, or none can be sent: recomputing it queues nothing (R45). -/
def State.Lit (s : State) (k : MachineNo) : Prop := s.newLamp k (s.guard (s.machine k).room).closed = none

theorem lampQueued_shown (k : LampMap) (closed : Bool) (r : MachineRecord) {l l' : Link} (h : l'.state = l.state) :
    lampQueued k closed (r.shown (lampQueued k closed r l)) l' = none := by
  have hsource (new : Option Lamp) : lampSource (r.shown new) closed = lampSource r closed := rfl
  unfold lampQueued
  rw [hsource, h]
  cases lampSource r closed with
  | none => rfl
  | some x =>
    by_cases hx : l.state = .disabled ∨ lampFor k x = r.lampSent
    · simp only [if_pos hx]
      exact if_pos hx
    · simp only [if_neg hx]
      exact if_pos (.inr rfl)

/-- A machine that has just been shown the lamp its record calls for. -/
theorem State.lit_placed (s : State) (m : MachineNo) (r : MachineRecord) {l l' : Link} (h : l'.state = l.state) :
    (s.placed m (r.shown (lampQueued s.lamps (s.guard r.room).closed r l)) l').Lit m := by
  unfold State.Lit
  rw [State.newLamp_eq, State.placed_machine, State.placed_link]
  exact lampQueued_shown _ _ r h

theorem State.lit_relamp (s : State) (m : MachineNo) : (s.relamp m).Lit m := by
  rw [s.relamp_eq]
  exact s.lit_placed m (s.machine m) (l := s.link m) rfl

/-- Lamps and closures are as before, and machines other than `m` that were lit are. -/
structure State.KeepsLit (s t : State) (m : MachineNo) : Prop where
  lamps : t.lamps = s.lamps
  closed : ∀ r, (t.guard r).closed = (s.guard r).closed
  lit : ∀ k, k ≠ m → s.Lit k → t.Lit k

section
variable {s t u : State} {m : MachineNo}

theorem State.KeepsLit.refl (s : State) (m : MachineNo) : s.KeepsLit s m := ⟨rfl, fun _ => rfl, fun _ _ h => h⟩

theorem State.KeepsLit.trans (h : s.KeepsLit t m) (h' : t.KeepsLit u m) : s.KeepsLit u m :=
  ⟨h'.lamps.trans h.lamps, fun r => (h'.closed r).trans (h.closed r), fun k hk hl => h'.lit k hk (h.lit k hk hl)⟩

theorem State.Lit.congr {k : MachineNo} (h : s.Lit k) (hm : t.machine k = s.machine k) (hl : t.link k = s.link k)
    (hlamps : t.lamps = s.lamps) (hclosed : ∀ r, (t.guard r).closed = (s.guard r).closed) : t.Lit k := by
  unfold State.Lit State.newLamp at h ⊢
  rw [hm, hl, hlamps, hclosed]
  exact h

theorem State.KeepsLit.of_same (hm : ∀ k, k ≠ m → t.machine k = s.machine k) (hl : ∀ k, k ≠ m → t.link k = s.link k)
    (hlamps : t.lamps = s.lamps) (hclosed : ∀ r, (t.guard r).closed = (s.guard r).closed) : s.KeepsLit t m :=
  ⟨hlamps, hclosed, fun k hk h => h.congr (hm k hk) (hl k hk) hlamps hclosed⟩

theorem State.keepsLit_placed (s : State) (m : MachineNo) (r : MachineRecord) (l : Link) : s.KeepsLit (s.placed m r l) m :=
  .of_same (fun _ hk => s.placed_machine_other m r l hk) (fun _ hk => s.placed_link_other m r l hk) rfl fun _ => rfl

theorem State.keepsLit_modMachine (s : State) (m : MachineNo) (f : MachineRecord → MachineRecord) : s.KeepsLit (s.modMachine m f) m := by
  rw [s.modMachine_eq]
  exact s.keepsLit_placed m _ _

theorem State.keepsLit_modLink (s : State) (m : MachineNo) (f : Link → Link) : s.KeepsLit (s.modLink m f) m := by
  rw [s.modLink_eq]
  exact s.keepsLit_placed m _ _

theorem State.keepsLit_send (s : State) (m : MachineNo) (c : NodeCommand) : s.KeepsLit (s.send m c) m := by
  rw [s.send_eq]
  exact s.keepsLit_placed m _ _

theorem State.keepsLit_relamp (s : State) (m : MachineNo) : s.KeepsLit (s.relamp m) m := by
  rw [s.relamp_eq]
  exact s.keepsLit_placed m _ _

theorem State.endRecovering_same (s : State) : ∃ g a, s.endRecovering = { s with startUp := g, host := a } := by
  unfold State.endRecovering
  split
  · exact ⟨_, _, rfl⟩
  · exact ⟨_, _, rfl⟩

theorem State.keepsLit_endRecovering (s : State) (m : MachineNo) : s.KeepsLit s.endRecovering m := by
  obtain ⟨g, a, h⟩ := s.endRecovering_same
  rw [h]
  exact .of_same (fun _ _ => rfl) (fun _ _ => rfl) rfl fun _ => rfl

theorem State.keepsLit_enter (s : State) (m : MachineNo) (st : MachineState) : s.KeepsLit (s.enter m st) m :=
  ((s.keepsLit_modMachine m _).trans (State.keepsLit_relamp _ m)).trans (State.keepsLit_endRecovering _ m)

theorem State.lit_enter (s : State) (m : MachineNo) (st : MachineState) : (s.enter m st).Lit m := by
  unfold State.enter
  obtain ⟨g, a, h⟩ := ((s.modMachine m fun r => { r with state := st }).relamp m).endRecovering_same
  rw [h]
  exact (State.lit_relamp _ m).congr rfl rfl rfl fun _ => rfl

theorem State.keepsLit_setHeat (s : State) (m : MachineNo) (h : HeatState) : s.KeepsLit (s.setHeat m h) m :=
  (s.keepsLit_modMachine m _).trans (State.keepsLit_relamp _ m)

/-- A machine told a heat state is lit, and the others stay so. -/
theorem State.keepsLit_tell (s : State) (m k : MachineNo) (h : HeatState) (c : Nat → HeatCommand) : s.KeepsLit (s.tell h c k) m := by
  cases hx : (s.machine k).session with
  | none =>
    rw [State.tell_none hx]
    exact State.KeepsLit.refl s m
  | some x =>
    rw [State.tell_some hx]
    refine ⟨rfl, fun _ => rfl, fun i _ hl => ?_⟩
    by_cases hi : i = k
    · subst hi
      exact s.lit_placed i ((s.machine i).heated h) (l := s.link i) (Link.sent_state _ _)
    · exact (State.keepsLit_placed s k _ _).lit i hi hl

theorem State.keepsLit_enqueue (s : State) (m : MachineNo) (q : PayRequest) : s.KeepsLit (s.enqueue q) m :=
  .of_same (fun _ _ => rfl) (fun _ _ => rfl) rfl fun _ => rfl

theorem State.keepsLit_notify (s : State) (m : MachineNo) (n : Notice) : s.KeepsLit (s.notify n) m :=
  .of_same (fun _ _ => rfl) (fun _ _ => rfl) rfl fun _ => rfl

theorem State.keepsLit_markLockout (s : State) (m k : MachineNo) : s.KeepsLit (s.markLockout k) m :=
  .of_same (fun _ _ => rfl) (fun _ _ => rfl) rfl fun _ => rfl

theorem State.forEach_keepsLit {α : Type} {f : α → State → State} (hf : ∀ a (s : State), s.KeepsLit (f a s) m) (as : List α) (s : State) :
    s.KeepsLit (forEach as f s) m := by
  induction as generalizing s with
  | nil => exact State.KeepsLit.refl s m
  | cons a as ih => exact (hf a s).trans (ih _)

theorem State.keepsLit_releaseHeat (s : State) (m k : MachineNo) : s.KeepsLit (s.releaseHeat k) m := by
  unfold State.releaseHeat
  rw [State.judgeBacklog_eq, State.dropClaim_eq]
  have hfirst : s.KeepsLit ({ s with feeder := (s.feeder.released k).1 } : State) m :=
    .of_same (fun _ _ => rfl) (fun _ _ => rfl) rfl fun _ => rfl
  refine (hfirst.trans (State.forEach_keepsLit (fun a u => u.keepsLit_tell m a .granted .grant) (s.feeder.released k).2 _)).trans ?_
  exact .of_same (fun _ _ => rfl) (fun _ _ => rfl) rfl fun _ => rfl

theorem State.keepsLit_endCommands (s : State) (m : MachineNo) (was : MachineState) (cause : EndCause) (id : Nat) :
    s.KeepsLit (s.endCommands m was cause id) m := by
  unfold State.endCommands
  split
  · exact (s.keepsLit_modLink m _).trans (State.keepsLit_send _ m _)
  · exact s.keepsLit_modLink m _

theorem State.keepsLit_placeSettle (s : State) (m : MachineNo) (e : Nat) : s.KeepsLit (s.placeSettle m e) m := by
  unfold State.placeSettle
  split
  · exact State.KeepsLit.refl s m
  · split
    · exact State.KeepsLit.refl s m
    · exact (s.keepsLit_modMachine m _).trans (State.keepsLit_enqueue _ m _)

/-- The stopped session id taken, or not, and SETTLE placed, or not (R6). -/
theorem State.keepsLit_settles (s : State) (m : MachineNo) (early places : Bool) (id e : Nat) :
    s.KeepsLit (let t := if early then s.modMachine m fun r => { r with stoppedId := id } else s
      if places then t.placeSettle m e else t) m := by
  have hstops : s.KeepsLit (if early then s.modMachine m fun r => { r with stoppedId := id } else s) m := by
    cases early
    · exact State.KeepsLit.refl s m
    · exact s.keepsLit_modMachine m _
  cases places
  · exact hstops
  · exact hstops.trans (State.keepsLit_placeSettle _ m e)

theorem State.keepsLit_endSession (s : State) (m : MachineNo) (cause : EndCause) (after : AfterSettle) :
    s.KeepsLit (s.endSession m cause after) m := by
  unfold State.endSession State.endSessionWith
  cases s.session m with
  | none => exact State.KeepsLit.refl s m
  | some x =>
    have hended := ((((s.keepsLit_modMachine m fun r => r.ended cause after).trans (State.keepsLit_releaseHeat _ m m)).trans
      (State.keepsLit_setHeat _ m .none)).trans (State.keepsLit_enter _ m .settling)).trans
        (State.keepsLit_endCommands _ m (s.machine m).state cause x.id)
    have hsettles := State.keepsLit_settles (((((s.modMachine m fun r => r.ended cause after).releaseHeat m).setHeat m .none).enter m
      .settling).endCommands m (s.machine m).state cause x.id) m (endsBeforeStart (s.machine m).state)
      (decide (x.parts ≠ [] ∧ (s.machine m).outstanding = .none)) x.id x.elapsed
    simp only [decide_eq_true_eq] at hsettles
    exact hended.trans hsettles

theorem State.keepsLit_writeCharge (s : State) (m k : MachineNo) (total : Nat) : s.KeepsLit (s.writeCharge k total) m := by
  unfold State.writeCharge
  split
  · exact State.KeepsLit.refl s m
  · exact .of_same (fun _ _ => rfl) (fun _ _ => rfl) rfl fun _ => rfl

theorem State.keepsLit_enterAfter (s : State) (m : MachineNo) (slotCode : Option (Option FaultCode)) :
    s.KeepsLit (s.enterAfter m slotCode) m := by
  have hlocked (code : FaultCode) : s.KeepsLit (s.enterLockedOut m code) m :=
    ((s.keepsLit_modMachine m _).trans (State.keepsLit_enter _ m _)).trans (State.keepsLit_send _ m _)
  unfold State.enterAfter
  split
  · dsimp only
    split
    · exact hlocked _
    · exact (hlocked _).trans (State.keepsLit_markLockout _ m m)
  · unfold State.enterOffline
    dsimp only
    split
    · exact (s.keepsLit_enter m _).trans (State.keepsLit_enter _ m _)
    · exact s.keepsLit_enter m _
  · exact s.keepsLit_enter m _
  · dsimp only
    split
    · exact ((s.keepsLit_enter m _).trans (State.keepsLit_modMachine _ m _)).trans (State.keepsLit_enter _ m _)
    · exact s.keepsLit_enter m _

theorem State.keepsLit_completeIfEmpty (s : State) (m : MachineNo) : s.KeepsLit (s.completeIfEmpty m) m := by
  unfold State.completeIfEmpty
  cases s.session m with
  | none => exact State.KeepsLit.refl s m
  | some x =>
    dsimp only
    split
    · unfold State.completeSettlement
      cases s.session m with
      | none => exact State.KeepsLit.refl s m
      | some x =>
        exact (((s.keepsLit_modMachine m _).trans (State.keepsLit_notify _ m _)).trans (State.keepsLit_writeCharge _ m m _)).trans
          ((State.keepsLit_modMachine _ m _).trans (State.keepsLit_enterAfter _ m _))
    · exact State.KeepsLit.refl s m

/-- A completion towards DONE leaves its machine lit, and one that is not due leaves it as it was. -/
theorem State.lit_completeIfEmpty (h : s.Lit m)
    (hdone : ∀ x, (s.machine m).session = some x → (s.machine m).state = .settling → x.parts = [] → (s.machine m).afterSettle = .done) :
    (s.completeIfEmpty m).Lit m := by
  have hafter (u : State) (hu : (u.machine m).afterSettle = .done) : (u.enterAfter m none).Lit m := by
    unfold State.enterAfter
    rw [hu]
    dsimp only
    split
    · exact State.lit_enter _ m _
    · exact State.lit_enter _ m _
  unfold State.completeIfEmpty
  cases hx : s.session m with
  | none => exact h
  | some x =>
    dsimp only
    split
    · next hdue =>
      unfold State.completeSettlement
      rw [hx]
      refine hafter _ ?_
      rw [State.modMachine_eq, State.placed_machine]
      have hcharged (u : State) (n : Notice) : ((u.notify n).writeCharge m (totalCharge [])).machine m = u.machine m := by
        unfold State.writeCharge
        split <;> rfl
      show (State.machine _ m).afterSettle = .done
      rw [hcharged, State.modMachine_eq, State.placed_machine]
      exact hdone x hx hdue.1 hdue.2
    · exact h

theorem State.keepsLit_leakOrder (s : State) (m : MachineNo) : s.KeepsLit (s.leakOrder m) m := by
  unfold State.leakOrder
  split
  · exact s.keepsLit_modMachine m _
  · unfold State.stopOrder
    cases (s.machine m).state
    case armed | delayed | running | stranded => exact s.keepsLit_endSession m _ _
    all_goals exact State.KeepsLit.refl s m

end

end Sys2Proof.Machine
end

section
/-! SUPPORT. A leak onset at the washers of a room: several machines changed one after the other, each leaving the others all but heat
and lamps (8.5). -/
namespace Sys2Proof.Machine

/-! ## Records and links that differ in heat and lamps -/

theorem MachineRecord.eq_of_butHeat {r q : MachineRecord} (h : r.butHeat = q.butHeat) :
    q = { r with lampSent := q.lampSent, session := q.session } := by
  have hq := congrArg (fun x : MachineRecord => ({ x with lampSent := q.lampSent, session := q.session } : MachineRecord)) h
  exact hq.symm

theorem MachineRecord.sessions_of_butHeat {r q : MachineRecord} (h : r.butHeat = q.butHeat) :
    (r.session = none ∧ q.session = none) ∨ ∃ x k, r.session = some x ∧ q.session = some { x with heat := k } := by
  have hs := MachineRecord.session_of_butHeat h
  cases hr : r.session with
  | none =>
    rw [hr, Option.map_none] at hs
    exact .inl ⟨rfl, Option.map_eq_none_iff.mp hs.symm⟩
  | some x =>
    rw [hr, Option.map_some] at hs
    obtain ⟨y, hy, hxy⟩ := Option.map_eq_some_iff.mp hs.symm
    refine .inr ⟨x, y.heat, rfl, hy.trans (congrArg some ?_)⟩
    exact (congrArg (fun z : Session => ({ z with heat := y.heat } : Session)) hxy :)

theorem MachineRecord.butHeat_lamped (r : MachineRecord) (a : Lamp) : (r.lamped a).butHeat = r.butHeat := rfl

theorem MachineRecord.state_of_butHeat {r q : MachineRecord} (h : r.butHeat = q.butHeat) : q.state = r.state :=
  (congrArg MachineRecord.state h :).symm

/-- With the same heat state too, records differ in their lamp alone. -/
theorem MachineRecord.lamped_of_butHeat {r q : MachineRecord} (h : r.butHeat = q.butHeat)
    (hheat : q.session.map Session.heat = r.session.map Session.heat) : ∃ a, q = r.lamped a := by
  have hsession : q.session = r.session := by
    rcases MachineRecord.sessions_of_butHeat h with ⟨hr, hq⟩ | ⟨x, k, hr, hq⟩
    · rw [hr, hq]
    · rw [hr, hq] at hheat ⊢
      have hk : k = x.heat := Option.some.inj hheat
      rw [hk]
  refine ⟨q.lampSent, (MachineRecord.eq_of_butHeat h).trans ?_⟩
  rw [hsession]
  rfl

theorem Link.eq_of_butHeat {l k : Link} (h : l.butHeat = k.butHeat) :
    k = { l with table := { l.table with heat := k.table.heat, lamp := k.table.lamp } } :=
  (congrArg (fun x : Link => ({ x with table := { x.table with heat := k.table.heat, lamp := k.table.lamp } } : Link)) h).symm

/-! ## Several machines changed -/

/-- From `f` to `g` machines' heat has been released, one after another, the backlog judged after each. -/
def Feeder.Releases : Feeder → Feeder → Prop := Relation.ReflTransGen fun f g => ∃ m, g = (f.released m).1.judged.1

/-- What one machine's part leaves of the other blocks: grants to machines with a place in the unit, notices, and payment requests. -/
structure State.Ensues (t b : State) (gs : List MachineNo) (qs : List PayRequest) : Prop where
  kept : Kept [.feeder, .host, .payment] t b
  host : ∃ ns, b.host = t.host.offered ns
  payment : b.payment = { t.payment with queue := t.payment.queue ++ qs }
  places : ∀ k, k ∉ t.feeder.places → k ∉ b.feeder.places
  granted : ∀ k ∈ gs, k ∈ t.feeder.places
  feeder : t.feeder.Releases b.feeder

theorem State.Ensues.refl (t : State) : t.Ensues t [] [] where
  kept := Kept.refl _ _
  host := ⟨[], rfl⟩
  payment := by rw [List.append_nil]
  places _ h := h
  granted := nofun
  feeder := .refl

/-- From `s` to `t` each machine has the record `R` and the link `L` names, heat and lamps apart; those of `out` have no place in the feeder
and their heat state too; the payment requests `qs` have been placed, and of the other blocks only notices and grants tell. -/
structure State.Moves (s t : State) (R : MachineNo → MachineRecord) (L : MachineNo → Link) (out : MachineNo → Prop)
    (qs : List PayRequest) : Prop where
  engine : t.engine = { s.engine with machines := t.engine.machines }
  line : t.line = { s.line with links := t.line.links }
  kept : Kept [.engine, .line, .feeder, .host, .payment] s t
  host : ∃ ns, t.host = s.host.offered ns
  payment : t.payment = { s.payment with queue := s.payment.queue ++ qs }
  record : ∀ k, (t.machine k).butHeat = (R k).butHeat
  link : ∀ k, (t.link k).butHeat = (L k).butHeat
  out : ∀ k, out k → k ∉ t.feeder.places ∧ ∃ a, t.machine k = (R k).lamped a
  lamps : s.LampsWait t
  feeder : s.feeder.Releases t.feeder

/-- Nothing has changed yet. -/
theorem State.Moves.refl (s : State) : s.Moves s s.machine s.link (fun k => k ∉ s.feeder.places) [] where
  engine := rfl
  line := rfl
  kept := Kept.refl _ _
  host := ⟨[], rfl⟩
  payment := by rw [List.append_nil]
  record _ := rfl
  link _ := rfl
  out k h := ⟨h, _, (s.machine k).lamped_self.symm⟩
  lamps := State.LampsWait.refl s
  feeder := .refl

section
variable {s t b t' : State} {R : MachineNo → MachineRecord} {L : MachineNo → Link} {out out' : MachineNo → Prop} {qs q : List PayRequest}
  {m : MachineNo} {r r' : MachineRecord} {l l' : Link} {gs : List MachineNo}

theorem HostLink.offered_append' (h : HostLink) (ns ms : List Notice) : (h.offered ns).offered ms = h.offered (ns ++ ms) :=
  (HostLink.offered_append h ns ms).symm

/-- A machine told of no grant keeps all but its lamp. -/
theorem State.Becomes.untold (h : s.Becomes b t m r l gs) {k : MachineNo} (hk : k ≠ m) (hgs : k ∉ gs) :
    ∃ a, t.machine k = (s.machine k).lamped a := by
  refine MachineRecord.lamped_of_butHeat (h.record k hk).symm ?_
  refine (h.told k (by simpa using hk)).1.trans ?_
  cases (s.machine k).session <;> simp [hgs]

/-- One more machine's part. -/
theorem State.Moves.step (h : s.Moves t R L out qs) (hw : t.Becomes b t' m r l gs) (hb : t.Ensues b gs q)
    (hr : r.butHeat = r'.butHeat) (hl : l.butHeat = l'.butHeat) (hout : ∀ k, k ≠ m → out' k → out k)
    (hm : out' m → m ∉ b.feeder.places ∧ ∃ a, r = r'.lamped a) :
    s.Moves t' (Function.update R m r') (Function.update L m l') out' (qs ++ q) := by
  have hsame := hw.same
  unfold State.SameButMachines at hsame
  have hbe : b.engine = t.engine := hb.kept.2 .engine (by decide)
  have hbl : b.line = t.line := hb.kept.2 .line (by decide)
  have hfeeder : t'.feeder = b.feeder := by rw [hsame]
  exact {
    engine := by
      have he : t'.engine = { b.engine with machines := t'.engine.machines } := congrArg State.engine hsame
      rw [he, hbe, h.engine]
    line := by
      have he : t'.line = { b.line with links := t'.line.links } := congrArg State.line hsame
      rw [he, hbl, h.line]
    kept := by
      have hmachines : Kept [.engine, .line, .feeder, .host, .payment] t t' :=
        hw.kept (hb.kept.mono (by decide)) (by decide) (by decide)
      exact h.kept.and hmachines
    host := by
      obtain ⟨ns, hns⟩ := h.host
      obtain ⟨ms, hms⟩ := hb.host
      refine ⟨ns ++ ms, ?_⟩
      rw [show t'.host = b.host by rw [hsame], hms, hns, HostLink.offered_append]
    payment := by rw [show t'.payment = b.payment by rw [hsame], hb.payment, h.payment, List.append_assoc]
    record := fun k => by
      by_cases hk : k = m
      · subst hk
        obtain ⟨a, ha⟩ := hw.machine
        rw [Function.update_self, ha, MachineRecord.butHeat_lamped, hr]
      · rw [Function.update_of_ne hk, hw.record k hk, h.record k]
    link := fun k => by
      by_cases hk : k = m
      · subst hk
        obtain ⟨a, ha⟩ := hw.link
        rw [Function.update_self, ha, ← hl]
        rfl
      · rw [Function.update_of_ne hk, hw.links k hk, h.link k]
    out := fun k hk => by
      by_cases hne : k = m
      · subst hne
        obtain ⟨habsent, c, hc⟩ := hm hk
        obtain ⟨a, ha⟩ := hw.machine
        refine ⟨hfeeder ▸ habsent, a, ?_⟩
        rw [Function.update_self, ha, hc]
        rfl
      · obtain ⟨habsent, c, hc⟩ := h.out k (hout k hne hk)
        obtain ⟨a, ha⟩ := hw.untold hne fun hg => habsent (hb.granted k hg)
        refine ⟨hfeeder ▸ hb.places k habsent, a, ?_⟩
        rw [Function.update_of_ne hne, ha, hc]
        rfl
    lamps := h.lamps.trans hw.lamps
    feeder := hfeeder ▸ h.feeder.trans hb.feeder }

end

/-! ## What an onset gives one washer -/

/-- The states whose session a leak ends (R173 step 3). -/
def leakStops (st : MachineState) : Bool := [MachineState.armed, .delayed, .running, .stranded].contains st

theorem leakStops_iff (st : MachineState) : leakStops st = true ↔ st = .armed ∨ st = .delayed ∨ st = .running ∨ st = .stranded := by
  cases st <;> decide

/-- A washer's record once it has taken its order (R9, R173 step 3). -/
def MachineRecord.leaked (r : MachineRecord) : MachineRecord :=
  if r.state = .authorising then { r with abandoned := some (r.abandoned.getD .leak) }
  else if leakStops r.state then
    match r.session with
    | some x => r.ending x (.fault .leak) .done
    | none => r
  else r

/-- The node's link then (R35). -/
def Link.leaked (l : Link) (r : MachineRecord) : Link :=
  if leakStops r.state then
    match r.session with
    | some x => l.ending r.state (.fault .leak) x.id
    | none => l
  else l

/-- The SETTLE placed then (R6). -/
def leakSettle (m : MachineNo) (r : MachineRecord) : Option PayRequest :=
  (r.session.filter fun y => leakStops r.state && y.parts != [] && r.outstanding == .none).map fun y =>
    .settle m y.id (.fault .leak) y.elapsed y.paused

/-- A session that the order ends. -/
def MachineRecord.leakEnds (r : MachineRecord) : Prop := leakStops r.state = true ∧ r.session.isSome = true

theorem MachineRecord.leaked_of_ends {r : MachineRecord} {x : Session} (hst : leakStops r.state = true) (hx : r.session = some x) :
    r.leaked = r.ending x (.fault .leak) .done := by
  have hne : r.state ≠ .authorising := by
    intro h
    rw [h] at hst
    exact absurd hst (by decide)
  unfold MachineRecord.leaked
  rw [if_neg hne, if_pos hst, hx]

theorem MachineRecord.leaked_of_absent {r : MachineRecord} (hne : r.state ≠ .authorising)
    (h : leakStops r.state = false ∨ r.session = none) : r.leaked = r := by
  unfold MachineRecord.leaked
  rw [if_neg hne]
  rcases h with h | h
  · rw [h]
    rfl
  · rw [h]
    exact ite_self _

theorem Link.leaked_of_absent {l : Link} {r : MachineRecord} (h : leakStops r.state = false ∨ r.session = none) : l.leaked r = l := by
  unfold Link.leaked
  rcases h with h | h
  · rw [h]
    rfl
  · rw [h]
    exact ite_self _

theorem leakSettle_of_absent {m : MachineNo} {r : MachineRecord} (h : leakStops r.state = false ∨ r.session = none) :
    leakSettle m r = none := by
  unfold leakSettle
  rcases h with h | h
  · rw [h]
    cases r.session <;> rfl
  · rw [h]
    rfl

theorem leakSettle_of_some {m : MachineNo} {r : MachineRecord} {x : Session} (hst : leakStops r.state = true) (hx : r.session = some x) :
    leakSettle m r =
      if x.parts ≠ [] ∧ r.outstanding = .none then some (.settle m x.id (.fault .leak) x.elapsed x.paused) else none := by
  unfold leakSettle
  rw [hst, hx]
  simp [Option.filter]

/-- A session ended, with the payment unit's part in it (R6, R144). -/
theorem State.ensues_endingBase (t : State) {m : MachineNo} {x : Session} (hst : leakStops (t.machine m).state = true)
    (hx : (t.machine m).session = some x) :
    t.Ensues (t.endingBase m (t.machine m) x (.fault .leak) x.elapsed) (t.feeder.released m).2
      (leakSettle m (t.machine m)).toList := by
  have hplacing := State.kept_placing (t.releasing m) m (t.machine m) x (.fault .leak) x.elapsed
  have hsub : ∀ k, k ∈ (t.feeder.released m).1.places → k ∈ t.feeder.places := by
    intro k hk
    unfold Feeder.released at hk
    split at hk
    · have hwithout := (Feeder.pass_places _).mem_iff.mp hk
      rw [Feeder.without_places] at hwithout
      exact List.mem_of_mem_filter hwithout
    · exact hk
  exact {
    kept := ((Kept.refl _ _).and (State.kept_releasing _ m)).and hplacing
    host := ⟨_, hplacing.2 .host (by decide)⟩
    payment := by
      rw [leakSettle_of_some hst hx]
      unfold State.endingBase State.placing
      by_cases hplace : x.parts ≠ [] ∧ (t.machine m).outstanding = .none
      · rw [if_pos hplace, if_pos hplace]
        rfl
      · rw [if_neg hplace, if_neg hplace, Option.toList_none, List.append_nil]
        rfl
    places := fun k hk hmem => by
      rw [show (t.endingBase m (t.machine m) x (.fault .leak) x.elapsed).feeder = (t.feeder.released m).1.judged.1 from
        hplacing.2 .feeder (by decide), Feeder.places_judged] at hmem
      exact hk (hsub k hmem)
    granted := fun k hk => by
      unfold Feeder.released at hk
      split at hk
      · have hwithout := Feeder.pass_granted_mem _ k hk
        rw [Feeder.without_places] at hwithout
        exact List.mem_of_mem_filter hwithout
      · cases hk
    feeder := .single ⟨m, hplacing.2 .feeder (by decide)⟩ }

/-- The washer's order, as one machine's part. -/
theorem State.leakOrder_becomes (t : State) (m : MachineNo) (hcalm : t.startUp = .recovering → ∃ k, (t.machine k).state = .recovering) : ∃ b gs,
    t.Becomes b (t.leakOrder m) m (t.machine m).leaked ((t.link m).leaked (t.machine m)) gs ∧
      t.Ensues b gs (leakSettle m (t.machine m)).toList ∧ ((t.machine m).leakEnds → m ∉ b.feeder.places) := by
  have hself := t.becomes_self m
  have hstay (h : leakStops (t.machine m).state = false ∨ (t.machine m).session = none) :
      ((t.link m).leaked (t.machine m)) = t.link m ∧ (leakSettle m (t.machine m)).toList = [] ∧ ¬ (t.machine m).leakEnds := by
    refine ⟨Link.leaked_of_absent h, by rw [leakSettle_of_absent h]; rfl, ?_⟩
    rintro ⟨hst, hx⟩
    rcases h with h | h
    · rw [h] at hst
      cases hst
    · rw [h] at hx
      cases hx
  unfold State.leakOrder
  by_cases hauth : (t.machine m).state = .authorising
  · obtain ⟨hl, hq, hnot⟩ := hstay (.inl (by rw [hauth]; rfl))
    rw [if_pos hauth, hl, hq]
    refine ⟨t, [], ?_, .refl t, fun h => absurd h hnot⟩
    have hmark (a : Option Abandonment) : markAbandoned a .leak = a.getD .leak := by
      cases a with
      | none => rfl
      | some a => cases a <;> rfl
    have hrecord : (t.machine m).leaked = { t.machine m with abandoned := some (markAbandoned (t.machine m).abandoned .leak) } := by
      unfold MachineRecord.leaked
      rw [if_pos hauth, hmark]
    rw [hrecord]
    exact hself.modMachine fun r => { r with abandoned := some (markAbandoned r.abandoned .leak) }
  · rw [if_neg hauth]
    by_cases hst : leakStops (t.machine m).state = true
    · have hend : t.stopOrder m .leak = t.endSession m (.fault .leak) .done := by
        unfold State.stopOrder
        rcases (leakStops_iff _).mp hst with h | h | h | h <;> rw [h]
      rw [hend]
      cases hx : (t.machine m).session with
      | none =>
        obtain ⟨hl, hq, hnot⟩ := hstay (.inr hx)
        have hnone : t.endSession m (.fault .leak) .done = t := by
          unfold State.endSession State.endSessionWith
          rw [show t.session m = none from hx]
        rw [hnone, hl, hq, MachineRecord.leaked_of_absent hauth (.inr hx)]
        exact ⟨t, [], hself, .refl t, fun h => absurd h hnot⟩
      | some x =>
        have hlink : (t.link m).leaked (t.machine m) = (t.link m).ending (t.machine m).state (.fault .leak) x.id := by
          unfold Link.leaked
          rw [if_pos hst, hx]
        rw [hlink, MachineRecord.leaked_of_ends hst hx]
        have hkeeps : t.KeepsStart t m := fun hrec => by
          obtain ⟨k, hk⟩ := hcalm hrec
          refine ⟨k, ?_, hk⟩
          rintro rfl
          rw [hk] at hst
          exact absurd hst (by decide)
        refine ⟨_, _, hself.endSession hkeeps hx (.fault .leak) .done, t.ensues_endingBase hst hx, fun _ => ?_⟩
        have hfeeder : (t.endingBase m (t.machine m) x (.fault .leak) x.elapsed).feeder = (t.feeder.released m).1.judged.1 :=
          (State.kept_placing (t.releasing m) m _ x _ _).2 .feeder (by decide)
        rw [hfeeder, Feeder.places_judged]
        exact (Feeder.released_absent _ m).1
    · have hst := Bool.not_eq_true _ |>.mp hst
      obtain ⟨hl, hq, hnot⟩ := hstay (.inl hst)
      have hnone : t.stopOrder m .leak = t := by
        unfold State.stopOrder
        generalize (t.machine m).state = st at hst
        cases st
        case armed | delayed | running | stranded => exact absurd hst (by decide)
        all_goals rfl
      rw [hnone, hl, hq, MachineRecord.leaked_of_absent hauth (.inl hst)]
      exact ⟨t, [], hself, .refl t, fun h => absurd h hnot⟩

/-! ## What heat states and lamps do not bear on -/

section
variable {r q : MachineRecord} {l k : Link}

theorem MachineRecord.sessionIsSome_of_butHeat (h : r.butHeat = q.butHeat) : q.session.isSome = r.session.isSome := by
  rcases MachineRecord.sessions_of_butHeat h with ⟨hr, hq⟩ | ⟨x, k, hr, hq⟩
  · rw [hr, hq]
  · rw [hr, hq]
    rfl

theorem MachineRecord.leakEnds_congr (h : r.butHeat = q.butHeat) : q.leakEnds ↔ r.leakEnds := by
  unfold MachineRecord.leakEnds
  rw [MachineRecord.state_of_butHeat h, MachineRecord.sessionIsSome_of_butHeat h]

theorem MachineRecord.leaked_congr (h : r.butHeat = q.butHeat) :
    r.leaked.butHeat = q.leaked.butHeat ∧ (r.leakEnds → ∃ a, q.leaked = r.leaked.lamped a) := by
  have hq := MachineRecord.eq_of_butHeat h
  have hstate := MachineRecord.state_of_butHeat h
  by_cases hauth : r.state = .authorising
  · refine ⟨?_, fun hends => absurd hends.1 (by rw [hauth]; decide)⟩
    unfold MachineRecord.leaked
    rw [if_pos hauth, if_pos (hstate.trans hauth)]
    have habandoned : q.abandoned = r.abandoned := by rw [hq]
    rw [habandoned]
    exact (congrArg (fun x : MachineRecord => ({ x with abandoned := some (r.abandoned.getD .leak) } : MachineRecord)) h :)
  · by_cases hst : leakStops r.state = true
    · rcases MachineRecord.sessions_of_butHeat h with ⟨hr, hs⟩ | ⟨x, k, hr, hs⟩
      · rw [MachineRecord.leaked_of_absent hauth (.inr hr), MachineRecord.leaked_of_absent (hstate ▸ hauth) (.inr hs)]
        refine ⟨h, fun hends => ?_⟩
        have hsome := hends.2
        rw [hr] at hsome
        cases hsome
      · rw [MachineRecord.leaked_of_ends hst hr, MachineRecord.leaked_of_ends (hstate ▸ hst) hs]
        have heq : q.ending { x with heat := k } (.fault .leak) .done = (r.ending x (.fault .leak) .done).lamped q.lampSent := by
          rw [hq]
          rfl
        exact ⟨by rw [heq]; rfl, fun _ => ⟨_, heq⟩⟩
    · have hst := Bool.not_eq_true _ |>.mp hst
      rw [MachineRecord.leaked_of_absent hauth (.inl hst), MachineRecord.leaked_of_absent (hstate ▸ hauth) (.inl (hstate ▸ hst))]
      exact ⟨h, fun hends => by rw [hends.1] at hst; cases hst⟩

/-- What a node is sent leaves its heat command and its lamp apart. -/
theorem Link.ending_congr (h : l.butHeat = k.butHeat) (was : MachineState) (cause : EndCause) (id : Nat) :
    (l.ending was cause id).butHeat = (k.ending was cause id).butHeat := by
  have hk := Link.eq_of_butHeat h
  have hcommand : ∀ c, endCommand was cause id = some c → (∃ i, c = .disable i) ∨ ∃ i, c = .stop i := by
    intro c hc
    unfold endCommand at hc
    split at hc
    case h_1 | h_2 | h_3 => exact .inl ⟨_, (Option.some.inj hc).symm⟩
    case h_4 | h_5 =>
      split at hc
      · cases hc
      · exact .inr ⟨_, (Option.some.inj hc).symm⟩
    case h_6 => cases hc
  rw [hk]
  unfold Link.ending
  cases hc : endCommand was cause id with
  | none => rfl
  | some c =>
    have hd : l.state = .disabled ∨ l.state ≠ .disabled := Classical.em _
    unfold Link.sent
    rcases hcommand c hc with ⟨i, rfl⟩ | ⟨i, rfl⟩ <;> rcases hd with hd | hd <;> simp only [hd, if_true, if_false] <;> rfl

theorem Link.leaked_congr (h : l.butHeat = k.butHeat) (hr : r.butHeat = q.butHeat) : (l.leaked r).butHeat = (k.leaked q).butHeat := by
  have hstate := MachineRecord.state_of_butHeat hr
  unfold Link.leaked
  rw [hstate]
  split
  · rcases MachineRecord.sessions_of_butHeat hr with ⟨hn, hs⟩ | ⟨x, y, hn, hs⟩
    · rw [hn, hs]
      exact h
    · rw [hn, hs]
      exact Link.ending_congr h _ _ _
  · exact h

theorem leakSettle_congr (m : MachineNo) (h : r.butHeat = q.butHeat) : leakSettle m q = leakSettle m r := by
  have hstate := MachineRecord.state_of_butHeat h
  have hout : q.outstanding = r.outstanding := by rw [MachineRecord.eq_of_butHeat h]
  unfold leakSettle
  rw [hstate, hout]
  rcases MachineRecord.sessions_of_butHeat h with ⟨hr, hs⟩ | ⟨x, y, hr, hs⟩
  · rw [hr, hs]
  · rw [hr, hs]
    simp [Option.filter]

end

/-! ## Orders to the washers listed, one after the other -/

/-- The values `v` with `f` taken at the machines listed. -/
def taken {α : Type} (f : MachineNo → α → α) (ms : List MachineNo) (v : MachineNo → α) (k : MachineNo) : α :=
  if k ∈ ms then f k (v k) else v k

theorem taken_nil {α : Type} (f : MachineNo → α → α) (v : MachineNo → α) : taken f [] v = v := rfl

theorem taken_mem {α : Type} {f : MachineNo → α → α} {ms : List MachineNo} {v : MachineNo → α} {k : MachineNo} (h : k ∈ ms) :
    taken f ms v k = f k (v k) := if_pos h

theorem taken_notMem {α : Type} {f : MachineNo → α → α} {ms : List MachineNo} {v : MachineNo → α} {k : MachineNo} (h : k ∉ ms) :
    taken f ms v k = v k := if_neg h

/-- One more machine. -/
theorem update_taken {α : Type} (f : MachineNo → α → α) {ms : List MachineNo} (v : MachineNo → α) {m : MachineNo} (h : m ∉ ms) :
    Function.update (taken f ms v) m (f m (taken f ms v m)) = taken f (ms ++ [m]) v := by
  funext k
  by_cases hk : k = m
  · subst hk
    rw [Function.update_self, taken_notMem h, taken_mem (by simp)]
  · rw [Function.update_of_ne hk]
    by_cases hin : k ∈ ms
    · rw [taken_mem hin, taken_mem (List.mem_append_left _ hin)]
    · rw [taken_notMem hin, taken_notMem (by simp [hin, hk])]

/-- Machines whose session the orders have ended, and those of `out` not listed. -/
def leakOut (all done : List MachineNo) (R : MachineNo → MachineRecord) (out : MachineNo → Prop) (k : MachineNo) : Prop :=
  k ∈ done ∧ (R k).leakEnds ∨ k ∉ all ∧ out k

section
variable {s t : State} {R : MachineNo → MachineRecord} {L : MachineNo → Link} {out : MachineNo → Prop} {qs : List PayRequest}

/-- An order leaves a RECOVERING machine so. -/
theorem MachineRecord.leaked_recovering {r : MachineRecord} (h : r.state = .recovering) : r.leaked.state = .recovering := by
  rw [MachineRecord.leaked_of_absent (by rw [h]; decide) (.inl (by rw [h]; rfl))]
  exact h

/-- One more washer takes its order. -/
theorem State.Moves.leakOrder {out' : MachineNo → Prop} {m : MachineNo} (h : s.Moves t R L out qs)
    (hcalm : s.startUp = .recovering → ∃ k, (R k).state = .recovering) (hout : ∀ k, k ≠ m → out' k → out k)
    (hm : out' m → (R m).leakEnds) :
    s.Moves (t.leakOrder m) (Function.update R m (R m).leaked) (Function.update L m ((L m).leaked (R m))) out'
      (qs ++ (leakSettle m (R m)).toList) := by
  have hstart : t.startUp = s.startUp := h.kept.2 .startUp (by decide)
  obtain ⟨b, gs, hw, hb, habsent⟩ := t.leakOrder_becomes m fun hrec => by
    obtain ⟨k, hstate⟩ := hcalm (hstart.symm.trans hrec)
    exact ⟨k, (MachineRecord.state_of_butHeat (h.record k)).symm.trans hstate⟩
  have hr := h.record m
  obtain ⟨hleaked, hexact⟩ := MachineRecord.leaked_congr hr.symm
  rw [← leakSettle_congr m hr] at hb
  exact h.step hw hb hleaked.symm (Link.leaked_congr (h.link m) hr) hout fun ho =>
    ⟨habsent ((MachineRecord.leakEnds_congr hr.symm).mpr (hm ho)), hexact (hm ho)⟩

/-- The washers listed take their orders. -/
theorem State.Moves.leakOrders {all : List MachineNo} (ms : List MachineNo) (done : List MachineNo) (hnodup : (done ++ ms).Nodup)
    (hsub : ∀ k ∈ ms, k ∈ all) (hcalm : s.startUp = .recovering → ∃ k, (R k).state = .recovering)
    (h : s.Moves t (taken (fun _ r => r.leaked) done R) (taken (fun k l => l.leaked (R k)) done L) (leakOut all done R out) qs) :
    s.Moves (forEach ms (fun m u => u.leakOrder m) t) (taken (fun _ r => r.leaked) (done ++ ms) R)
      (taken (fun k l => l.leaked (R k)) (done ++ ms) L) (leakOut all (done ++ ms) R out)
      (qs ++ ms.flatMap fun m => (leakSettle m (R m)).toList) := by
  induction ms generalizing done t qs with
  | nil =>
    rw [List.append_nil, List.flatMap_nil, List.append_nil]
    exact h
  | cons m ms ih =>
    have hm : m ∉ done := by
      intro hin
      exact (List.nodup_append.mp hnodup).2.2 m hin m (List.mem_cons_self ..) rfl
    have hRm : taken (fun _ r => MachineRecord.leaked r) done R m = R m := taken_notMem hm
    have hstep := h.leakOrder (out' := leakOut all (done ++ [m]) R out) (m := m) (fun hrec => ?calm) ?out ?ends
    case calm =>
      obtain ⟨k, hk⟩ := hcalm hrec
      refine ⟨k, ?_⟩
      by_cases hin : k ∈ done
      · rw [taken_mem hin]
        exact MachineRecord.leaked_recovering hk
      · rw [taken_notMem hin]
        exact hk
    case out =>
      rintro k hk (⟨hin, hends⟩ | ho)
      · exact .inl ⟨by simpa [hk] using hin, hends⟩
      · exact .inr ho
    case ends =>
      rintro (⟨-, hends⟩ | ⟨hnot, -⟩)
      · rw [hRm]
        exact hends
      · exact absurd (hsub m (List.mem_cons_self ..)) hnot
    rw [update_taken (fun _ r => MachineRecord.leaked r) R hm, hRm] at hstep
    rw [update_taken (fun k l => Link.leaked l (R k)) L hm] at hstep
    have hlist : done ++ m :: ms = (done ++ [m]) ++ ms := by simp
    have hrest := ih (done ++ [m]) (hlist ▸ hnodup) (fun k hk => hsub k (List.mem_cons_of_mem _ hk)) hstep
    rw [hlist, forEach_cons, List.flatMap_cons, ← List.append_assoc qs]
    exact hrest

end

end Sys2Proof.Machine
end

section
/-! SUPPORT. The closing of rooms by leak onsets: records, valves, orders to the washers, lamps, and the sessions without parts completed
(8.5). -/
namespace Sys2Proof.Machine

/-! ## Sessions without parts completed -/

/-- A record once a session settling towards DONE with no part has been completed (R6 step 7, R7). -/
def MachineRecord.emptied (r : MachineRecord) : MachineRecord :=
  match r.session with
  | some x => if r.state = .settling ∧ x.parts = [] then { r with
      state := if r.doorOpened then .idle else .done
      session := none, outstanding := .none, doorOpened := false, lastEnd := x.endCause } else r
  | none => r

/-- A session that is to be completed at once is one settling towards DONE. -/
def MachineRecord.emptiesDone (r : MachineRecord) : Prop :=
  ∀ x, r.session = some x → r.state = .settling → x.parts = [] → r.afterSettle = .done

theorem MachineRecord.emptied_lamped (r : MachineRecord) (a : Lamp) : (r.lamped a).emptied = r.emptied.lamped a := by
  unfold MachineRecord.emptied MachineRecord.lamped
  dsimp only
  split
  · split <;> rfl
  · rfl

theorem MachineRecord.emptied_congr {r q : MachineRecord} (h : r.butHeat = q.butHeat) : r.emptied.butHeat = q.emptied.butHeat := by
  have hq := MachineRecord.eq_of_butHeat h
  have hstate := MachineRecord.state_of_butHeat h
  unfold MachineRecord.emptied
  rcases MachineRecord.sessions_of_butHeat h with ⟨hr, hs⟩ | ⟨x, k, hr, hs⟩
  · rw [hr, hs]
    exact h
  · rw [hr, hs, hstate]
    dsimp only
    split
    · rw [hq]
      rfl
    · exact h

/-- A completion, if one is due, as one machine's part. -/
theorem State.completeIfEmpty_becomes {t : State} {m : MachineNo} (hcalm : t.startUp = .recovering → ∃ k, (t.machine k).state = .recovering)
    (hend : look t.supervisor.ending m = none) (hdone : (t.machine m).emptiesDone) :
    ∃ b, t.Becomes b (t.completeIfEmpty m) m (t.machine m).emptied (t.link m) [] ∧ t.Ensues b [] [] := by
  have hself := t.becomes_self m
  by_cases hdue : ∃ x, (t.machine m).session = some x ∧ (t.machine m).state = .settling ∧ x.parts = []
  · obtain ⟨x, hx, hst, hparts⟩ := hdue
    have hafter := hdone x hx hst hparts
    have hkeeps : t.KeepsStart t m := fun hrec => by
      obtain ⟨k, hk⟩ := hcalm hrec
      refine ⟨k, ?_, hk⟩
      rintro rfl
      rw [hk] at hst
      cases hst
    have hw := hself.completeIfEmpty hkeeps hx hst hparts
    rw [State.completing_of_none _ _ _ _ hend, hafter] at hw
    have hrecord : (t.machine m).completed x (t.link m) = (t.machine m).emptied := by
      unfold MachineRecord.completed MachineRecord.emptied
      rw [hafter, hx]
      dsimp only
      rw [if_pos ⟨hst, hparts⟩]
      rfl
    rw [hrecord] at hw
    exact ⟨_, hw, {
      kept := (t.kept_notify _).mono (by decide)
      host := ⟨[_], rfl⟩
      payment := by rw [List.append_nil]; rfl
      places := fun _ h => h
      granted := nofun
      feeder := .refl }⟩
  · have hsame : t.completeIfEmpty m = t := by
      unfold State.completeIfEmpty
      cases hx : t.session m with
      | none => rfl
      | some x => exact if_neg fun h => hdue ⟨x, hx, h.1, h.2⟩
    have hrecord : (t.machine m).emptied = t.machine m := by
      unfold MachineRecord.emptied
      split
      · next x hx => exact if_neg fun h => hdue ⟨x, hx, h.1, h.2⟩
      · rfl
    rw [hsame, hrecord]
    exact ⟨t, hself, .refl t⟩

section
variable {s t : State} {R : MachineNo → MachineRecord} {L : MachineNo → Link} {out : MachineNo → Prop} {qs : List PayRequest}

theorem MachineRecord.emptied_recovering {r : MachineRecord} (h : r.state = .recovering) : r.emptied.state = .recovering := by
  unfold MachineRecord.emptied
  split
  · rw [if_neg (by rw [h]; rintro ⟨hst, -⟩; cases hst)]
    exact h
  · exact h

theorem MachineRecord.emptiesDone_congr {r q : MachineRecord} (h : r.butHeat = q.butHeat) (hr : r.emptiesDone) : q.emptiesDone := by
  intro y hy hst hparts
  have hafter : q.afterSettle = r.afterSettle := by rw [MachineRecord.eq_of_butHeat h]
  rcases MachineRecord.sessions_of_butHeat h with ⟨-, hs⟩ | ⟨x, k, hx, hs⟩
  · rw [hs] at hy
    cases hy
  · rw [hs] at hy
    obtain rfl := Option.some.inj hy
    exact hafter.trans (hr x hx ((MachineRecord.state_of_butHeat h).symm.trans hst) hparts)

/-- The washers listed complete their sessions without parts; lit machines stay so. -/
theorem State.Moves.completions (ms : List MachineNo) (done : List MachineNo) (hnodup : (done ++ ms).Nodup)
    (hcalm : s.startUp = .recovering → ∃ k, (R k).state = .recovering) (hend : ∀ m ∈ ms, look s.supervisor.ending m = none)
    (hdone : ∀ m ∈ ms, (R m).emptiesDone) (h : s.Moves t (taken (fun _ r => r.emptied) done R) L out qs) :
    s.Moves (forEach ms (fun m u => u.completeIfEmpty m) t) (taken (fun _ r => r.emptied) (done ++ ms) R) L out qs ∧
      ∀ k, t.Lit k → (forEach ms (fun m u => u.completeIfEmpty m) t).Lit k := by
  induction ms generalizing done t with
  | nil =>
    rw [List.append_nil]
    exact ⟨h, fun _ hk => hk⟩
  | cons m ms ih =>
    have hm : m ∉ done := fun hin => (List.nodup_append.mp hnodup).2.2 m hin m (List.mem_cons_self ..) rfl
    have hRm : taken (fun _ r => MachineRecord.emptied r) done R m = R m := taken_notMem hm
    have hrecord := h.record m
    rw [hRm] at hrecord
    have hempties := MachineRecord.emptiesDone_congr hrecord.symm (hdone m (List.mem_cons_self ..))
    have hstart : t.startUp = s.startUp := h.kept.2 .startUp (by decide)
    have hsup : t.supervisor = s.supervisor := h.kept.2 .supervisor (by decide)
    obtain ⟨b, hw, hb⟩ := State.completeIfEmpty_becomes (t := t) (m := m) (fun hrec => by
      obtain ⟨k, hk⟩ := hcalm (hstart.symm.trans hrec)
      refine ⟨k, (MachineRecord.state_of_butHeat (h.record k)).symm.trans ?_⟩
      by_cases hin : k ∈ done
      · rw [taken_mem hin]
        exact MachineRecord.emptied_recovering hk
      · rw [taken_notMem hin]
        exact hk) (by rw [hsup]; exact hend m (List.mem_cons_self ..)) hempties
    have hstep := h.step (r' := (R m).emptied) (l' := L m) (out' := out) hw hb (MachineRecord.emptied_congr hrecord) (h.link m)
      (fun _ _ ho => ho) fun ho => by
        obtain ⟨habsent, a, ha⟩ := h.out m ho
        refine ⟨hb.places m habsent, a, ?_⟩
        rw [ha, hRm]
        exact MachineRecord.emptied_lamped _ _
    have hupdate := update_taken (fun _ r => MachineRecord.emptied r) R hm
    rw [hRm] at hupdate
    rw [hupdate, Function.update_eq_self, List.append_nil] at hstep
    have hlist : done ++ m :: ms = (done ++ [m]) ++ ms := by simp
    obtain ⟨hmoves, hlit⟩ := ih (done ++ [m]) (hlist ▸ hnodup) (fun k hk => hend k (List.mem_cons_of_mem _ hk))
      (fun k hk => hdone k (List.mem_cons_of_mem _ hk)) hstep
    rw [hlist, forEach_cons]
    refine ⟨hmoves, fun k hk => hlit k ?_⟩
    by_cases hkm : k = m
    · subst hkm
      exact State.lit_completeIfEmpty hk hempties
    · exact (t.keepsLit_completeIfEmpty m).lit k hkm hk

/-- Lamps recomputed at some machines. -/
theorem State.Moves.relamped {u : State} {ms : List MachineNo} (h : s.Moves t R L out qs) (hu : t.Relamped u ms) (hwait : t.LampsWait u) :
    s.Moves u R L out qs := by
  have hsame := hu.same
  unfold State.SameButMachines at hsame
  have hfeeder : u.feeder = t.feeder := by rw [hsame]
  exact {
    engine := by
      have he : u.engine = { t.engine with machines := u.engine.machines } := congrArg State.engine hsame
      rw [he, h.engine]
    line := by
      have hl : u.line = { t.line with links := u.line.links } := congrArg State.line hsame
      rw [hl, h.line]
    kept := by
      refine h.kept.and (ys := [.engine, .line]) ?_
      rw [hsame]
      refine ⟨rfl, fun y hy => ?_⟩
      cases y
      case engine | line => simp at hy
      all_goals rfl
    host := by rw [show u.host = t.host by rw [hsame]]; exact h.host
    payment := by rw [show u.payment = t.payment by rw [hsame]]; exact h.payment
    record := fun k => by
      rw [hu.machine k, ← h.record k]
      split <;> rfl
    link := fun k => by
      rw [hu.link k, ← h.link k]
      split <;> rfl
    out := fun k hk => by
      obtain ⟨habsent, a, ha⟩ := h.out k hk
      refine ⟨hfeeder ▸ habsent, ?_⟩
      rw [hu.machine k, ha]
      split
      · exact ⟨_, rfl⟩
      · exact ⟨a, rfl⟩
    lamps := h.lamps.trans hwait
    feeder := hfeeder ▸ h.feeder }

/-- Notices offered. -/
theorem State.Moves.offering (h : s.Moves t R L out qs) (ns : List Notice) : s.Moves (t.offering ns) R L out qs where
  engine := h.engine
  line := h.line
  kept := h.kept.and (t.kept_offering ns)
  host := by
    obtain ⟨ms, hms⟩ := h.host
    exact ⟨ms ++ ns, (congrArg (HostLink.offered · ns) hms).trans (HostLink.offered_append' _ _ _)⟩
  payment := h.payment
  record := h.record
  link := h.link
  out := h.out
  lamps := h.lamps
  feeder := h.feeder

end

theorem State.forEach_relamp_lit (ms : List MachineNo) (s : State) {k : MachineNo} (h : k ∈ ms ∨ s.Lit k) :
    (forEach ms (fun m u => u.relamp m) s).Lit k := by
  induction ms generalizing s with
  | nil => exact h.resolve_left List.not_mem_nil
  | cons m ms ih =>
    rw [forEach_cons]
    refine ih (s.relamp m) ?_
    by_cases hk : k = m
    · subst hk
      exact .inr (s.lit_relamp k)
    · rcases h with hin | hlit
      · exact .inl ((List.mem_cons.mp hin).resolve_left hk)
      · exact .inr ((s.keepsLit_relamp m).lit k hk hlit)

theorem State.forEach_leakOrder_lit (ms : List MachineNo) (s : State) {k : MachineNo} (hk : k ∉ ms) (h : s.Lit k) :
    (forEach ms (fun m u => u.leakOrder m) s).Lit k := by
  induction ms generalizing s with
  | nil => exact h
  | cons m ms ih =>
    rw [List.mem_cons, not_or] at hk
    exact ih (s.leakOrder m) hk.2 ((s.keepsLit_leakOrder m).lit k hk.1 h)

end Sys2Proof.Machine
end

section
/-! SUPPORT. Rooms closed one after the other (8.5). -/
namespace Sys2Proof.Machine

/-- A washer's record and its node's link once its room has closed. -/
def MachineRecord.shut (r : MachineRecord) : MachineRecord := r.leaked.emptied

theorem MachineRecord.shut_congr {r q : MachineRecord} (h : r.butHeat = q.butHeat) : r.shut.butHeat = q.shut.butHeat :=
  MachineRecord.emptied_congr (MachineRecord.leaked_congr h).1

/-- What the closing of a room adds to the supervisor (R173). -/
def Supervisor.shutting (v : Supervisor) (clock : Timebase) (r : RoomNo) : Supervisor :=
  { v with
    rooms := v.rooms.set r.1 { look v.rooms r with closed := true, valveOpen := false, closing := some v.next }
    log := v.log ++ [⟨v.next, clock.day, clock.minute, .room r, .leak, .room, .none, none, false⟩]
    counter := v.next }

/-- From `s` to `t` the rooms listed have closed, the supervisor being `v` then. -/
structure State.Shuts (s t : State) (rooms : List RoomNo) (v : Supervisor) : Prop where
  engine : t.engine = { s.engine with machines := t.engine.machines }
  line : t.line = { s.line with links := t.line.links }
  kept : Kept [.engine, .line, .feeder, .host, .payment, .supervisor] s t
  supervisor : t.supervisor = v
  host : ∃ ns, t.host = s.host.offered ns
  payment : t.payment = { s.payment with
    queue := s.payment.queue ++ rooms.flatMap fun r => (s.washersOf r).flatMap fun m => (leakSettle m (s.machine m)).toList }
  record : ∀ k, (t.machine k).butHeat = (if s.washerIn rooms k then (s.machine k).shut else s.machine k).butHeat
  link : ∀ k, (t.link k).butHeat = (if s.washerIn rooms k then (s.link k).leaked (s.machine k) else s.link k).butHeat
  ended : ∀ k, s.washerIn rooms k = true → (s.machine k).leakEnds → k ∉ t.feeder.places ∧ ∃ a, t.machine k = (s.machine k).shut.lamped a
  rest : ∀ k, s.washerIn rooms k = false → k ∉ s.feeder.places → k ∉ t.feeder.places ∧ ∃ a, t.machine k = (s.machine k).lamped a
  lamps : s.LampsWait t
  feeder : s.feeder.Releases t.feeder
  lit : ∀ k, (s.machine k).assigned = true → (s.machine k).room ∈ rooms → t.Lit k
  litElse : ∀ k, (s.machine k).room ∉ rooms → s.Lit k → t.Lit k

theorem State.washerIn_singleton (s : State) (r : RoomNo) (k : MachineNo) : s.washerIn [r] k = true ↔ k ∈ s.washersOf r := by
  simp [State.washerIn, State.washersOf, indexes, and_assoc]

/-- What an onset needs of the washers of a room for its settlements to be plain (R163). -/
structure State.Plain (s : State) (r : RoomNo) : Prop where
  calm : s.startUp = .recovering → ∃ k, (s.machine k).state = .recovering
  ending : ∀ m ∈ s.washersOf r, look s.supervisor.ending m = none
  parts : ∀ m ∈ s.washersOf r, (s.machine m).state = .settling → ∀ y, (s.machine m).session = some y → y.parts ≠ []

/-- An order leaves a session without parts settling towards DONE, or it was settling before. -/
theorem MachineRecord.leaked_emptiesDone {r : MachineRecord} (h : r.state = .settling → ∀ y, r.session = some y → y.parts ≠ []) :
    r.leaked.emptiesDone := by
  intro x hx hst hparts
  by_cases hauth : r.state = .authorising
  · have hstate : r.leaked.state = .authorising := by
      unfold MachineRecord.leaked
      rw [if_pos hauth]
      exact hauth
    rw [hstate] at hst
    cases hst
  · by_cases hends : leakStops r.state = true ∧ ∃ y, r.session = some y
    · obtain ⟨hstops, y, hy⟩ := hends
      rw [MachineRecord.leaked_of_ends hstops hy]
      rfl
    · have habsent : leakStops r.state = false ∨ r.session = none := by
        cases hs : r.session with
        | none => exact .inr rfl
        | some y => exact .inl (Bool.not_eq_true _ |>.mp fun h => hends ⟨h, y, hs⟩)
      rw [MachineRecord.leaked_of_absent hauth habsent] at hx hst
      exact absurd hparts (h hst x hx)

theorem State.writeRecord_same (s : State) (source : Source) (code : FaultCode) (sev : Severity) (ref : Reference) :
    s.writeRecord source code sev ref = { s with supervisor := (s.writeRecord source code sev ref).supervisor } := rfl

theorem Supervisor.makeRoom_of_room {v : Supervisor} (h : v.log.length < 80) : v.makeRoom = v := by
  unfold Supervisor.makeRoom
  exact if_pos h

/-- The record of an onset written and the room closed, its valve CLOSED (R173). -/
theorem State.onset_eq {s : State} {r : RoomNo} (hlog : s.supervisor.log.length < 80) :
    ((s.writeRecord (.room r) .leak .room .none).modGuard r fun g =>
      { g with closed := true, valveOpen := false, closing := some (s.writeRecord (.room r) .leak .room .none).supervisor.counter }) =
      { s with supervisor := s.supervisor.shutting s.clock r } := by
  have hwritten := s.writeRecord_supervisor (.room r) .leak .room .none
  rw [Supervisor.makeRoom_of_room hlog] at hwritten
  rw [s.writeRecord_same, hwritten]
  rfl

theorem State.Moves.mono {s t : State} {R : MachineNo → MachineRecord} {L : MachineNo → Link} {out out' : MachineNo → Prop}
    {qs : List PayRequest} (h : s.Moves t R L out qs) (hout : ∀ k, out' k → out k) : s.Moves t R L out' qs :=
  { h with out := fun k hk => h.out k (hout k hk) }

/-- All the washers listed take their orders. -/
theorem State.Moves.allOrders {s t : State} {R : MachineNo → MachineRecord} {L : MachineNo → Link} {out : MachineNo → Prop}
    {qs : List PayRequest} {ms : List MachineNo} (h : s.Moves t R L out qs) (hnodup : ms.Nodup)
    (hcalm : s.startUp = .recovering → ∃ k, (R k).state = .recovering) :
    s.Moves (forEach ms (fun m u => u.leakOrder m) t) (taken (fun _ r => r.leaked) ms R) (taken (fun k l => l.leaked (R k)) ms L)
      (leakOut ms ms R out) (qs ++ ms.flatMap fun m => (leakSettle m (R m)).toList) := by
  refine State.Moves.leakOrders ms [] hnodup (fun _ hk => hk) hcalm (h.mono ?_)
  rintro k (⟨hk, -⟩ | ⟨-, hk⟩)
  · cases hk
  · exact hk

/-- All the washers listed complete their sessions without parts. -/
theorem State.Moves.allCompletions {s t : State} {R : MachineNo → MachineRecord} {L : MachineNo → Link} {out : MachineNo → Prop}
    {qs : List PayRequest} {ms : List MachineNo} (h : s.Moves t R L out qs) (hnodup : ms.Nodup)
    (hcalm : s.startUp = .recovering → ∃ k, (R k).state = .recovering) (hend : ∀ m ∈ ms, look s.supervisor.ending m = none)
    (hdone : ∀ m ∈ ms, (R m).emptiesDone) :
    s.Moves (forEach ms (fun m u => u.completeIfEmpty m) t) (taken (fun _ r => r.emptied) ms R) L out qs ∧
      ∀ k, t.Lit k → (forEach ms (fun m u => u.completeIfEmpty m) t).Lit k :=
  State.Moves.completions ms [] hnodup hcalm hend hdone h

theorem State.mem_washersOf (s : State) (r : RoomNo) (m : MachineNo) : m ∈ s.washersOf r ↔
    ((s.machine m).assigned = true ∧ (s.machine m).cls = .washer) ∧ (s.machine m).room = r := by
  simp [State.washersOf, indexes]

theorem State.washersOf_nodup (s : State) (r : RoomNo) : (s.washersOf r).Nodup := (List.nodup_finRange 64).filter _

/-- What no order changes of a machine's record. -/
theorem MachineRecord.leaked_keeps (r : MachineRecord) : r.leaked.assigned = r.assigned ∧ r.leaked.room = r.room ∧ r.leaked.cls = r.cls := by
  unfold MachineRecord.leaked
  split
  · exact ⟨rfl, rfl, rfl⟩
  · split
    · cases r.session <;> exact ⟨rfl, rfl, rfl⟩
    · exact ⟨rfl, rfl, rfl⟩

/-- A room closed (R173). -/
theorem State.closeRoom_shuts {s : State} {r : RoomNo} (hlog : s.supervisor.log.length < 80) (hplain : s.Plain r) :
    s.Shuts (s.closeRoom r) [r] (s.supervisor.shutting s.clock r) := by
  let base : State := { s with supervisor := s.supervisor.shutting s.clock r }
  let ordered := forEach (s.washersOf r) (fun m u => u.leakOrder m) base
  have hnodup := s.washersOf_nodup r
  have horders : base.Moves ordered _ _ _ _ := (State.Moves.refl base).allOrders hnodup hplain.calm
  have hrelamped := ordered.relampRoom_relamped r
  have hlamped := horders.relamped hrelamped (State.forEach_lampsWait (fun m u => u.lampsWait_relamp m) (ordered.machinesOf r) ordered)
  obtain ⟨ns, hns⟩ := (ordered.relampRoom r).faultNotice_eq
  have hnoticed := hlamped.offering ns
  have hrecorded (k : MachineNo) (hk : k ∈ s.washersOf r) :
      taken (fun _ r => MachineRecord.leaked r) (s.washersOf r) base.machine k = (s.machine k).leaked := taken_mem hk
  have hcalm : base.startUp = .recovering →
      ∃ k, (taken (fun _ r => MachineRecord.leaked r) (s.washersOf r) base.machine k).state = .recovering := by
    intro hrec
    obtain ⟨k, hk⟩ := hplain.calm hrec
    refine ⟨k, ?_⟩
    by_cases hin : k ∈ s.washersOf r
    · rw [hrecorded k hin]
      exact MachineRecord.leaked_recovering hk
    · rw [taken_notMem hin]
      exact hk
  obtain ⟨hmoves, hlit⟩ := hnoticed.allCompletions hnodup hcalm hplain.ending fun m hm => by
    rw [hrecorded m hm]
    exact MachineRecord.leaked_emptiesDone (hplain.parts m hm)
  have hclose : s.closeRoom r =
      forEach (s.washersOf r) (fun m u => u.completeIfEmpty m) ((ordered.relampRoom r).offering ns) := by
    unfold State.closeRoom
    dsimp only
    rw [State.onset_eq hlog, hns]
  have hbase : Kept [.supervisor] s base := by
    refine ⟨rfl, fun y hy => ?_⟩
    cases y
    case supervisor => simp at hy
    all_goals rfl
  have htaken (k : MachineNo) : taken (fun _ r => MachineRecord.emptied r) (s.washersOf r)
      (taken (fun _ r => MachineRecord.leaked r) (s.washersOf r) base.machine) k =
        if s.washerIn [r] k then (s.machine k).shut else s.machine k := by
    by_cases hk : k ∈ s.washersOf r
    · rw [if_pos ((s.washerIn_singleton r k).mpr hk), taken_mem hk, hrecorded k hk]
      rfl
    · rw [if_neg (mt (s.washerIn_singleton r k).mp hk), taken_notMem hk, taken_notMem hk]
      rfl
  have hmember {k : MachineNo} (hin : (s.machine k).assigned = true) (hroom : (s.machine k).room = r) : k ∈ ordered.machinesOf r := by
    have hordered : (ordered.machine k).butHeat.assigned = true ∧ (ordered.machine k).butHeat.room = r := by
      rw [horders.record k]
      by_cases hk : k ∈ s.washersOf r
      · rw [hrecorded k hk]
        exact ⟨(MachineRecord.leaked_keeps _).1.trans hin, (MachineRecord.leaked_keeps _).2.1.trans hroom⟩
      · rw [taken_notMem hk]
        exact ⟨hin, hroom⟩
    exact (ordered.mem_machinesOf r k).mpr hordered
  rw [hclose]
  exact {
    engine := hmoves.engine
    line := hmoves.line
    kept := (hbase.mono (by decide)).and hmoves.kept
    supervisor := hmoves.kept.2 .supervisor (by decide)
    host := hmoves.host
    payment := by
      rw [hmoves.payment, List.flatMap_singleton]
      rfl
    record := fun k => by rw [hmoves.record k, htaken k]
    link := fun k => by
      rw [hmoves.link k]
      by_cases hk : k ∈ s.washersOf r
      · rw [if_pos ((s.washerIn_singleton r k).mpr hk), taken_mem hk]
        rfl
      · rw [if_neg (mt (s.washerIn_singleton r k).mp hk), taken_notMem hk]
        rfl
    ended := fun k hk hends => by
      obtain ⟨habsent, a, ha⟩ := hmoves.out k (.inl ⟨(s.washerIn_singleton r k).mp hk, hends⟩)
      exact ⟨habsent, a, by rw [ha, htaken k, if_pos hk]⟩
    rest := fun k hk hplace => by
      have hnot : k ∉ s.washersOf r := fun h => by
        rw [(s.washerIn_singleton r k).mpr h] at hk
        cases hk
      obtain ⟨habsent, a, ha⟩ := hmoves.out k (.inr ⟨hnot, hplace⟩)
      exact ⟨habsent, a, by rw [ha, htaken k, if_neg (by rw [hk]; decide)]⟩
    lamps := hmoves.lamps
    feeder := hmoves.feeder
    lit := fun k hin hroom => by
      refine hlit k ?_
      have hrelit : (ordered.relampRoom r).Lit k :=
        State.forEach_relamp_lit _ _ (.inl (hmember hin (List.mem_singleton.mp hroom)))
      exact hrelit.congr rfl rfl rfl fun _ => rfl
    litElse := fun k hroom hk => by
      refine hlit k ?_
      have hroom : (s.machine k).room ≠ r := fun h => hroom (List.mem_singleton.mpr h)
      have hnot : k ∉ s.washersOf r := fun h => hroom ((s.mem_washersOf r k).mp h).2
      have hguard : (base.guard (s.machine k).room).closed = (s.guard (s.machine k).room).closed :=
        congrArg RoomGuard.closed (look_set_other s.supervisor.rooms _ hroom)
      have hlitBase : base.Lit k := by
        unfold State.Lit State.newLamp at hk ⊢
        show (match lampSource (s.machine k) (base.guard (s.machine k).room).closed with | some _ => _ | none => _) = _
        rw [hguard]
        exact hk
      have hrelit : (ordered.relampRoom r).Lit k :=
        State.forEach_relamp_lit _ _ (.inr (State.forEach_leakOrder_lit _ _ hnot hlitBase))
      exact hrelit.congr rfl rfl rfl fun _ => rfl }

end Sys2Proof.Machine
end

section
/-! SUPPORT. Several rooms closed one after the other, and the rooms re-judged (8.5). -/
namespace Sys2Proof.Machine

/-! ## One room after others -/

theorem MachineRecord.emptied_keeps (r : MachineRecord) : r.emptied.assigned = r.assigned ∧ r.emptied.room = r.room ∧ r.emptied.cls = r.cls := by
  unfold MachineRecord.emptied
  split
  · split <;> exact ⟨rfl, rfl, rfl⟩
  · exact ⟨rfl, rfl, rfl⟩

theorem MachineRecord.shut_keeps (r : MachineRecord) : r.shut.assigned = r.assigned ∧ r.shut.room = r.room ∧ r.shut.cls = r.cls := by
  obtain ⟨ha, hr, hc⟩ := r.leaked_keeps
  obtain ⟨ha', hr', hc'⟩ := r.leaked.emptied_keeps
  exact ⟨ha'.trans ha, hr'.trans hr, hc'.trans hc⟩

theorem MachineRecord.shut_recovering {r : MachineRecord} (h : r.state = .recovering) : r.shut.state = .recovering :=
  MachineRecord.emptied_recovering (MachineRecord.leaked_recovering h)

/-- An ended session's record does not hang on the heat state and the lamp before. -/
theorem MachineRecord.shut_exact {r q : MachineRecord} (h : r.butHeat = q.butHeat) (hends : r.leakEnds) : ∃ a, q.shut = r.shut.lamped a := by
  obtain ⟨a, ha⟩ := (MachineRecord.leaked_congr h).2 hends
  refine ⟨a, ?_⟩
  unfold MachineRecord.shut
  rw [ha, MachineRecord.emptied_lamped]

/-- A machine record keeps its room and class when only heat, lamp and an order's effects change. -/
theorem State.Shuts.machine_keeps {s t : State} {rooms : List RoomNo} {v : Supervisor} (h : s.Shuts t rooms v) (k : MachineNo) :
    (t.machine k).assigned = (s.machine k).assigned ∧ (t.machine k).room = (s.machine k).room ∧ (t.machine k).cls = (s.machine k).cls := by
  have hk := h.record k
  have hq := MachineRecord.eq_of_butHeat hk.symm
  have hfields : (if s.washerIn rooms k then (s.machine k).shut else s.machine k).assigned = (s.machine k).assigned ∧
      (if s.washerIn rooms k then (s.machine k).shut else s.machine k).room = (s.machine k).room ∧
        (if s.washerIn rooms k then (s.machine k).shut else s.machine k).cls = (s.machine k).cls := by
    split
    · exact (s.machine k).shut_keeps
    · exact ⟨rfl, rfl, rfl⟩
  rw [hq]
  exact hfields

theorem State.Shuts.washerIn {s t : State} {rooms : List RoomNo} {v : Supervisor} (h : s.Shuts t rooms v) (rs : List RoomNo) (k : MachineNo) :
    t.washerIn rs k = s.washerIn rs k := by
  obtain ⟨ha, hr, hc⟩ := h.machine_keeps k
  unfold State.washerIn
  rw [ha, hr, hc]

theorem State.Shuts.washersOf {s t : State} {rooms : List RoomNo} {v : Supervisor} (h : s.Shuts t rooms v) (r : RoomNo) :
    t.washersOf r = s.washersOf r := by
  unfold State.washersOf
  refine List.filter_congr fun k _ => ?_
  obtain ⟨ha, hr, hc⟩ := h.machine_keeps k
  rw [ha, hr, hc]

theorem State.washerIn_append (s : State) (rs qs : List RoomNo) (k : MachineNo) :
    s.washerIn (rs ++ qs) k = (s.washerIn rs k || s.washerIn qs k) := by
  simp only [State.washerIn, List.contains_eq_mem, List.mem_append, Bool.decide_or, Bool.and_or_distrib_left]

theorem State.room_of_washerIn {s : State} {r : RoomNo} {k : MachineNo} (h : s.washerIn [r] k = true) : (s.machine k).room = r :=
  ((s.mem_washersOf r k).mp ((s.washerIn_singleton r k).mp h)).2

theorem State.washerIn_false {s : State} {rs : List RoomNo} {k : MachineNo} (h : (s.machine k).room ∉ rs) : s.washerIn rs k = false := by
  simp [State.washerIn, h]

/-- Nothing has closed yet. -/
theorem State.Shuts.refl (s : State) : s.Shuts s [] s.supervisor where
  engine := rfl
  line := rfl
  kept := Kept.refl _ _
  supervisor := rfl
  host := ⟨[], rfl⟩
  payment := by rw [List.flatMap_nil, List.append_nil]
  record k := by rw [State.washerIn_false (List.not_mem_nil)]; rfl
  link k := by rw [State.washerIn_false (List.not_mem_nil)]; rfl
  ended k hk := by rw [State.washerIn_false (List.not_mem_nil)] at hk; cases hk
  rest k _ hk := ⟨hk, _, (s.machine k).lamped_self.symm⟩
  lamps := State.LampsWait.refl s
  feeder := .refl
  lit k _ hk := absurd hk List.not_mem_nil
  litElse _ _ hk := hk

/-- One room more. -/
theorem State.Shuts.snoc {s t u : State} {rooms : List RoomNo} {r : RoomNo} {v w : Supervisor} (h : s.Shuts t rooms v)
    (h' : t.Shuts u [r] w) (hr : r ∉ rooms) : s.Shuts u (rooms ++ [r]) w := by
  have hin (k : MachineNo) : t.washerIn [r] k = s.washerIn [r] k := h.washerIn [r] k
  have hnot {k : MachineNo} (hk : s.washerIn [r] k = true) : s.washerIn rooms k = false := by
    refine State.washerIn_false ?_
    rw [State.room_of_washerIn hk]
    exact hr
  have hrec {k : MachineNo} (hk : s.washerIn rooms k = false) : (t.machine k).butHeat = (s.machine k).butHeat := by
    rw [h.record k, if_neg (by rw [hk]; decide)]
  have hlnk {k : MachineNo} (hk : s.washerIn rooms k = false) : (t.link k).butHeat = (s.link k).butHeat := by
    rw [h.link k, if_neg (by rw [hk]; decide)]
  have hsplit (k : MachineNo) : s.washerIn (rooms ++ [r]) k = (s.washerIn rooms k || s.washerIn [r] k) := s.washerIn_append rooms [r] k
  exact {
    engine := by rw [h'.engine, h.engine]
    line := by rw [h'.line, h.line]
    kept := h.kept.and h'.kept
    supervisor := h'.supervisor
    host := by
      obtain ⟨ns, hns⟩ := h.host
      obtain ⟨ms, hms⟩ := h'.host
      exact ⟨ns ++ ms, by rw [hms, hns, HostLink.offered_append]⟩
    payment := by
      rw [h'.payment, h.payment, List.flatMap_append, List.append_assoc, List.flatMap_singleton, List.flatMap_singleton, h.washersOf r]
      have hqueue : ((s.washersOf r).flatMap fun m => (leakSettle m (t.machine m)).toList) =
          (s.washersOf r).flatMap fun m => (leakSettle m (s.machine m)).toList := by
        refine List.flatMap_congr fun m hm => ?_
        rw [leakSettle_congr m (hrec (hnot ((s.washerIn_singleton r m).mpr hm))).symm]
      rw [hqueue]
    record := fun k => by
      rw [h'.record k, hin, hsplit]
      cases hk : s.washerIn [r] k with
      | true =>
        rw [hnot hk]
        exact MachineRecord.shut_congr (hrec (hnot hk))
      | false =>
        rw [Bool.or_false]
        exact h.record k
    link := fun k => by
      rw [h'.link k, hin, hsplit]
      cases hk : s.washerIn [r] k with
      | true =>
        rw [hnot hk]
        exact Link.leaked_congr (hlnk (hnot hk)) (hrec (hnot hk))
      | false =>
        rw [Bool.or_false]
        exact h.link k
    ended := fun k hk hends => by
      rw [hsplit] at hk
      cases hone : s.washerIn [r] k with
      | true =>
        have hbut := hrec (hnot hone)
        obtain ⟨habsent, a, ha⟩ := h'.ended k ((hin k).trans hone) ((MachineRecord.leakEnds_congr hbut.symm).mpr hends)
        obtain ⟨c, hc⟩ := MachineRecord.shut_exact hbut.symm hends
        refine ⟨habsent, a, ?_⟩
        rw [ha, hc]
        rfl
      | false =>
        rw [hone, Bool.or_false] at hk
        obtain ⟨habsent, a, ha⟩ := h.ended k hk hends
        obtain ⟨habsent', c, hc⟩ := h'.rest k ((hin k).trans hone) habsent
        refine ⟨habsent', c, ?_⟩
        rw [hc, ha]
        rfl
    rest := fun k hk habsent => by
      rw [hsplit, Bool.or_eq_false_iff] at hk
      obtain ⟨habsent, a, ha⟩ := h.rest k hk.1 habsent
      obtain ⟨habsent', c, hc⟩ := h'.rest k ((hin k).trans hk.2) habsent
      refine ⟨habsent', c, ?_⟩
      rw [hc, ha]
      rfl
    lamps := h.lamps.trans h'.lamps
    feeder := h.feeder.trans h'.feeder
    lit := fun k hassigned hroom => by
      obtain ⟨ha, hrm, -⟩ := h.machine_keeps k
      by_cases hone : (s.machine k).room = r
      · exact h'.lit k (ha.trans hassigned) (by rw [hrm, hone]; exact List.mem_singleton.mpr rfl)
      · have hmem : (s.machine k).room ∈ rooms := (List.mem_append.mp hroom).resolve_right fun h => hone (List.mem_singleton.mp h)
        exact h'.litElse k (by rw [hrm]; exact fun h => hone (List.mem_singleton.mp h)) (h.lit k hassigned hmem)
    litElse := fun k hroom hk => by
      obtain ⟨-, hrm, -⟩ := h.machine_keeps k
      rw [List.mem_append, not_or] at hroom
      exact h'.litElse k (by rw [hrm]; exact hroom.2) (h.litElse k hroom.1 hk) }

/-- A room's onset is plain after other rooms have closed. -/
theorem State.Shuts.plain {s t : State} {rooms : List RoomNo} {r : RoomNo} {v : Supervisor} (h : s.Shuts t rooms v)
    (hv : v.ending = s.supervisor.ending) (hr : r ∉ rooms) (hp : s.Plain r) : t.Plain r := by
  have hbut {m : MachineNo} (hm : m ∈ s.washersOf r) : (t.machine m).butHeat = (s.machine m).butHeat := by
    have hroom := ((s.mem_washersOf r m).mp hm).2
    rw [h.record m, State.washerIn_false (by rw [hroom]; exact hr)]
    rfl
  refine ⟨fun hrec => ?_, fun m hm => ?_, fun m hm hst y hy => ?_⟩
  · have hstart : t.startUp = s.startUp := h.kept.2 .startUp (by decide)
    obtain ⟨k, hk⟩ := hp.calm (hstart.symm.trans hrec)
    refine ⟨k, (MachineRecord.state_of_butHeat (h.record k).symm).trans ?_⟩
    split
    · exact MachineRecord.shut_recovering hk
    · exact hk
  · rw [h.washersOf] at hm
    rw [h.supervisor, hv]
    exact hp.ending m hm
  · rw [h.washersOf] at hm
    rcases MachineRecord.sessions_of_butHeat (hbut hm).symm with ⟨-, hn⟩ | ⟨x, k, hx, hn⟩
    · rw [hn] at hy
      cases hy
    · rw [hn] at hy
      obtain rfl := Option.some.inj hy
      exact hp.parts m hm ((MachineRecord.state_of_butHeat (hbut hm).symm).symm.trans hst) x hx

/-! ## Rooms re-judged -/

/-- The supervisor after the rooms listed have closed, one after the other. -/
def Supervisor.shuttingAll (v : Supervisor) (clock : Timebase) (rooms : List RoomNo) : Supervisor :=
  rooms.foldl (fun v r => v.shutting clock r) v

theorem Supervisor.shuttingAll_snoc (v : Supervisor) (clock : Timebase) (rooms : List RoomNo) (r : RoomNo) :
    v.shuttingAll clock (rooms ++ [r]) = (v.shuttingAll clock rooms).shutting clock r := by
  simp [Supervisor.shuttingAll]

/-- What several closings leave of the supervisor. -/
theorem Supervisor.shuttingAll_keeps (v : Supervisor) (clock : Timebase) (rooms : List RoomNo) :
    (v.shuttingAll clock rooms).log.length = v.log.length + rooms.length ∧ (v.shuttingAll clock rooms).ending = v.ending ∧
      (v.shuttingAll clock rooms).enables = v.enables ∧ ∀ r, r ∉ rooms → look (v.shuttingAll clock rooms).rooms r = look v.rooms r := by
  induction rooms using List.reverseRecOn with
  | nil => exact ⟨rfl, rfl, rfl, fun _ _ => rfl⟩
  | append_singleton rooms q ih =>
    obtain ⟨hlog, hending, henables, hrooms⟩ := ih
    rw [Supervisor.shuttingAll_snoc]
    refine ⟨?_, hending, henables, fun r hr => ?_⟩
    · simp only [Supervisor.shutting, List.length_append, hlog, List.length_singleton]
      omega
    · rw [List.mem_append, not_or] at hr
      exact (look_set_other _ _ fun h => hr.2 (List.mem_singleton.mpr h)).trans (hrooms r hr.1)

/-- A room that an onset level finds open. -/
def State.wetRoom (s : State) (r : RoomNo) : Bool := !(s.guard r).closed && EdgeSelect.onset (s.guard r).edge (s.guard r).filtered

theorem State.rejudgeRoom_eq {s : State} (h : s.leakRule = true) (r : RoomNo) :
    s.rejudgeRoom r = if s.wetRoom r then s.closeRoom r else s := by
  unfold State.rejudgeRoom State.wetRoom State.roomClosed
  rw [h, Bool.and_true]

/-- The rooms listed re-judged, one after the other: those an onset level finds open close (R176). -/
theorem State.Shuts.rejudged {s t : State} (rs : List RoomNo) (done : List RoomNo) (hnodup : (done ++ rs).Nodup) (hrule : s.leakRule = true)
    (hlog : s.supervisor.log.length + ((done ++ rs).filter s.wetRoom).length ≤ 80) (hplain : ∀ r, s.wetRoom r = true → s.Plain r)
    (h : s.Shuts t (done.filter s.wetRoom) (s.supervisor.shuttingAll s.clock (done.filter s.wetRoom))) :
    s.Shuts (forEach rs (fun r u => u.rejudgeRoom r) t) ((done ++ rs).filter s.wetRoom)
      (s.supervisor.shuttingAll s.clock ((done ++ rs).filter s.wetRoom)) := by
  induction rs generalizing done t with
  | nil =>
    rw [List.append_nil]
    exact h
  | cons r rs ih =>
    have hr : r ∉ done := fun hin => (List.nodup_append.mp hnodup).2.2 r hin r (List.mem_cons_self ..) rfl
    have hnot : r ∉ done.filter s.wetRoom := fun hin => hr (List.mem_of_mem_filter hin)
    obtain ⟨hlength, hending, henables, hrooms⟩ := s.supervisor.shuttingAll_keeps s.clock (done.filter s.wetRoom)
    have hguard : t.guard r = s.guard r := (congrArg (fun v : Supervisor => look v.rooms r) h.supervisor).trans (hrooms r hnot)
    have hleak : t.leakRule = true := by
      have hsame : t.leakRule = s.leakRule := by
        unfold State.leakRule Supervisor.records
        rw [h.supervisor, henables]
      exact hsame.trans hrule
    have hwet : t.wetRoom r = s.wetRoom r := by
      unfold State.wetRoom
      rw [hguard]
    have hlist : done ++ r :: rs = (done ++ [r]) ++ rs := by simp
    rw [hlist] at hnodup hlog ⊢
    rw [forEach_cons]
    refine ih (done ++ [r]) hnodup hlog ?_
    rw [State.rejudgeRoom_eq hleak, hwet, List.filter_append]
    cases hw : s.wetRoom r with
    | false =>
      rw [show [r].filter s.wetRoom = [] by simp [hw], List.append_nil]
      exact h
    | true =>
      rw [show [r].filter s.wetRoom = [r] by simp [hw], Supervisor.shuttingAll_snoc]
      have hroom : t.supervisor.log.length < 80 := by
        rw [h.supervisor, hlength]
        rw [List.filter_append, List.filter_append, List.length_append, List.length_append,
          show ([r].filter s.wetRoom) = [r] by simp [hw], List.length_singleton] at hlog
        omega
      have hclosed := State.closeRoom_shuts hroom (h.plain hending hnot (hplain r hw))
      rw [h.supervisor, show t.clock = s.clock from h.kept.2 .clock (by decide)] at hclosed
      exact h.snoc hclosed hnot

end Sys2Proof.Machine
end

section
/-! SUPPORT. Rooms that close, in the safety terms' words (8.5). -/
namespace Sys2Proof.Machine

/-! ## The supervisor -/

theorem State.shutting_nil (s : State) (v : Supervisor) : s.shutting [] v = { v with counter := v.counter % 4294967296 } := by
  have hrooms : (s.shutting [] v).rooms = v.rooms := by
    ext k hk
    simp [State.shutting, look]
  have heq : s.shutting [] v = { v with
    rooms := (s.shutting [] v).rooms, log := v.log ++ [], counter := v.counter % 4294967296 } := rfl
  rw [heq, hrooms, List.append_nil]

/-- What several closings make of a supervisor, in the safety terms' words. -/
theorem Supervisor.shuttingAll_eq (s : State) (v : Supervisor) {rooms : List RoomNo} (hnodup : rooms.Nodup) :
    rooms = [] ∨ v.shuttingAll s.clock rooms = s.shutting rooms v := by
  induction rooms using List.reverseRecOn with
  | nil => exact .inl rfl
  | append_singleton rooms r ih =>
    right
    have hr : r ∉ rooms := fun hin => (List.nodup_append.mp hnodup).2.2 r hin r (List.mem_singleton.mpr rfl) rfl
    have hidx : (rooms ++ [r]).idxOf r = rooms.length := by
      rw [List.idxOf_append_of_notMem hr]
      simp
    have hold {k : RoomNo} (hk : k ∈ rooms) : (rooms ++ [r]).idxOf k = rooms.idxOf k := List.idxOf_append_of_mem hk
    have hbefore : v.shuttingAll s.clock rooms = { s.shutting rooms v with counter := (v.shuttingAll s.clock rooms).counter } ∧
        (v.shuttingAll s.clock rooms).next = (v.counter + 1 + rooms.length) % 4294967296 := by
      rcases ih (List.nodup_append.mp hnodup).1 with rfl | heq
      · refine ⟨?_, by simp [Supervisor.shuttingAll, Supervisor.next]⟩
        rw [State.shutting_nil]
        rfl
      · rw [heq]
        refine ⟨rfl, ?_⟩
        simp only [Supervisor.next, State.shutting]
        omega
    obtain ⟨hbefore, hnext⟩ := hbefore
    rw [Supervisor.shuttingAll_snoc]
    generalize v.shuttingAll s.clock rooms = u at hbefore hnext
    unfold Supervisor.shutting
    rw [hnext, hbefore]
    have hrooms : (s.shutting rooms v).rooms.set r.1 { look (s.shutting rooms v).rooms r with
        closed := true, valveOpen := false, closing := some ((v.counter + 1 + rooms.length) % 4294967296) } =
          (s.shutting (rooms ++ [r]) v).rooms := by
      ext k hk
      by_cases hkr : k = r.1
      · subst hkr
        simp [State.shutting, look, hr, hidx]
      · have hne : (⟨k, hk⟩ : RoomNo) ≠ r := fun h => hkr (congrArg Fin.val h)
        rw [Vector.getElem_set_ne _ _ (Ne.symm hkr)]
        by_cases hin : (⟨k, hk⟩ : RoomNo) ∈ rooms
        · simp [State.shutting, hin, hold hin]
        · simp [State.shutting, hin, hne]
    have hlog : (s.shutting rooms v).log ++ [⟨(v.counter + 1 + rooms.length) % 4294967296, s.clock.day, s.clock.minute, .room r, .leak,
        .room, .none, none, false⟩] = (s.shutting (rooms ++ [r]) v).log := by
      simp only [State.shutting, List.map_append, List.map_cons, List.map_nil, List.append_assoc, hidx]
      congr 1
      congr 1
      exact List.map_congr_left fun k hk => by rw [hold hk]
    have hcounter : (v.counter + 1 + rooms.length) % 4294967296 = (s.shutting (rooms ++ [r]) v).counter := by
      simp only [State.shutting, List.length_append, List.length_singleton]
      omega
    simp only
    rw [hrooms, hlog, hcounter]
    rfl

/-! ## Machines -/

/-- From `s` to `t` machines and links have changed in heat and lamps alone, and no payment request has been placed. -/
structure State.Alike (s t : State) : Prop where
  record : ∀ k, (t.machine k).butHeat = (s.machine k).butHeat
  link : ∀ k, (t.link k).butHeat = (s.link k).butHeat
  lamps : t.lamps = s.lamps
  waits : s.LampsWait t
  payment : t.payment = s.payment

theorem lampSource_none_iff {r : MachineRecord} {closed : Bool} : lampSource r closed = none ↔ r.state = .unassigned := by
  refine ⟨fun h => ?_, lampSource_unassigned closed⟩
  by_contra hne
  unfold lampSource at h
  rw [if_neg hne] at h
  split at h
  · cases h
  · split at h
    case h_8 => split at h <;> cases h
    case h_12 hun => exact hne hun
    all_goals cases h

/-- A lit machine with a lamp source and a link that is not DISABLED has been sent its source's lamp. -/
theorem State.Lit.sent {s : State} {k : MachineNo} {closed : Bool} (h : s.Lit k) (hclosed : (s.guard (s.machine k).room).closed = closed)
    (hstate : (s.machine k).state ≠ .unassigned) (hlink : (s.link k).state ≠ .disabled) :
    some (s.machine k).lampSent = (lampSource (s.machine k) closed).map (lampFor s.lamps) := by
  unfold State.Lit State.newLamp at h
  rw [hclosed] at h
  cases hsource : lampSource (s.machine k) closed with
  | none => exact absurd (lampSource_none_iff.mp hsource) hstate
  | some x =>
    rw [hsource] at h
    dsimp only at h
    split at h
    · next hsame => rw [Option.map_some, (hsame.resolve_left hlink)]
    · cases h

theorem Link.leaked_state (l : Link) (r : MachineRecord) : (l.leaked r).state = l.state := by
  unfold Link.leaked
  split
  · cases r.session with
    | none => rfl
    | some x =>
      unfold Link.ending
      dsimp only
      split
      · exact Link.sent_state _ _
      · rfl
  · rfl

/-- An onset gives no machine UNASSIGNED. -/
theorem MachineRecord.shut_assigned {r : MachineRecord} (h : r.state ≠ .unassigned) : r.shut.state ≠ .unassigned := by
  have hleaked : r.leaked.state ≠ .unassigned := by
    unfold MachineRecord.leaked
    split
    · exact h
    · split
      · cases r.session with
        | none => exact h
        | some x => exact MachineState.noConfusion
      · exact h
  unfold MachineRecord.shut MachineRecord.emptied
  split
  · split
    · dsimp only
      split <;> exact MachineState.noConfusion
    · exact hleaked
  · exact hleaked

/-- An onset at a washer whose session it does not end. -/
theorem MachineRecord.shut_of_kept {r : MachineRecord} (h : leakStops r.state = false)
    (hparts : r.state = .settling → ∀ y, r.session = some y → y.parts ≠ []) :
    r.shut = { r with abandoned := if r.state = .authorising then some (r.abandoned.getD .leak) else r.abandoned } := by
  have hempty : r.leaked.emptied = r.leaked := by
    unfold MachineRecord.emptied
    split
    · next x hx =>
      refine if_neg fun hdue => ?_
      by_cases hauth : r.state = .authorising
      · have hstate : r.leaked.state = .authorising := by
          unfold MachineRecord.leaked
          rw [if_pos hauth]
          exact hauth
        rw [hstate] at hdue
        cases hdue.1
      · rw [MachineRecord.leaked_of_absent hauth (.inl h)] at hx hdue
        exact hparts hdue.1 x hx hdue.2
    · rfl
  unfold MachineRecord.shut
  rw [hempty]
  by_cases hauth : r.state = .authorising
  · unfold MachineRecord.leaked
    rw [if_pos hauth, if_pos hauth]
  · rw [MachineRecord.leaked_of_absent hauth (.inl h), if_neg hauth]

/-- An onset at a washer whose session it ends. -/
theorem MachineRecord.shut_of_ends {r : MachineRecord} {y : Session} (hst : leakStops r.state = true) (hy : r.session = some y) :
    r.shut = if y.parts ≠ [] then r.settling y (.fault .leak) .done else { r.settling y (.fault .leak) .done with
      state := if r.doorOpened then .idle else .done
      session := none, outstanding := .none, doorOpened := false } := by
  unfold MachineRecord.shut
  rw [MachineRecord.leaked_of_ends hst hy]
  by_cases hparts : y.parts ≠ []
  · rw [if_pos hparts, MachineRecord.ending_eq_settling hparts ((leakStops_iff _).mp hst)]
    exact if_neg fun h => hparts h.2
  · have hempty : y.parts = [] := not_not.mp hparts
    rw [if_neg hparts]
    unfold MachineRecord.emptied
    rw [show (r.ending y (.fault .leak) .done).session = some { y with endCause := some (.fault .leak), heat := .none } from rfl]
    dsimp only
    rw [if_pos ⟨rfl, hempty⟩]
    have hearly : endsBeforeStart r.state = true ↔ r.state = .armed ∨ r.state = .delayed := by
      rcases (leakStops_iff _).mp hst with h | h | h | h <;> rw [h] <;> decide
    simp only [MachineRecord.ending, MachineRecord.settling, hearly]

end Sys2Proof.Machine
end

section
/-! SUPPORT. What an event in which rooms close leaves, and the events: a leak input, its debounce timer, the edge select and the rules
(8.1, 8.5). -/
namespace Sys2Proof.Machine

/-! ## What the closing of rooms leaves -/

theorem leakEnds_iff {s : State} {rooms : List RoomNo} {m : MachineNo} (hin : s.washerIn rooms m = true) :
    s.leakEnds rooms m = leakStops (s.machine m).state := by
  unfold State.leakEnds leakStops
  rw [hin, Bool.true_and]

/-- The SETTLEs of a room's washers, in the safety terms' words. -/
theorem State.leakSettles_eq (s : State) (r : RoomNo) :
    ((s.washersOf r).flatMap fun m => (leakSettle m (s.machine m)).toList) = (indexes 64).filterMap fun m =>
      ((s.machine m).session.filter fun y => s.leakEnds [r] m && y.parts != [] && (s.machine m).outstanding == .none).map
        fun y => .settle m y.id (.fault .leak) y.elapsed y.paused := by
  rw [← List.filterMap_eq_flatMap_toList]
  unfold State.washersOf
  rw [List.filterMap_filter]
  refine List.filterMap_congr fun m _ => ?_
  have hin := s.washerIn_singleton r m
  rw [State.mem_washersOf] at hin
  unfold State.leakEnds leakSettle leakStops
  by_cases hm : s.washerIn [r] m = true
  · obtain ⟨⟨ha, hc⟩, hr⟩ := hin.mp hm
    simp only [hm, ha, hc, hr, beq_self_eq_true, Bool.and_self, if_true, Bool.true_and]
  · have hnot : ((s.machine m).assigned && (s.machine m).cls == .washer && (s.machine m).room == r) = false := by
      rw [← Bool.not_eq_true]
      exact fun h => hm (hin.mpr (by simpa using h))
    rw [hnot, Bool.not_eq_true _ |>.mp hm]
    cases (s.machine m).session <;> simp [Option.filter]

theorem State.shutting_closed (s : State) {rooms : List RoomNo} (v : Supervisor) {r : RoomNo} (h : r ∈ rooms) :
    (look (s.shutting rooms v).rooms r).closed = true := by
  simp [State.shutting, look, h]

theorem State.Alike.washerIn {s t : State} (h : s.Alike t) (rooms : List RoomNo) (m : MachineNo) : t.washerIn rooms m = s.washerIn rooms m := by
  have hq := MachineRecord.eq_of_butHeat (h.record m).symm
  unfold State.washerIn
  rw [hq]

/-- Machines and links other than the washers of the rooms closed, once the event has ended. -/
theorem State.Shuts.othersKept {s₀ s w u t : State} {rooms : List RoomNo} {v : Supervisor} (h : s.Shuts w rooms v) (hsame : s₀.Alike s)
    (he₀ : s.engine = { s₀.engine with machines := s.engine.machines }) (hl₀ : s.line = { s₀.line with links := s.line.links })
    (ht : u.Concludes t) (he : u.engine = w.engine) (hl : u.line = w.line) : OthersKept (s₀.washersIn rooms) s₀ t := by
  have hout {k : MachineNo} (hk : k ∉ s₀.washersIn rooms) : s.washerIn rooms k = false := by
    rw [hsame.washerIn, ← Bool.not_eq_true]
    exact fun hin => hk (by simp [State.washersIn, indexes, hin])
  refine othersKept_of_butHeat (v := w) ht he hl ?_ ?_ (fun k hk => ?_) fun k hk => ?_
  · rw [h.engine, he₀]
  · rw [h.line, hl₀]
  · rw [h.record k, if_neg (by rw [hout hk]; decide), hsame.record k]
  · rw [h.link k, if_neg (by rw [hout hk]; decide), hsame.link k]

/-- Rooms that closed, in the safety terms' words. -/
theorem State.Shuts.roomsClose {s₀ s w u t : State} {rooms : List RoomNo} {v v' : Supervisor} (h : s.Shuts w rooms v')
    (hv : v' = s₀.shutting rooms v) (hsame : s₀.Alike s)
    (hparts : ∀ m, s₀.washerIn rooms m = true → (s₀.machine m).state = .settling → ∀ y, (s₀.machine m).session = some y → y.parts ≠ [])
    (ht : u.Concludes t) (he : u.engine = w.engine) (hl : u.line = w.line) (hf : u.feeder = w.feeder) (hp : u.payment = w.payment)
    (hs : u.supervisor = w.supervisor) : s₀.RoomsClose t rooms v := by
  have hmachine (m : MachineNo) : t.machine m = w.machine m := ht.machine_of_eq he m
  have htable (m : MachineNo) : (t.link m).table = (w.link m).table := ht.table_of_eq hl m
  have hlamps : w.lamps = s₀.lamps := (h.kept.2 .lamps (by decide)).trans hsame.lamps
  have hwaits : s₀.LampsWait w := hsame.waits.trans h.lamps
  have hkeeps (m : MachineNo) : (w.machine m).assigned = (s₀.machine m).assigned ∧ (w.machine m).room = (s₀.machine m).room ∧
      (w.machine m).cls = (s₀.machine m).cls := by
    obtain ⟨ha, hr, hc⟩ := h.machine_keeps m
    have hq := MachineRecord.eq_of_butHeat (hsame.record m).symm
    rw [ha, hr, hc, hq]
    exact ⟨rfl, rfl, rfl⟩
  have hstate {m : MachineNo} (hm : (s₀.machine m).state ≠ .unassigned) : (w.machine m).state ≠ .unassigned := by
    have hsm : (s.machine m).state ≠ .unassigned := (MachineRecord.state_of_butHeat (hsame.record m).symm) ▸ hm
    rw [MachineRecord.state_of_butHeat (h.record m).symm]
    split
    · exact MachineRecord.shut_assigned hsm
    · exact hsm
  have hlinked (m : MachineNo) : (w.link m).state = (s₀.link m).state := by
    refine (Link.state_of_butHeat (h.link m)).trans (Eq.trans ?_ (Link.state_of_butHeat (hsame.link m)))
    split
    · exact Link.leaked_state _ _
    · rfl
  have hfollow : s₀.LampsFollow t rooms := by
    intro m ha hr hst hd lamp
    have hlit := h.lit m ((h.machine_keeps m).1.symm.trans ((hkeeps m).1.trans ha))
      (by rw [← (h.machine_keeps m).2.1, (hkeeps m).2.1]; exact hr)
    have hlamp : lamp = (w.machine m).lampSent := congrArg MachineRecord.lampSent (hmachine m)
    have hclosed : (w.guard (w.machine m).room).closed = true := by
      rw [(hkeeps m).2.1]
      refine (congrArg (fun x : Supervisor => (look x.rooms (s₀.machine m).room).closed) (h.supervisor.trans hv)).trans ?_
      exact s₀.shutting_closed v hr
    have hsent := hlit.sent hclosed (hstate hst) (hlinked m ▸ hd)
    rw [hlamps] at hsent
    refine ⟨by rw [hlamp, hmachine m]; exact hsent, fun hne => ?_⟩
    rw [htable m, hlamp]
    rcases hwaits m with ⟨hold, -⟩ | hwait
    · exact absurd (hold.symm.trans (congrArg MachineRecord.lampSent (hmachine m).symm)) hne
    · exact hwait
  refine ⟨?_, hfollow, ?_, fun m hin => ?_⟩
  · rw [ht.supervisor, hs, h.supervisor, hv]
  · rw [ht.payment, hp, h.payment, hsame.payment]
    have hqueue : (rooms.flatMap fun r => (s.washersOf r).flatMap fun m => (leakSettle m (s.machine m)).toList) =
        rooms.flatMap fun r => (s₀.washersOf r).flatMap fun m => (leakSettle m (s₀.machine m)).toList := by
      refine List.flatMap_congr fun r _ => ?_
      have hwashers : s.washersOf r = s₀.washersOf r := by
        unfold State.washersOf
        refine List.filter_congr fun k _ => ?_
        rw [MachineRecord.eq_of_butHeat (hsame.record k).symm]
      rw [hwashers]
      exact List.flatMap_congr fun m _ => by rw [leakSettle_congr m (hsame.record m).symm]
    rw [hqueue]
    refine congrArg (fun q => ({ s₀.payment with queue := s₀.payment.queue ++ q } : PaymentUnit)) ?_
    exact List.flatMap_congr fun r _ => s₀.leakSettles_eq r
  · intro r linked lamp
    obtain ⟨⟨ha, hc⟩, hroom⟩ : ((s₀.machine m).assigned = true ∧ (s₀.machine m).cls = .washer) ∧ (s₀.machine m).room ∈ rooms := by
      simpa [State.washerIn] using hin
    have hins : s.washerIn rooms m = true := (hsame.washerIn rooms m).trans hin
    refine ⟨fun hd hst => ?_, fun hends => ?_, fun hends y hy => ?_⟩
    · obtain ⟨hlamp, hwait⟩ := hfollow m ha hroom hst hd
      have hsource : lampSource (t.machine m) true = some .outOfOrder := by
        rw [hmachine m]
        exact lampSource_shut (hstate hst) ((hkeeps m).2.2.trans hc)
      rw [hsource] at hlamp
      have hout : (t.machine m).lampSent = s₀.lamps.outOfOrder := Option.some.inj hlamp
      exact ⟨hout, fun hne => (hwait hne).trans (congrArg some hout)⟩
    · rw [leakEnds_iff hin] at hends
      rw [hmachine m, h.record m, if_pos hins, MachineRecord.shut_congr (hsame.record m), MachineRecord.shut_of_kept hends (hparts m hin)]
    · rw [leakEnds_iff hin] at hends
      have hleak : (s₀.machine m).leakEnds := ⟨hends, by rw [hy]; rfl⟩
      obtain ⟨habsent, a, hrec⟩ := h.ended m hins ((MachineRecord.leakEnds_congr (hsame.record m).symm).mpr hleak)
      obtain ⟨c, hc⟩ := MachineRecord.shut_exact (hsame.record m).symm hleak
      have hfinal : t.machine m = (s₀.machine m).shut.lamped lamp := by
        have hlamp : lamp = a := congrArg MachineRecord.lampSent ((hmachine m).trans hrec)
        rw [hmachine m, hrec, hc, hlamp]
        rfl
      obtain ⟨hgrant, hqueued⟩ := Feeder.notMem_places_iff.mp habsent
      have hbut : (w.link m).butHeat = ((s₀.link m).ending (s₀.machine m).state (.fault .leak) y.id).butHeat := by
        rw [h.link m, if_pos hins, Link.leaked_congr (hsame.link m) (hsame.record m)]
        unfold Link.leaked
        rw [if_pos hends, hy]
      have hw := Link.eq_of_butHeat hbut.symm
      refine ⟨?_, by rw [ht.feeder, hf]; exact hgrant, by rw [ht.feeder, hf]; exact hqueued, fun hd hwas => ?_, fun hd hwas => ?_⟩
      · rw [hfinal, MachineRecord.shut_of_ends hends hy]
        by_cases hpy : y.parts ≠ []
        · rw [if_pos hpy, if_pos hpy]
          rfl
        · rw [if_neg hpy, if_neg hpy]
          rfl
      · rw [htable m, hw]
        exact Link.ending_arm hd hwas _ _
      · rw [htable m, hw]
        exact Link.ending_stop hd hwas (by decide) _

end Sys2Proof.Machine
end

section
/-! SUPPORT. A leak input and its debounce timer (R172 to R176). -/
namespace Sys2Proof.Machine

theorem State.kept_guarded (s : State) (r : RoomNo) (g : RoomGuard) : Kept [.supervisor] s (s.guarded r g) := by
  refine ⟨rfl, fun y hy => ?_⟩
  cases y
  case supervisor => simp at hy
  all_goals rfl

/-- An event that changes the guard of one room alone. -/
theorem leads_guarded {c : Instr} {s : State} {r : RoomNo} {g : RoomGuard} (hc : isEvent c) (hr : s.Runs) (he : effect c s = s.guarded r g) :
    Leads (exec c s) s [.supervisor] fun t => t.supervisor = { s.supervisor with rooms := s.supervisor.rooms.set r.1 g } :=
  leads_of_effect hc hr he (s.kept_guarded r g) hr.2 fun _ ht => ht.supervisor

/-- An event that offers notices and changes some other blocks. -/
theorem leadsNoticing_of_effect {c : Instr} {s u : State} {xs : List Block} {holds : State → Prop} {ns : List Notice} (hc : isEvent c)
    (hr : s.Runs) (he : effect c s = u) (hk : Kept (.host :: xs) s u) (hhost : u.host = s.host.offered ns) (hh : ∀ t, u.Concludes t → holds t)
    (hstore : Block.store ∉ .host :: xs := by decide) : LeadsNoticing (exec c s) s xs holds :=
  leads_of_effect hc hr he hk (hk.settled hr.2 hstore) fun t ht => ⟨⟨ns, by rw [ht.host, hhost]⟩, hh t ht⟩

theorem LeadsNoticing.imp {res : Host.Outcome State Fault Refusal} {s : State} {xs : List Block} {p q : State → Prop} (h : LeadsNoticing res s xs p)
    (hpq : ∀ t, p t → q t) : LeadsNoticing res s xs q := by
  obtain ⟨t, ht, hkept, hns, hp⟩ := h
  exact ⟨t, ht, hkept, hns, hpq t hp⟩

/-- A record written about a room, with its notice, and the room's guard replaced (R165, R173). -/
theorem State.roomRecord_eq {s : State} (hlog : s.supervisor.log.length < 80) (r : RoomNo) (code : FaultCode) (sev : Severity) :
    (s.writeRecord (.room r) code sev .none).supervisor = { s.supervisor with
      log := s.supervisor.log ++ [⟨s.supervisor.next, s.clock.day, s.clock.minute, .room r, code, sev, .none, none, false⟩]
      counter := s.supervisor.next } := by
  rw [s.writeRecord_supervisor, Supervisor.makeRoom_of_room hlog]

/-- The room `r` debounced. -/
def RoomGuard.debounced (g : RoomGuard) : RoomGuard := { g with filtered := g.input, debounce := false }

theorem onset_iff (e : EdgeSelect) (high : Bool) :
    EdgeSelect.onset e high = true ↔ e = .rising ∧ high = true ∨ e = .falling ∧ high = false := by
  cases e <;> simp [EdgeSelect.onset]

/-- What the end of tDEBOUNCE does (R172). -/
theorem State.debounceExpiry_on {s : State} {r : RoomNo} (h : (s.guard r).debounce = true) : s.debounceExpiry r =
    if (s.guard r).edge = .off ∨ look s.supervisor.enables 4 = false then s.guarded r (s.guard r).debounced
    else if EdgeSelect.onset (s.guard r).edge (s.guard r).input then (s.guarded r (s.guard r).debounced).takeOnset r
    else (s.guarded r (s.guard r).debounced).takeClear r := by
  unfold State.debounceExpiry
  rw [if_pos h]
  rfl

/-- A new record of room `r` alone, its guard being `g` after it. -/
theorem leadsNoticing_roomRecord {c : Instr} {s : State} {r : RoomNo} {g : RoomGuard} {code : FaultCode} {sev : Severity} (hc : isEvent c)
    (hr : s.Runs) (hlog : s.supervisor.log.length < 80)
    (he : effect c s = (((s.guarded r (s.guard r).debounced).writeRecord (.room r) code sev .none).modGuard r fun _ => g).faultNotice) :
    LeadsNoticing (exec c s) s [.supervisor] fun t => t.supervisor = { s.supervisor with
      rooms := s.supervisor.rooms.set r.1 g
      log := s.supervisor.log ++ [⟨s.supervisor.next, s.clock.day, s.clock.minute, .room r, code, sev, .none, none, false⟩]
      counter := s.supervisor.next } := by
  have hwritten := State.roomRecord_eq (s := s.guarded r (s.guard r).debounced) hlog r code sev
  obtain ⟨ns, hns⟩ := (((s.guarded r (s.guard r).debounced).writeRecord (.room r) code sev .none).modGuard r fun _ => g).faultNotice_eq
  refine leadsNoticing_of_effect (ns := ns) hc hr (he.trans hns) ?_ rfl fun t ht => ?_
  · refine ⟨rfl, fun y hy => ?_⟩
    cases y
    case host | supervisor => simp at hy
    all_goals rfl
  · rw [ht.supervisor]
    have hset : ((s.supervisor.rooms.set r.1 (s.guard r).debounced).set r.1 g) = s.supervisor.rooms.set r.1 g := Vector.set_set ..
    show ({ ((s.guarded r (s.guard r).debounced).writeRecord (.room r) code sev .none).supervisor with
      rooms := Vector.set _ r.1 g } : Supervisor) = _
    rw [hwritten]
    show ({ s.supervisor with
      rooms := (s.supervisor.rooms.set r.1 (s.guard r).debounced).set r.1 g
      log := s.supervisor.log ++ [⟨s.supervisor.next, s.clock.day, s.clock.minute, .room r, code, sev, .none, none, false⟩]
      counter := s.supervisor.next } : Supervisor) = _
    rw [hset]

theorem State.guarded_self (s : State) (r : RoomNo) : s.guarded r (s.guard r) = s := by
  simp [State.guarded, State.guard, look]

theorem State.writeRecord_guard (s : State) (source : Source) (code : FaultCode) (sev : Severity) (ref : Reference) (r : RoomNo) :
    (s.writeRecord source code sev ref).guard r = s.guard r := by
  show look (s.writeRecord source code sev ref).supervisor.rooms r = _
  rw [s.writeRecord_supervisor source code sev ref]
  rfl

theorem State.writeRecord_counter (s : State) (source : Source) (code : FaultCode) (sev : Severity) (ref : Reference) :
    (s.writeRecord source code sev ref).supervisor.counter = s.supervisor.next := by
  rw [s.writeRecord_supervisor source code sev ref]

/-- A record written, and the guard of room `r` as it was. -/
theorem State.writeRecord_modGuard (s : State) (source : Source) (code : FaultCode) (sev : Severity) (ref : Reference) (r : RoomNo) :
    ((s.writeRecord source code sev ref).modGuard r fun _ => s.guard r) = s.writeRecord source code sev ref := by
  rw [State.modGuard_eq, ← s.writeRecord_guard source code sev ref r, State.guarded_self]

/-- The closing record of a room, acknowledged or not. -/
theorem State.closing_acked {s : State} {r : RoomNo} {q : Nat} {x : FaultRecord} (hq : (s.guard r).closing = some q)
    (hx : s.supervisor.log.find? (fun y => y.sequence == q) = some x) :
    (((s.guard r).closing.bind s.supervisor.record?).all fun x => x.acknowledged) = x.acknowledged := by
  rw [hq, Option.bind_some, Supervisor.record?, hx]
  rfl

/-- An onset at a closed room: a further record, which becomes the closing record where that is acknowledged (R174). -/
theorem State.takeOnset_closed {s : State} {r : RoomNo} {q : Nat} {x : FaultRecord} (hclosed : (s.guard r).closed = true)
    (hq : (s.guard r).closing = some q) (hx : s.supervisor.log.find? (fun y => y.sequence == q) = some x) : s.takeOnset r =
      ((s.writeRecord (.room r) .leak (if x.acknowledged then .room else .note) .none).modGuard r fun _ =>
        if x.acknowledged then { s.guard r with closing := some s.supervisor.next } else s.guard r).faultNotice := by
  unfold State.takeOnset State.roomClosed
  rw [if_pos hclosed]
  dsimp only
  rw [State.closing_acked hq hx]
  cases x.acknowledged with
  | true =>
    simp only [if_true, State.modGuard_eq, State.writeRecord_guard, State.writeRecord_counter]
  | false =>
    simp only [Bool.false_eq_true, if_false, State.writeRecord_modGuard]

theorem State.takeClear_eq (s : State) (r : RoomNo) :
    s.takeClear r = ((s.writeRecord (.room r) .leakCleared .note .none).modGuard r fun _ => s.guard r).faultNotice := by
  rw [State.writeRecord_modGuard]
  rfl

/-- A state whose supervisor alone is another. -/
theorem State.alike_guarded (s : State) (r : RoomNo) (g : RoomGuard) : s.Alike (s.guarded r g) where
  record _ := rfl
  link _ := rfl
  lamps := rfl
  waits := State.LampsWait.refl s
  payment := rfl

/-- A closing touches machines, links, the feeder, payment requests and the supervisor (R173). -/
theorem State.Shuts.keptBlocks {s t : State} {rooms : List RoomNo} {v : Supervisor} (h : s.Shuts t rooms v) :
    Kept [.host, .supervisor, .engine, .line, .feeder, .payment] s t := h.kept.mono (by decide)

/-- The closing of a room without washers (R43, R173). -/
theorem State.closeRoom_empty {s : State} {r : RoomNo} (hlog : s.supervisor.log.length < 80) (hnone : s.washersOf r = []) :
    s.closeRoom r = (({ s with supervisor := s.supervisor.shutting s.clock r } : State).relampRoom r).faultNotice := by
  unfold State.closeRoom
  dsimp only
  rw [State.onset_eq hlog, hnone]
  rfl

theorem State.washersOf_empty {s : State} {r : RoomNo}
    (h : ∀ m, (s.machine m).assigned = true → (s.machine m).cls = .washer → (s.machine m).room ≠ r) : s.washersOf r = [] := by
  refine List.eq_nil_iff_forall_not_mem.mpr fun m hm => ?_
  obtain ⟨⟨ha, hc⟩, hr⟩ := (s.mem_washersOf r m).mp hm
  exact h m ha hc hr

/-- An onset that closes an open room, where no washer stands in it: its lamps are recomputed and nothing else of its machines changes. -/
theorem leadsNoticing_closesEmpty {c : Instr} {s : State} {r : RoomNo} {g : RoomGuard} (hc : isEvent c) (hr : s.Runs)
    (hlog : s.supervisor.log.length < 80) (he : effect c s = (s.guarded r g).closeRoom r) (hnone : s.washersOf r = []) :
    LeadsNoticing (exec c s) s [.supervisor, .engine, .line] fun t =>
      t.supervisor = (s.guarded r g).supervisor.shutting s.clock r ∧ s.Relamps t r true := by
  let base : State := { s.guarded r g with supervisor := (s.guarded r g).supervisor.shutting s.clock r }
  have hclose := he.trans (State.closeRoom_empty (s := s.guarded r g) hlog hnone)
  have hrelamped := base.relampRoom_relamped r
  obtain ⟨ns, hns⟩ := (base.relampRoom r).faultNotice_eq
  have hsup : (base.relampRoom r).supervisor = base.supervisor := by rw [hrelamped.same]
  refine leadsNoticing_of_effect (ns := ns) hc hr (hclose.trans hns) ?_ ?_ fun t ht => ⟨ht.supervisor.trans hsup, ?_, fun m => ?_⟩
  · refine Kept.and (xs := [.host, .supervisor, .engine, .line]) (ys := [.host]) ?_ ((base.relampRoom r).kept_offering ns)
    rw [hrelamped.same]
    refine ⟨rfl, fun y hy => ?_⟩
    cases y
    case host | supervisor | engine | line => simp at hy
    all_goals rfl
  · show (base.relampRoom r).host.offered ns = s.host.offered ns
    rw [show (base.relampRoom r).host = s.host by rw [hrelamped.same]; rfl]
  · exact hrelamped.othersKept ht rfl rfl
  · have hleaves := hrelamped.leaves ht rfl rfl m
    have hmem : m ∈ base.machinesOf r ↔ (s.machine m).assigned = true ∧ (s.machine m).room = r := base.mem_machinesOf r m
    by_cases hin : (s.machine m).assigned = true ∧ (s.machine m).room = r
    · have hclosed : (base.guard (base.machine m).room).closed = true := by
        rw [show (base.machine m).room = r from hin.2]
        exact congrArg RoomGuard.closed (look_set_self _ _ _)
      rw [if_pos (hmem.mpr hin), hclosed] at hleaves
      rw [if_pos hin]
      exact hleaves
    · rw [if_neg (mt hmem.mp hin)] at hleaves
      rw [if_neg hin]
      exact hleaves

/-- An onset that closes an open room (R173). -/
theorem leadsNoticing_closes {c : Instr} {s : State} {r : RoomNo} {g : RoomGuard} (hc : isEvent c) (hr : s.Runs)
    (hlog : s.supervisor.log.length < 80) (he : effect c s = (s.guarded r g).closeRoom r)
    (hplain : s.LeaksPlainly [r]) :
    LeadsNoticing (exec c s) s [.supervisor, .engine, .line, .feeder, .payment] fun t =>
      OthersKept (s.washersIn [r]) s t ∧ s.RoomsClose t [r] (s.guarded r g).supervisor := by
  obtain ⟨-, hcalm, hwashers⟩ := hplain
  have hin {m : MachineNo} (hm : m ∈ s.washersOf r) : s.washerIn [r] m = true := (s.washerIn_singleton r m).mpr hm
  have hshuts := State.closeRoom_shuts (s := s.guarded r g) (r := r) hlog
    ⟨hcalm, fun m hm => (hwashers m (hin hm)).1, fun m hm => (hwashers m (hin hm)).2⟩
  obtain ⟨ns, hns⟩ := hshuts.host
  have hv : (s.guarded r g).supervisor.shutting (s.guarded r g).clock r = s.shutting [r] (s.guarded r g).supervisor :=
    (Supervisor.shuttingAll_eq s (s.guarded r g).supervisor (List.nodup_singleton r)).resolve_left (List.cons_ne_nil _ _)
  refine leadsNoticing_of_effect (ns := ns) hc hr he ?_ hns fun t ht => ⟨?_, ?_⟩
  · exact ((s.kept_guarded r g).mono (by decide)).and hshuts.keptBlocks
  · exact hshuts.othersKept (s.alike_guarded r g) rfl rfl ht rfl rfl
  · exact hshuts.roomsClose hv (s.alike_guarded r g) (fun m hm => (hwashers m hm).2) ht rfl rfl rfl rfl rfl

/-- Of two changes of one guard the second is the one that holds. -/
theorem State.guarded_guarded (s : State) (r : RoomNo) (g h : RoomGuard) : (s.guarded r g).guarded r h = s.guarded r h := by
  have hset : (s.supervisor.rooms.set r.1 g).set r.1 h = s.supervisor.rooms.set r.1 h := Vector.set_set ..
  unfold State.guarded
  dsimp only
  rw [hset]

/-- A pin's level and tDEBOUNCE set (R172). -/
theorem State.setInput_debounce (s : State) (r : RoomNo) (high : Bool) :
    ((s.setInput r high).modGuard r fun x => { x with debounce := decide (high ≠ x.filtered) }) =
      s.guarded r { s.guard r with input := high, debounce := high != (s.guard r).filtered } := by
  have hbne : decide (high ≠ (s.guard r).filtered) = (high != (s.guard r).filtered) := by
    cases high <;> cases (s.guard r).filtered <;> rfl
  rw [State.setInput, State.modGuard_eq, State.modGuard_eq, State.guarded_guarded, State.guarded_guard, hbne]

/-- The supervisor after the end of tDEBOUNCE that closes room `r` (R173). -/
theorem State.shutting_debounced (s : State) (r : RoomNo) : (s.guarded r (s.guard r).debounced).supervisor.shutting s.clock r =
    { s.supervisor with
      rooms := s.supervisor.rooms.set r.1 { s.guard r with
        filtered := (s.guard r).input, debounce := false, closed := true, valveOpen := false, closing := some s.supervisor.next }
      log := s.supervisor.log ++ [⟨s.supervisor.next, s.clock.day, s.clock.minute, .room r, .leak, .room, .none, none, false⟩]
      counter := s.supervisor.next } := by
  unfold Supervisor.shutting
  have hlook : look (s.guarded r (s.guard r).debounced).supervisor.rooms r = (s.guard r).debounced := s.guarded_guard r _
  rw [hlook]
  have hset (h : RoomGuard) : (s.guarded r (s.guard r).debounced).supervisor.rooms.set r.1 h = s.supervisor.rooms.set r.1 h := Vector.set_set ..
  rw [hset]
  rfl

theorem State.washerIn_one (s : State) (r : RoomNo) : s.washerIn [r] = fun m =>
    (s.machine m).assigned && (s.machine m).cls == .washer && (s.machine m).room == r := by
  funext m
  rw [State.washerIn, List.contains_cons, List.contains_nil, Bool.or_false]

/-- Settles O46: the input by what it changes; tDEBOUNCE by the rule, the edge and the room. -/
theorem leakInputIsTaken : Obligations.LeakInputIsTaken := by
  intro s r g room n shut record
  have hin (high : Bool) : isEvent (.leakInputChange r high) := ⟨nofun, nofun⟩
  have hexp : isEvent (.debounceExpiry r) := ⟨nofun, nofun⟩
  refine ⟨fun high hr hst hne => ?_, fun high hr heq => ?_, fun high hr hst hne => ?_, fun high hp => ?_, fun hr hoff => ?_,
    fun hr hon hoff => ?_, fun hr hon hrule hlog => ?taken⟩
  · refine leads_guarded (hin high) hr ?_
    show s.leakInput r high = _
    unfold State.leakInput
    rw [if_neg (Ne.symm hne), hst, if_neg Bool.false_ne_true]
    exact s.setInput_debounce r high
  · exact leads_nothing (hin high) hr (if_pos heq.symm)
  · refine leads_guarded (hin high) hr ?_
    show s.leakInput r high = _
    unfold State.leakInput
    rw [if_neg (Ne.symm hne), hst]
    rfl
  · exact exec_unpowered (hin high) hp
  · exact leads_nothing hexp hr (if_neg (by rw [show (s.guard r).debounce = false from hoff]; decide))
  · exact leads_guarded hexp hr ((State.debounceExpiry_on hon).trans (if_pos hoff))
  case taken =>
    have hedge : ¬ ((s.guard r).edge = .off ∨ look s.supervisor.enables 4 = false) ∨ g.edge = .off := by
      by_cases h : g.edge = .off
      · exact .inr h
      · exact .inl fun hc => hc.elim h fun h4 => by rw [hrule] at h4; cases h4
    have hset : (s.guarded r g.debounced).guard r = g.debounced := s.guarded_guard r _
    have honsetTaken (honset : g.edge = .rising ∧ g.input = true ∨ g.edge = .falling ∧ g.input = false) :
        effect (.debounceExpiry r) s = (s.guarded r g.debounced).takeOnset r := by
      have hwet : EdgeSelect.onset g.edge g.input = true := (onset_iff _ _).mpr honset
      have hne : g.edge ≠ .off := by rcases honset with ⟨he, -⟩ | ⟨he, -⟩ <;> rw [he] <;> decide
      exact (State.debounceExpiry_on hon).trans ((if_neg (hedge.resolve_right hne)).trans (if_pos hwet))
    refine ⟨fun hclear => ?_, fun honset hopen hnone => ?_, fun honset hopen hcalm hplain => ?_, fun honset hclosed q hq x hx => ?_⟩
    · have hwet : EdgeSelect.onset g.edge g.input = false := by
        rcases hclear with ⟨he, hi⟩ | ⟨he, hi⟩ <;> rw [he, hi] <;> rfl
      have hne : g.edge ≠ .off := by rcases hclear with ⟨he, -⟩ | ⟨he, -⟩ <;> rw [he] <;> decide
      have heffect : effect (.debounceExpiry r) s = (s.guarded r g.debounced).takeClear r :=
        (State.debounceExpiry_on hon).trans ((if_neg (hedge.resolve_right hne)).trans (if_neg (by rw [show EdgeSelect.onset (s.guard r).edge (s.guard r).input = false from hwet]; decide)))
      rw [State.takeClear_eq, hset] at heffect
      exact leadsNoticing_roomRecord hexp hr hlog heffect
    · have heffect : effect (.debounceExpiry r) s = (s.guarded r g.debounced).closeRoom r :=
        (honsetTaken honset).trans (if_neg (by rw [State.roomClosed, hset, show g.debounced.closed = false from hopen]; decide))
      refine (leadsNoticing_closesEmpty hexp hr hlog heffect (State.washersOf_empty hnone)).imp fun t ht => ?_
      rwa [s.shutting_debounced] at ht
    · have heffect : effect (.debounceExpiry r) s = (s.guarded r g.debounced).closeRoom r :=
        (honsetTaken honset).trans (if_neg (by rw [State.roomClosed, hset, show g.debounced.closed = false from hopen]; decide))
      have hwasher := s.washerIn_one r
      have hplainly : s.LeaksPlainly [r] := ⟨by simp only [List.length_singleton]; omega, hcalm, by rwa [hwasher]⟩
      refine (leadsNoticing_closes hexp hr hlog heffect hplainly).imp fun t ⟨hothers, hsup, hlamps, hpay, hwashers⟩ => ?_
      have hv : (s.guarded r g.debounced).supervisor.shutting s.clock r = s.shutting [r] (s.guarded r g.debounced).supervisor :=
        (Supervisor.shuttingAll_eq s (s.guarded r g.debounced).supervisor (List.nodup_singleton r)).resolve_left (List.cons_ne_nil _ _)
      rw [← hv, s.shutting_debounced] at hsup
      rw [List.flatMap_singleton] at hpay
      unfold State.leakEnds at hpay hwashers
      unfold State.washersIn at hothers
      rw [hwasher] at hpay hwashers hothers
      exact ⟨hsup, hothers, hlamps, hpay, hwashers⟩
    · have heffect := (honsetTaken honset).trans
        (State.takeOnset_closed (s := s.guarded r g.debounced) (by rw [hset]; exact hclosed) (by rw [hset]; exact hq) hx)
      rw [hset] at heffect
      cases hack : x.acknowledged with
      | true =>
        rw [hack] at heffect
        exact leadsNoticing_roomRecord hexp hr hlog heffect
      | false =>
        rw [hack] at heffect
        exact leadsNoticing_roomRecord hexp hr hlog heffect

end Sys2Proof.Machine
end

section
/-! SUPPORT. Requests by which rooms close: RULES_SET (8.1, 8.5). -/
namespace Sys2Proof.Machine

/-! ## The rules' tables -/

theorem update_look {α : Type} {n : Nat} (v : Vector α n) (i : Fin n) : update v i (fun x => x) = v := by
  simp [update, look]

theorem newEnables_eq (old : Vector Bool 8) (i : RulesItem) :
    newEnables old i = Vector.ofFn fun k : Fin 8 => if look i.enableSelector k then look i.enableValues k else look old k := by
  have hfold : newEnables old i = (indexes 8).foldl
      (fun v k => update v k fun x => if look i.enableSelector k then look i.enableValues k else x) old := by
    unfold newEnables
    congr 1
    funext v k
    cases look i.enableSelector k
    · exact (update_look v k).symm
    · rfl
  ext k hk
  have hlook := look_foldl_update (fun k x => if look i.enableSelector k then look i.enableValues k else x) old ⟨k, hk⟩
  rw [hfold, Vector.getElem_ofFn]
  exact hlook

theorem newSeverities_eq (old : Vector Severity 7) (i : RulesItem) :
    newSeverities old i = Vector.ofFn fun k : Fin 7 => (look i.severities k).getD (look old k) := by
  have hfold : newSeverities old i = (indexes 7).foldl (fun v k => update v k fun x => (look i.severities k).getD x) old := by
    unfold newSeverities
    congr 1
    funext v k
    cases look i.severities k
    · exact (update_look v k).symm
    · rfl
  ext k hk
  have hlook := look_foldl_update (fun k x => (look i.severities k).getD x) old ⟨k, hk⟩
  rw [hfold, Vector.getElem_ofFn]
  exact hlook

theorem toList_eq_ofFn {α : Type} {n : Nat} (v : Vector α n) : v.toList = List.ofFn (look v) :=
  List.ext_getElem (by simp) fun _ _ _ => by simp [look]

theorem flags8_eq (v : Vector Bool 8) : flags8 v = v.toList := by
  rw [toList_eq_ofFn]
  simp [flags8, List.ofFn_succ]

theorem severities7_eq {α : Type} (v : Vector α 7) : severities7 v = v.toList := by
  rw [toList_eq_ofFn]
  simp [severities7, List.ofFn_succ]

/-- An entry of a table, by its index. -/
theorem mem_toList_iff {α : Type} {n : Nat} (v : Vector α n) (x : α) : x ∈ v.toList ↔ ∃ k, look v k = x := by
  rw [Vector.mem_toList_iff, Vector.mem_iff_getElem]
  exact ⟨fun ⟨k, hk, h⟩ => ⟨⟨k, hk⟩, h⟩, fun ⟨k, h⟩ => ⟨k.1, k.2, h⟩⟩

/-- What a RULES_SET is refused for (R160). -/
theorem rulesItem_isBad_iff (i : RulesItem) : RulesItem.isBad i = true ↔ (∃ k, look i.severities k = some .room) ∨
    ((∀ k, look i.enableSelector k = false) ∧ ∀ k, look i.severities k = none) := by
  unfold RulesItem.isBad
  rw [flags8_eq, severities7_eq, Bool.or_eq_true, Bool.and_eq_true, List.any_eq_true]
  refine or_congr ?_ (and_congr ?_ ?_)
  · constructor
    · rintro ⟨x, hx, heq⟩
      obtain ⟨k, hk⟩ := (mem_toList_iff _ _).mp hx
      exact ⟨k, hk.trans (eq_of_beq heq)⟩
    · rintro ⟨k, hk⟩
      exact ⟨_, (mem_toList_iff _ _).mpr ⟨k, hk⟩, by rfl⟩
  · rw [Bool.not_eq_true', List.any_eq_false]
    constructor
    · exact fun h k => Bool.not_eq_true _ |>.mp (h _ ((mem_toList_iff _ _).mpr ⟨k, rfl⟩))
    · intro h x hx
      obtain ⟨k, rfl⟩ := (mem_toList_iff _ _).mp hx
      rw [h k]
      decide
  · rw [Bool.not_eq_true', List.any_eq_false]
    constructor
    · exact fun h k => Option.not_isSome_iff_eq_none.mp (h _ ((mem_toList_iff _ _).mpr ⟨k, rfl⟩))
    · intro h x hx
      obtain ⟨k, rfl⟩ := (mem_toList_iff _ _).mp hx
      rw [h k]
      decide

/-! ## Requests that close rooms -/

theorem State.washerIn_iff (s : State) (rooms : List RoomNo) (m : MachineNo) : s.washerIn rooms m = true ↔
    ((s.machine m).assigned = true ∧ (s.machine m).cls = .washer) ∧ (s.machine m).room ∈ rooms := by
  simp [State.washerIn]

/-- A state with the same machines, links, lamp map and payment unit. -/
theorem State.alike_of_same (s : State) {t : State} (he : t.engine = s.engine) (hl : t.line = s.line) (hm : t.lamps = s.lamps)
    (hp : t.payment = s.payment) : s.Alike t where
  record k := by rw [State.machine, State.machine, he]
  link k := by rw [State.link, State.link, hl]
  lamps := hm
  waits k := .inl ⟨by rw [State.machine, State.machine, he], by rw [State.link, State.link, hl]⟩
  payment := hp

theorem RoomGuard.wet_eq (g : RoomGuard) (high : Bool) : g.wet high = EdgeSelect.onset g.edge high := by
  unfold RoomGuard.wet EdgeSelect.onset
  cases g.edge <;> cases high <;> rfl

/-- A request by which rooms close, from a state that only heat, lamps, notices and the blocks listed set apart from the one before. -/
theorem repliesNoticing_closes {c : Instr} {s base w : State} {tag : Byte} {q : Request} {res : List Byte} {xs : List Block}
    {rooms : List RoomNo} {v v' : Supervisor} {holds : State → Prop} (h : s.Takes) (hc : c.request? = some (tag, q))
    (hp : Request.passes q = true) (ho : (s.withRequest tag q).own q = w.reply .ok res) (hsame : s.Alike base)
    (he : base.engine = { s.engine with machines := base.engine.machines }) (hl : base.line = { s.line with links := base.line.links })
    (hhost : ∃ ns, base.host = (s.withRequest tag q).host.offered ns) (hbase : Kept (.host :: xs) s base)
    (hshuts : base.Shuts w rooms v') (hv : v' = s.shutting rooms v)
    (hparts : ∀ m, s.washerIn rooms m = true → (s.machine m).state = .settling → ∀ y, (s.machine m).session = some y → y.parts ≠ [])
    (hh : ∀ t, t.feeder = w.feeder → OthersKept (s.washersIn rooms) s t → s.RoomsClose t rooms v → holds t)
    (hxs : ∀ b ∈ [Block.supervisor, .engine, .line, .feeder, .payment], b ∈ xs := by decide)
    (hstore : Block.store ∉ .host :: xs := by decide) : RepliesNoticing (exec c s) s tag q .ok res xs holds := by
  obtain ⟨ns, hns⟩ := hhost
  obtain ⟨ms, hms⟩ := hshuts.host
  have hhost : w.host = { s.host.offered (ns ++ ms) with buffer := [requestFrame tag q] } := by
    rw [hms, hns, ← HostLink.offered_append]
    exact HostLink.offered_buffer s.host _ _
  have hkept : Kept (.host :: xs) s w := by
    refine hbase.and (hshuts.kept) fun b hb => ?_
    by_cases hhost : b = .host
    · exact hhost ▸ List.mem_cons_self ..
    · refine List.mem_cons_of_mem _ (hxs b ?_)
      cases b <;> simp at hb hhost ⊢
  refine ⟨ns ++ ms, repliesFrom_owned _ h hc hp ho hhost (hkept.settled h.1.2 hstore) hkept fun t ht => hh t ?_ ?_ ?_⟩
  · exact ht.feeder.trans (State.reply_feeder _ _ _)
  · exact hshuts.othersKept hsame he hl ht (State.reply_engine _ _ _) (State.reply_line _ _ _)
  · exact hshuts.roomsClose hv hsame hparts ht (State.reply_engine _ _ _) (State.reply_line _ _ _) (State.reply_feeder _ _ _)
      (State.reply_payment _ _ _) (State.reply_supervisor _ _ _)

/-- Nothing is re-judged where no room is wet. -/
theorem State.forEach_rejudge_dry {s : State} {rs : List RoomNo} (h : ∀ r ∈ rs, s.wetRoom r = false) :
    forEach rs (fun r u => u.rejudgeRoom r) s = s := by
  induction rs with
  | nil => rfl
  | cons r rs ih =>
    have hdry : s.rejudgeRoom r = s := by
      unfold State.rejudgeRoom
      refine if_neg fun hc => ?_
      have hwet := h r (List.mem_cons_self ..)
      unfold State.wetRoom at hwet
      simp only [Bool.and_eq_true, State.roomClosed] at hc
      rw [hc.1.1, hc.2] at hwet
      cases hwet
    rw [forEach_cons, hdry]
    exact ih fun k hk => h k (List.mem_cons_of_mem _ hk)

/-- Settles O44: the tables entry by entry; the rooms re-judged in order where LEAK comes to be enabled. -/
theorem rulesAreSet : Obligations.RulesAreSet := by
  intro s tag i h o q bad enables severities
  have hbad : RulesItem.isBad i = true ↔ bad := rulesItem_isBad_iff i
  have hen : newEnables s.supervisor.enables i = enables := newEnables_eq _ i
  have hsev : newSeverities s.supervisor.severities i = severities := newSeverities_eq _ i
  refine ⟨fun hb => ?_, fun hb hlock => ?_, ?_⟩
  · exact refuses_owned h rfl rfl (if_pos (hbad.mpr hb))
  · exact refuses_owned h rfl rfl ((if_neg (mt hbad.mp hb)).trans (if_pos hlock))
  intro results v wet hb hlock
  let base : State := { s.withRequest tag q with supervisor := v }
  have hleak : base.leakRule = look enables 4 := rfl
  have hold : s.leakRule = look s.supervisor.enables 4 := rfl
  have hown : (s.withRequest tag q).own q =
      (if base.leakRule && !s.leakRule then forEach (indexes 4) (fun r u => u.rejudgeRoom r) base else base).reply .ok results := by
    show State.rulesSet _ i = _
    unfold State.rulesSet
    rw [if_neg (mt hbad.mp hb), if_neg (by rw [show (s.withRequest tag q).supervisor.ruleLock = false from hlock]; decide)]
    simp only [show (s.withRequest tag q).supervisor = s.supervisor from rfl]
    rw [hen, hsev, flags8_eq, severities7_eq]
    rfl
  have hwet : (indexes 4).filter base.wetRoom = wet :=
    List.filter_congr fun r _ => by rw [RoomGuard.wet_eq]; rfl
  refine ⟨fun hdry => ?_, fun hnow hbefore hsome hplainly => ?_⟩
  · have hsame : (if base.leakRule && !s.leakRule then forEach (indexes 4) (fun r u => u.rejudgeRoom r) base else base) = base := by
      rcases hdry with hrule | hnone
      · refine if_neg fun hc => ?_
        rw [hleak, hold, Bool.and_eq_true] at hc
        rw [hrule hc.1] at hc
        exact absurd hc.2 (by decide)
      · have hrooms : ∀ r ∈ indexes 4, base.wetRoom r = false := fun r hr =>
          Bool.not_eq_true _ |>.mp fun hw => List.not_mem_nil (hnone ▸ hwet ▸ List.mem_filter.mpr ⟨hr, hw⟩)
        rw [State.forEach_rejudge_dry hrooms, ite_self]
    rw [hsame] at hown
    exact replies_owned h rfl rfl hown rfl (h.1.2.of_store rfl) (kept_supervisor _ _ _ _) fun _ ht =>
      ht.supervisor.trans (State.reply_supervisor _ _ _)
  · rw [if_pos (by rw [hleak, hold, hnow, hbefore]; rfl)] at hown
    obtain ⟨hroom, hcalm, hwashers⟩ := hplainly
    have hnodup : wet.Nodup := (List.nodup_finRange 4).filter _
    have hshuts := State.Shuts.rejudged (s := base) (indexes 4) [] (List.nodup_finRange 4) hnow (by rw [List.nil_append, hwet]; exact hroom)
      (fun r hr => ?plain) (State.Shuts.refl base)
    case plain =>
      have hin {m : MachineNo} (hm : m ∈ base.washersOf r) : s.washerIn wet m = true := by
        obtain ⟨⟨ha, hcls⟩, hroom⟩ := (base.mem_washersOf r m).mp hm
        have hmem : r ∈ wet := hwet ▸ List.mem_filter.mpr ⟨List.mem_finRange r, hr⟩
        refine (s.washerIn_iff wet m).mpr ⟨⟨ha, hcls⟩, ?_⟩
        rw [show (s.machine m).room = r from hroom]
        exact hmem
      exact ⟨hcalm, fun m hm => (hwashers m (hin hm)).1, fun m hm => (hwashers m (hin hm)).2⟩
    rw [List.nil_append, hwet] at hshuts
    have hbase : Kept [.host, .supervisor, .engine, .line, .feeder, .payment] s base :=
      (kept_supervisor s tag q v).mono (by decide)
    exact repliesNoticing_closes (base := base) (v := v) h rfl rfl hown (s.alike_of_same rfl rfl rfl rfl) rfl rfl ⟨[], rfl⟩ hbase hshuts
      ((Supervisor.shuttingAll_eq s v hnodup).resolve_left hsome) (fun m hm => (hwashers m hm).2) fun t _ hothers hcloses => ⟨hothers, hcloses⟩

end Sys2Proof.Machine
end

section
/-! SUPPORT. CONFIG_SET of the feeder's items, ROOM and GRANT (7.1, 7.5, 7.8, 8.5). -/
namespace Sys2Proof.Machine

/-! ## What releases keep of the feeder -/

theorem Feeder.Releases.sameSettings {f g : Feeder} (h : f.Releases g) : f.SameSettings g := by
  induction h with
  | refl => exact .refl f
  | tail _ hstep ih =>
    obtain ⟨m, rfl⟩ := hstep
    exact ih.trans ((Feeder.sameSettings_released _ m).trans (Feeder.sameSettings_judged _))

theorem Feeder.drained_released {f : Feeder} (h : f.Drained) (m : MachineNo) : (f.released m).1.Drained := by
  unfold Feeder.released
  split
  · exact Feeder.pass_drained _
  · exact h

theorem Feeder.Releases.drained {f g : Feeder} (h : f.Releases g) (hf : f.Drained) : g.Drained := by
  induction h with
  | refl => exact hf
  | tail _ hstep ih =>
    obtain ⟨m, rfl⟩ := hstep
    exact Feeder.drained_judged (Feeder.drained_released ih m)

theorem Feeder.Releases.sound {f g : Feeder} (h : f.Releases g) (hf : f.Sound) : g.Sound := by
  induction h with
  | refl => exact hf
  | tail _ hstep ih =>
    obtain ⟨m, rfl⟩ := hstep
    exact Feeder.judged_sound (Feeder.released_sound ih)

theorem Feeder.Releases.settled {f g : Feeder} (h : f.Releases g) (hmarks : f.low < f.high) (hf : f.BacklogSettled) : g.BacklogSettled := by
  cases h with
  | refl => exact hf
  | tail hbefore hstep =>
    obtain ⟨m, rfl⟩ := hstep
    have hsame := (Feeder.Releases.sameSettings hbefore).trans (Feeder.sameSettings_released _ m)
    exact Feeder.judged_settled _ (by rw [hsame.low, hsame.high]; exact hmarks)

/-! ## ROOM -/

/-- The unit with another capacity of room `r` (R139). -/
def Feeder.resized (f : Feeder) (r : RoomNo) (n : Nat) : Feeder :=
  { f with rooms := f.rooms.set r.1 { look f.rooms r with capacity := n } }

/-- The fields ROOM sets and leaves, with the bounds it restores: of the unit rebalanced, and whatever is released after. -/
theorem Feeder.resized_fields (s : State) (r : RoomNo) (n : Nat) {g : Feeder} (h : (s.rebalanced (s.feeder.resized r n)).1.Releases g) :
    (look g.rooms r).capacity = n ∧ (∀ k, k ≠ r → (look g.rooms k).capacity = (look s.feeder.rooms k).capacity) ∧
      g.limit = s.feeder.limit ∧ g.mode = s.feeder.mode ∧ g.high = s.feeder.high ∧ g.low = s.feeder.low ∧ g.demand = s.feeder.demand ∧
      g.heaterFault = s.feeder.heaterFault ∧ (s.feeder.Consistent → g.Bounded ∧ g.Consistent) ∧ g.Drained ∧
      (s.feeder.low < s.feeder.high → g.BacklogSettled) := by
  have hrebalanced := s.rebalanced_settings (s.feeder.resized r n)
  have hsame := hrebalanced.trans h.sameSettings
  refine ⟨(hsame.capacity r).trans (congrArg RoomFeeder.capacity (look_set_self _ _ _)),
    fun k hk => (hsame.capacity k).trans (congrArg RoomFeeder.capacity (look_set_other _ _ hk)),
    hsame.limit, hsame.mode, hsame.high, hsame.low, hsame.demand, hsame.heaterFault, fun hc => ?_,
    h.drained (s.rebalanced_drained _), fun hmarks => ?_⟩
  · have hresized : (s.feeder.resized r n).Consistent := Feeder.modRoom_capacity_consistent hc r n
    have hsound := h.sound ⟨s.rebalanced_bounded hresized, s.rebalanced_consistent hresized, s.rebalanced_drained _⟩
    exact ⟨hsound.1, hsound.2.1⟩
  · refine h.settled ?_ (s.rebalanced_settled hmarks)
    rw [hrebalanced.low, hrebalanced.high]
    exact hmarks

/-- What the end of a rebalance shows of machines and links. -/
theorem State.rebalance_lampsWait (s : State) : s.LampsWait s.rebalance.1 := by
  have htell (h : HeatState) (c : Nat → HeatCommand) (ms : List MachineNo) (u : State) : u.LampsWait (forEach ms (fun m t => t.tell h c m) u) :=
    State.forEach_lampsWait (fun m t => t.lampsWait_tell h c m) ms u
  have hshed : s.LampsWait s.runShedding.1 := by
    rw [State.runShedding_eq]
    exact htell _ _ _ _
  have hpass : s.runShedding.1.LampsWait s.runShedding.1.runPass.1 := by
    rw [State.runPass_eq]
    exact htell _ _ _ _
  refine (hshed.trans hpass).trans ?_
  show State.LampsWait _ (State.judgeBacklog _)
  rw [State.judgeBacklog_eq]
  exact State.LampsWait.refl _

/-- What a rebalance of a request's state shows besides machines and links. -/
theorem State.rebalance_shows {s u : State} {tag : Byte} {q : Request} {f : Feeder} {ns : List Notice} {ws gs : List MachineNo}
    (h : s.HeatOnly ((s.withRequest tag q).reforming f ns) u ws gs) : u.feeder = f ∧ u.host = (s.withRequest tag q).host.offered ns ∧
      u.supervisor = s.supervisor ∧ u.startUp = s.startUp ∧ u.lamps = s.lamps ∧ u.payment = s.payment ∧ u.clock = s.clock ∧
      u.store = s.store ∧ Kept [.host, .feeder, .engine, .line] s u := by
  refine ⟨?_, ?_, ?_, ?_, ?_, ?_, ?_, ?_,
    h.kept (fun x hx he hl => by cases x <;> simp at hx he hl ⊢ <;> rfl) rfl (by simp) (by simp)⟩
  all_goals
    rw [h.same]
    rfl

/-- The state in which ROOM has rebalanced the unit (R139). -/
def State.roomed (s : State) (tag : Byte) (q : Request) (r : RoomNo) (capacity : Nat) : State :=
  ((s.withRequest tag q).reforming (s.feeder.resized r capacity) []).rebalance.1

theorem State.roomed_heatOnly (s : State) (tag : Byte) (q : Request) (r : RoomNo) (n : Nat) :
    s.HeatOnly ((s.withRequest tag q).reforming (s.rebalanced (s.feeder.resized r n)).1 ([] ++ (s.rebalanced (s.feeder.resized r n)).2))
      (s.roomed tag q r n) (s.shedding (s.feeder.resized r n)).2 (s.shedding (s.feeder.resized r n)).1.pass.2 :=
  (s.reforming_rebalance tag q (s.feeder.resized r n) []).1

theorem State.roomed_supervisor (s : State) (tag : Byte) (q : Request) (r : RoomNo) (n : Nat) :
    (s.roomed tag q r n).supervisor = s.supervisor := by
  obtain ⟨-, -, hsup, -⟩ := State.rebalance_shows (s.roomed_heatOnly tag q r n)
  exact hsup

theorem State.roomed_guard (s : State) (tag : Byte) (q : Request) (r : RoomNo) (n : Nat) : (s.roomed tag q r n).guard r = s.guard r :=
  congrArg (fun v : Supervisor => look v.rooms r) (s.roomed_supervisor tag q r n)

/-- ROOM of a capacity in range, as it stands before the reply (R139, R176). -/
theorem State.own_room (s : State) (tag : Byte) (q : Request) (r : RoomNo) {capacity : Nat} (edge : EdgeSelect) (h : capacity ≤ 600)
    (hq : q = .configSet (.room r.1 capacity edge)) : (s.withRequest tag q).own q =
      (if edge = (s.guard r).edge then (s.roomed tag q r capacity).guarded r { s.guard r with edge := edge }
        else ((s.roomed tag q r capacity).guarded r { s.guard r with edge := edge }).rejudgeRoom r).accept := by
  have hindex : (s.withRequest tag q).own q = (s.withRequest tag q).setRoom r capacity edge := by
    rw [hq]
    exact State.withIndex_of_lt _ r.2 _
  rw [hindex]
  unfold State.setRoom
  rw [if_neg (Nat.not_lt.mpr h)]
  have hset : ({ s.withRequest tag q with feeder := (s.withRequest tag q).feeder.modRoom r fun x => { x with capacity := capacity } } : State) =
      (s.withRequest tag q).reforming (s.feeder.resized r capacity) [] := rfl
  have hroomed : ((s.withRequest tag q).reforming (s.feeder.resized r capacity) []).rebalance.1 = s.roomed tag q r capacity := rfl
  rw [hset, hroomed]
  simp only [State.modGuard_eq, s.roomed_guard tag q r capacity]

/-- A room re-judged with LEAK disabled, closed, or at the clear level. -/
theorem State.rejudgeRoom_unmoved {s : State} {r : RoomNo}
    (h : (s.guard r).closed = true ∨ look s.supervisor.enables 4 = false ∨ (s.guard r).wet (s.guard r).filtered = false) :
    s.rejudgeRoom r = s := by
  refine if_neg fun hc => ?_
  rw [Bool.and_eq_true, Bool.and_eq_true, ← RoomGuard.wet_eq] at hc
  obtain ⟨⟨hopen, hrule⟩, hwet⟩ := hc
  rcases h with h | h | h
  · rw [State.roomClosed, h] at hopen
    cases hopen
  · rw [show s.leakRule = look s.supervisor.enables 4 from rfl, h] at hrule
    cases hrule
  · rw [h] at hwet
    cases hwet

theorem State.guarded_enables (s : State) (r : RoomNo) (g : RoomGuard) : (s.guarded r g).supervisor.enables = s.supervisor.enables := rfl

/-- With an edge select that changes and finds no wet open room, nothing is re-judged. -/
theorem State.own_room_dry (s : State) (tag : Byte) (q : Request) (r : RoomNo) {capacity : Nat} {edge : EdgeSelect} (h : capacity ≤ 600)
    (hq : q = .configSet (.room r.1 capacity edge)) (hne : edge ≠ (s.guard r).edge) (hdry : (s.guard r).closed = true ∨
      look s.supervisor.enables 4 = false ∨ ({ s.guard r with edge := edge } : RoomGuard).wet (s.guard r).filtered = false) :
    (s.withRequest tag q).own q =
      (((s.withRequest tag q).reforming (s.feeder.resized r capacity) []).rebalance.1.guarded r { s.guard r with edge := edge }).accept := by
  have hstill : ((s.roomed tag q r capacity).guarded r { s.guard r with edge := edge }).rejudgeRoom r =
      (s.roomed tag q r capacity).guarded r { s.guard r with edge := edge } := by
    refine State.rejudgeRoom_unmoved ?_
    rw [State.guarded_guard, State.guarded_enables, State.roomed_supervisor]
    exact hdry
  rw [s.own_room tag q r edge h hq, if_neg hne, hstill, State.roomed]

/-- With the edge select that is in force, only the unit changes. -/
theorem State.own_room_same (s : State) (tag : Byte) (q : Request) (r : RoomNo) {capacity : Nat} {edge : EdgeSelect} (h : capacity ≤ 600)
    (hq : q = .configSet (.room r.1 capacity edge)) (hsame : edge = (s.guard r).edge) : (s.withRequest tag q).own q =
      ((s.withRequest tag q).reforming (s.feeder.resized r capacity) []).rebalance.1.accept := by
  rw [s.own_room tag q r edge h hq, if_pos hsame, hsame, ← s.roomed_guard tag q r capacity]
  exact congrArg State.accept (State.guarded_self _ r)

/-- The unit rebalanced by a request that changes a room's guard too. -/
theorem repliesFrom_rebalanceGuard {c : Instr} {s : State} {tag : Byte} {q : Request} {ns : List Notice} {f : Feeder} {r : RoomNo} {g : RoomGuard}
    {holds : State → Prop} (h : s.Takes) (hc : c.request? = some (tag, q)) (hp : Request.passes q = true)
    (ho : (s.withRequest tag q).own q = (((s.withRequest tag q).reforming f ns).rebalance.1.guarded r g).accept)
    (hh : ∀ t, OthersKept [] s t → s.Rebalances t f → t.supervisor = { s.supervisor with rooms := s.supervisor.rooms.set r.1 g } → holds t) :
    RepliesFrom (s.host.offered (ns ++ (s.rebalanced f).2)) (exec c s) s tag q .ok [] [.feeder, .engine, .line, .supervisor] holds := by
  obtain ⟨hheat, -⟩ := s.reforming_rebalance tag q f ns
  generalize ((s.withRequest tag q).reforming f ns).rebalance.1 = u at ho hheat
  obtain ⟨hfeeder, hhost, hsup, -, -, -, -, hstore, hkept⟩ := State.rebalance_shows hheat
  refine repliesFrom_owned (u := u.guarded r g) _ h hc hp ho (hhost.trans (HostLink.offered_buffer _ _ _)) (h.1.2.of_store hstore)
    ((hkept.mono (by decide)).and (u.kept_guarded r g)) fun t ht => hh t ?_ ⟨?_, ?_⟩ ?_
  · exact hheat.othersKept ht (State.reply_engine _ _ _) (State.reply_line _ _ _)
  · exact ht.feeder.trans ((State.reply_feeder _ _ _).trans hfeeder)
  · exact hheat.told.concludes ht (State.reply_engine _ _ _) (State.reply_line _ _ _)
  · refine ht.supervisor.trans ((State.reply_supervisor _ _ _).trans ?_)
    show ({ u.supervisor with rooms := u.supervisor.rooms.set r.1 g } : Supervisor) = _
    rw [hsup]

/-- A rebalance changes machines and links in heat and lamps alone. -/
theorem State.HeatOnly.alike {s b t : State} {ws gs : List MachineNo} (h : s.HeatOnly b t ws gs) (hw : s.LampsWait t)
    (hlamps : t.lamps = s.lamps) (hpayment : t.payment = s.payment) : s.Alike t := ⟨h.record, h.link, hlamps, hw, hpayment⟩

/-- Once a room's guard has changed machines and links are as they were. -/
theorem State.Alike.guarded {s t : State} (h : s.Alike t) (r : RoomNo) (g : RoomGuard) : s.Alike (t.guarded r g) :=
  ⟨h.record, h.link, h.lamps, h.waits, h.payment⟩

/-- A room whose machines settle plainly does so after changes of heat and lamps. -/
theorem State.LeaksPlainly.plain {s t : State} {r : RoomNo} (h : s.LeaksPlainly [r]) (hsame : s.Alike t) (hstart : t.startUp = s.startUp)
    (hending : t.supervisor.ending = s.supervisor.ending) : t.Plain r := by
  obtain ⟨-, hcalm, hwashers⟩ := h
  have hin {m : MachineNo} (hm : m ∈ t.washersOf r) : s.washerIn [r] m = true :=
    (hsame.washerIn [r] m).symm.trans ((t.washerIn_singleton r m).mpr hm)
  refine ⟨fun hrec => ?_, fun m hm => ?_, fun m hm hst y hy => ?_⟩
  · obtain ⟨k, hk⟩ := hcalm (hstart.symm.trans hrec)
    exact ⟨k, (MachineRecord.state_of_butHeat (hsame.record k).symm).trans hk⟩
  · rw [hending]
    exact (hwashers m (hin hm)).1
  · rcases MachineRecord.sessions_of_butHeat (hsame.record m).symm with ⟨-, hn⟩ | ⟨x, k, hx, hn⟩
    · rw [hn] at hy
      cases hy
    · rw [hn] at hy
      obtain rfl := Option.some.inj hy
      exact (hwashers m (hin hm)).2 ((MachineRecord.state_of_butHeat (hsame.record m).symm).symm.trans hst) x hx

/-- ROOM with an edge select that finds the room wet: the unit rebalanced, and then the onset (R173, R176). -/
theorem setRoom_closes {s : State} (tag : Byte) (r : RoomNo) {capacity : Nat} {edge : EdgeSelect} {holds : State → Prop} (h : s.Takes)
    (hcapacity : capacity ≤ 600) (hedge : edge ≠ (s.guard r).edge) (hopen : (s.guard r).closed = false)
    (hrule : look s.supervisor.enables 4 = true) (hwet : ({ s.guard r with edge := edge } : RoomGuard).wet (s.guard r).filtered = true)
    (hplainly : s.LeaksPlainly [r])
    (hh : ∀ t, (s.rebalanced (s.feeder.resized r capacity)).1.Releases t.feeder → OthersKept (s.washersIn [r]) s t →
      s.RoomsClose t [r] { s.supervisor with rooms := s.supervisor.rooms.set r.1 { s.guard r with edge := edge } } → holds t) :
    RepliesNoticing (exec (.configSetRoom tag r.1 capacity edge) s) s tag (.configSet (.room r.1 capacity edge)) .ok []
      [.feeder, .engine, .line, .supervisor, .payment] holds := by
  obtain ⟨q, hq⟩ : ∃ q, q = Request.configSet (.room r.1 capacity edge) := ⟨_, rfl⟩
  let g : RoomGuard := { s.guard r with edge := edge }
  have hheat := s.roomed_heatOnly tag q r capacity
  have hown := s.own_room tag q r edge hcapacity hq
  have hwaits : s.LampsWait (s.roomed tag q r capacity) :=
    State.rebalance_lampsWait ((s.withRequest tag q).reforming (s.feeder.resized r capacity) [])
  generalize s.roomed tag q r capacity = u at hheat hown hwaits
  rw [← hq]
  obtain ⟨hfeeder, hhost, hsup, hstart, hlamps, hpayment, hclock, -, hkept⟩ := State.rebalance_shows hheat
  have hguard : (u.guarded r g).guard r = g := u.guarded_guard r g
  have hclose : (u.guarded r g).rejudgeRoom r = (u.guarded r g).closeRoom r := by
    refine if_pos ?_
    rw [State.roomClosed, hguard, show g.closed = false from hopen, ← RoomGuard.wet_eq, hwet]
    show (!false && look u.supervisor.enables 4 && true) = true
    rw [hsup, hrule]
    rfl
  rw [if_neg hedge, hclose] at hown
  have hsame : s.Alike (u.guarded r g) :=
    (hheat.alike hwaits hlamps hpayment).guarded r g
  have hplain := hplainly.plain hsame hstart (by show u.supervisor.ending = _; rw [hsup])
  have hlog : (u.guarded r g).supervisor.log.length < 80 := by
    show u.supervisor.log.length < 80
    have hroom : s.supervisor.log.length + 1 ≤ 80 := hplainly.1
    rw [hsup]
    omega
  have hshuts := State.closeRoom_shuts hlog hplain
  have hv : (u.guarded r g).supervisor = { s.supervisor with rooms := s.supervisor.rooms.set r.1 g } := by
    show ({ u.supervisor with rooms := u.supervisor.rooms.set r.1 g } : Supervisor) = _
    rw [hsup]
  rw [hv, show (u.guarded r g).clock = s.clock from hclock] at hshuts
  refine repliesNoticing_closes h (by rw [hq]; rfl) (by rw [hq]; exact decide_eq_true r.2) hown hsame hheat.sameEngine hheat.sameLine ⟨_, hhost⟩
    ((hkept.mono (by decide)).and (u.kept_guarded r g)) hshuts
    ((Supervisor.shuttingAll_eq s _ (List.nodup_singleton r)).resolve_left (List.cons_ne_nil _ _)) (fun m hm => (hplainly.2.2 m hm).2)
    fun t hf hothers hcloses => hh t ?_ hothers hcloses
  rw [hf, ← hfeeder]
  exact hshuts.feeder

/-- Settles O24: ROOM by the unit rebalanced and the room re-judged, GRANT by the unit rebalanced or judged. -/
theorem feederItemsAreSet : Obligations.FeederItemsAreSet := by
  refine fun s tag h => ⟨fun r capacity edge hbad => ?refused, fun r capacity edge hgood => ?room, fun mode limit high low hbad => ?_,
    fun mode limit high low hlimit hlow hhigh hmarks => ?grant⟩
  case refused =>
    rcases indexed_or (p := (s.withRequest tag (.configSet (.room r capacity edge))).own (.configSet (.room r capacity edge)) = _)
      hbad fun hr hrest => (State.withIndex_of_lt _ hr _).trans (if_pos hrest) with hindex | ⟨hindex, ho⟩
    · exact refuses_unindexed h rfl hindex
    · exact refuses_owned h rfl hindex ho
  case room =>
    intro out q g v room fields sets
    have hfields (t : State) (hr : s.Rebalances t room) : fields t :=
      Feeder.resized_fields s r capacity (by rw [hr.1]; exact .refl)
    refine ⟨fun hsame => ?_, fun hne hdry => ?_, fun hne hopen hrule hwet hplainly => ?_⟩
    · have hreplies := repliesFrom_rebalance (c := .configSetRoom tag r.1 capacity edge) (ns := []) (f := room)
        (holds := fun t => OthersKept [] s t ∧ s.Rebalances t room ∧ fields t ∧ True) h rfl (decide_eq_true r.2)
        (s.own_room_same tag q r hgood rfl hsame) fun t hothers hr => ⟨hothers, hr, hfields t hr, trivial⟩
      rw [List.nil_append] at hreplies
      exact hreplies
    · have hreplies := repliesFrom_rebalanceGuard (c := .configSetRoom tag r.1 capacity edge) (ns := []) (f := room) (r := r) (g := g)
        (holds := fun t => OthersKept [] s t ∧ s.Rebalances t room ∧ fields t ∧ t.supervisor = v) h rfl (decide_eq_true r.2)
        (s.own_room_dry tag q r hgood rfl hne hdry) fun t hothers hr hv => ⟨hothers, hr, hfields t hr, hv⟩
      rw [List.nil_append] at hreplies
      exact hreplies
    · exact setRoom_closes tag r h hgood hne hopen hrule hwet hplainly fun t hf hothers hcloses =>
        ⟨hothers, Feeder.resized_fields s r capacity hf, hcloses⟩
  · exact refuses_owned h rfl rfl (if_pos hbad)
  case grant =>
    intro out q g
    have hown : (s.withRequest tag q).own q = (if limit = s.feeder.limit then ((s.withRequest tag q).reforming g []).judgeBacklog
        else ((s.withRequest tag q).reforming g []).rebalance.1).accept := if_neg (by omega)
    refine ⟨fun hsame => ?_, fun hne => ?_⟩
    · rw [if_pos hsame, State.judgeBacklog_eq] at hown
      refine repliesFrom_owned _ h rfl rfl hown (HostLink.offered_buffer _ _ _) (h.1.2.of_store rfl) ⟨rfl, fun x hx => ?_⟩ fun t ht => ?_
      · cases x
        case host | feeder => simp at hx
        all_goals rfl
      · have hfeeder : t.feeder = g.judged.1 := ht.feeder.trans (State.reply_feeder _ _ _)
        refine ⟨hfeeder, ?_⟩
        rw [hfeeder]
        exact Feeder.judged_settled g hmarks
    · rw [if_neg hne] at hown
      refine repliesFrom_rebalance (ns := []) h rfl rfl hown fun t hothers hr => ?_
      have hsettings : g.SameSettings t.feeder := hr.1 ▸ s.rebalanced_settings g
      refine ⟨hothers, hr, hsettings.limit, hsettings.mode, hsettings.high, hsettings.low, hsettings.capacity, hsettings.demand,
        hsettings.heaterFault, fun hc => ?_, ?_, ?_⟩
      all_goals rw [hr.1]
      · exact ⟨s.rebalanced_bounded hc, s.rebalanced_consistent hc⟩
      · exact s.rebalanced_drained g
      · exact s.rebalanced_settled hmarks

end Sys2Proof.Machine
end

section
/-! SUPPORT. What a context in REPLY hands to the session engine: settlements and PART_RELEASEs (R7, R18). -/
namespace Sys2Proof.Machine

/-! ## The context that hands over -/

section
variable {α : Type} {s : State} {p : PayRequest → Handed → Option α} {c : ContextNo} {q : PayRequest} {x : Handed} {a : α}

/-- What a choice of request and result makes of a context. -/
def State.handing (s : State) (p : PayRequest → Handed → Option α) (c : ContextNo) : Option (ContextNo × α) :=
  (s.handedTo c).bind fun x => (p x.1 x.2).map fun a => (c, a)

theorem State.handing_none (h : ∀ q x, (s.context c).request = some q → p q x = none) : s.handing p c = none := by
  unfold State.handing State.handedTo
  cases hq : (s.context c).request with
  | none => rfl
  | some q =>
    cases hg : (s.context c).stage with
    | reply x e =>
      cases e with
      | none => exact congrArg (Option.map fun a => (c, a)) (h q x hq)
      | some e => rfl
    | _ => rfl

theorem State.handing_some {st : Bool} (hc : s.context c = ⟨some q, .reply x none, st⟩) (hp : p q x = some a) :
    s.handing p c = some (c, a) := by
  unfold State.handing State.handedTo
  rw [hc]
  exact congrArg (Option.map fun a => (c, a)) hp

/-- With no request that the choice is of, nothing is found. -/
theorem State.findHanded_none (h : ∀ k q x, (s.context k).request = some q → p q x = none) : s.findHanded p = none :=
  List.findSome?_eq_none_iff.mpr fun k _ => State.handing_none (h k)

/-- The only request that the choice is of is found. -/
theorem State.findHanded_some {st : Bool} (hc : s.context c = ⟨some q, .reply x none, st⟩) (hp : p q x = some a)
    (hother : ∀ k, k ≠ c → ∀ q x, (s.context k).request = some q → p q x = none) : s.findHanded p = some (c, a) := by
  have hfound : ∀ ks : List ContextNo, c ∈ ks → ks.findSome? (s.handing p) = some (c, a) := by
    intro ks
    induction ks with
    | nil => exact fun h => absurd h List.not_mem_nil
    | cons k ks ih =>
      intro hmem
      rw [List.findSome?_cons]
      by_cases hk : k = c
      · rw [hk, State.handing_some hc hp]
      · rw [State.handing_none (hother k hk)]
        exact ih ((List.mem_cons.mp hmem).resolve_left (Ne.symm hk))
  exact hfound _ (List.mem_finRange c)

end

/-- The payment unit with a context FREE (R97). -/
def PaymentUnit.freed (p : PaymentUnit) (c : ContextNo) : PaymentUnit := { p with contexts := p.contexts.set c.1 Context.initial }

theorem State.freeContext_eq (s : State) (c : ContextNo) : s.freeContext c = { s with payment := s.payment.freed c } := rfl

/-- A context freed, before machine `m` takes what it handed over. -/
theorem State.freed_becomes (s : State) (c : ContextNo) (m : MachineNo) :
    s.Becomes (s.freeContext c) (s.freeContext c) m (s.machine m) (s.link m) [] := (s.becomes_self m).through fun u => u.freeContext c

theorem State.kept_freeContext (s : State) (c : ContextNo) : Kept [.payment] s (s.freeContext c) := s.kept_payment _

/-! ## Requests that are not the machine's -/

/-- A settlement or PART_RELEASE of machine `m`. -/
def PayRequest.closes (m : MachineNo) : PayRequest → Prop
  | .settle k _ _ _ _ | .partRelease k _ _ _ _ => k = m
  | _ => False

theorem settleHanded_none {m : MachineNo} {q : PayRequest} (h : ¬ q.closes m) (x : Handed) : settleHanded m q x = none := by
  cases q with
  | settle k =>
    cases x with
    | settled parts code => exact if_neg h
    | _ => rfl
  | _ => rfl

theorem releaseHanded_none {m : MachineNo} {q : PayRequest} (h : ¬ q.closes m) (x : Handed) : releaseHanded m q x = none := by
  cases q with
  | partRelease k =>
    cases x with
    | released => exact if_neg h
    | _ => rfl
  | _ => rfl

/-! ## Settlements -/

/-- The supervisor once a settlement's charge is written into its ending record, if it has one (R163). -/
theorem State.writeCharge_supervisor (b : State) (m : MachineNo) (total : Nat) : (b.writeCharge m total).supervisor =
    match look b.supervisor.ending m with
    | none => b.supervisor
    | some q => { b.supervisor with
        log := b.supervisor.log.map fun y => if y.sequence = q then { y with charge := some total } else y
        ending := b.supervisor.ending.set m.1 none } := by
  cases h : look b.supervisor.ending m with
  | none => rw [State.writeCharge_of_none h]
  | some q => exact State.writeCharge_of_some h total

theorem State.marking_store (b : State) (m : MachineNo) (after : AfterSettle) (slotCode : Option (Option FaultCode)) :
    (b.marking m after slotCode).store = match after with
      | .lockedOut k => if slotCode = some (some k) then b.store else { b.store with lockoutMarks := b.store.lockoutMarks.set m.1 true }
      | _ => b.store := by
  cases after with
  | lockedOut k =>
    by_cases hcode : slotCode = some (some k)
    · exact (congrArg State.store (if_pos hcode)).trans (if_pos hcode).symm
    · exact (congrArg State.store (if_neg hcode)).trans (if_neg hcode).symm
  | _ => rfl

theorem State.marking_of_open (b : State) (m : MachineNo) {after : AfterSettle} (h : ∀ k, after ≠ .lockedOut k)
    (slotCode : Option (Option FaultCode)) : b.marking m after slotCode = b := by
  cases after with
  | lockedOut k => exact absurd rfl (h k)
  | _ => rfl

/-- The state just before the lockout mark of a completed settlement. -/
def State.closing (b : State) (m : MachineNo) (x : Session) (parts : List Part) : State :=
  (b.notify (.sessionEnded m x.id x.mode x.endCause x.elapsed x.paused parts)).writeCharge m (totalCharge parts)

theorem State.kept_closing (b : State) (m : MachineNo) (x : Session) (parts : List Part) : Kept [.host, .supervisor] b (b.closing m x parts) :=
  ((b.kept_notify _).mono (by decide)).and (State.kept_writeCharge _ m _)

theorem State.closing_host (b : State) (m : MachineNo) (x : Session) (parts : List Part) :
    (b.closing m x parts).host = b.host.offered [.sessionEnded m x.id x.mode x.endCause x.elapsed x.paused parts] :=
  ((b.notify _).kept_writeCharge m _).2 .host (by decide)

/-- Machine `m`'s settlement completes (R7). -/
theorem settlement_completes {s : State} {m : MachineNo} {c : ContextNo} {x : Session} {parts : List Part}
    {code : Option (Option FaultCode)} {xs : List Block} {holds : State → Prop} (hr : s.Runs) (hother : s.OtherRecovering m)
    (hx : (s.machine m).session = some x) (hfound : s.findHanded (settleHanded m) = some (c, parts, code))
    (hkept : Kept xs s (((s.freeContext c).closing m x parts).marking m (s.machine m).afterSettle code))
    (hengine : .engine ∈ xs) (hline : .line ∈ xs)
    (hh : ∀ t w, w.Concludes t → s.Becomes (((s.freeContext c).closing m x parts).marking m (s.machine m).afterSettle code) w m
        ((s.machine m).completed x (s.link m)) ((s.link m).entering (s.machine m).afterSettle) [] →
      t.host = (s.host.offered [.sessionEnded m x.id x.mode x.endCause x.elapsed x.paused parts]).transmit ∧
        t.payment = s.payment.freed c ∧ OthersKept [m] s t ∧
        t.supervisor = (match look s.supervisor.ending m with
          | none => s.supervisor
          | some q => { s.supervisor with
              log := s.supervisor.log.map fun y => if y.sequence = q then { y with charge := some (totalCharge parts) } else y
              ending := s.supervisor.ending.set m.1 none }) → holds t) :
    Leads (exec (.settleComplete m) s) s xs holds := by
  have heffect : effect (.settleComplete m) s = (s.freeContext c).completeSettlement m parts code := by
    show s.takeSettled m = _
    unfold State.takeSettled
    rw [hfound]
  have hw := (s.freed_becomes c m).completeSettlement (fun hrec => hother hrec) hx parts code
  have hclosing := (s.freeContext c).kept_closing m x parts
  have hmarked := State.kept_marking ((s.freeContext c).closing m x parts) m (s.machine m).afterSettle code
  have hset : (((s.freeContext c).closing m x parts).marking m (s.machine m).afterSettle code).Settled := by
    have hbefore : ((s.freeContext c).closing m x parts).Settled := hclosing.settled hr.2
    unfold State.marking
    split
    · split
      · exact hbefore
      · exact hbefore.markLockout m
    · exact hbefore
  refine leads_becomes_settled ⟨nofun, nofun⟩ hr heffect hw hset hkept hengine hline fun t ht => hh t _ ht hw ⟨?_, ?_, ?_, ?_⟩
  · exact hw.transmits ht ((hmarked.2 .host (by decide)).trans ((s.freeContext c).closing_host m x parts))
  · refine ht.payment.trans ?_
    rw [hw.same]
    exact (hmarked.2 .payment (by decide)).trans (hclosing.2 .payment (by decide))
  · have hbengine : ((s.freeContext c).completing m (s.machine m) x parts code).engine = s.engine :=
      (hmarked.2 .engine (by decide)).trans (hclosing.2 .engine (by decide))
    have hbline : ((s.freeContext c).completing m (s.machine m) x parts code).line = s.line :=
      (hmarked.2 .line (by decide)).trans (hclosing.2 .line (by decide))
    exact hw.othersKept ht rfl rfl (by rw [hbengine]) (by rw [hbline])
  · refine ht.supervisor.trans ?_
    rw [hw.same]
    exact (hmarked.2 .supervisor (by decide)).trans (State.writeCharge_supervisor _ m _)

/-! ## A settlement held back -/

/-- A PART_RELEASE completed, and the settlement held back placed (R18). -/
theorem State.partReleased_eq {b : State} {m : MachineNo} {x : Session} (hx : (b.machine m).session = some x) :
    ((b.machine m).state ≠ .settling → b.partReleased m =
      { b with engine := { b.engine with machines := b.engine.machines.set m.1 { b.machine m with outstanding := .none } } }) ∧
    (∀ cause, (b.machine m).state = .settling → x.endCause = some cause → b.partReleased m =
      ({ b with engine := { b.engine with machines := b.engine.machines.set m.1 { b.machine m with outstanding := .settle } } } : State).enqueue
        (.settle m x.id cause x.elapsed x.paused)) := by
  let u : State := { b with engine := { b.engine with machines := b.engine.machines.set m.1 { b.machine m with outstanding := .none } } }
  have hmachine : u.machine m = { b.machine m with outstanding := .none } := look_set_self _ _ _
  have hstate : (u.machine m).state = (b.machine m).state := by rw [hmachine]
  have hreleased : b.partReleased m = u.placeHeldBack m := rfl
  rw [hreleased]
  unfold State.placeHeldBack
  rw [hstate]
  refine ⟨fun hst => if_neg hst, fun cause hst hcause => (if_pos hst).trans ?_⟩
  have hsession : u.session m = some x := (congrArg MachineRecord.session hmachine).trans hx
  unfold State.placeSettle
  simp only [hsession, hcause, Option.map_some, Option.getD_some]
  have hset : u.engine.machines.set m.1 { u.machine m with outstanding := .settle } =
      b.engine.machines.set m.1 { b.machine m with outstanding := .settle } := by
    rw [hmachine]
    exact Vector.set_set ..
  show State.enqueue { u with engine := { u.engine with machines := u.engine.machines.set m.1 { u.machine m with outstanding := .settle } } } _ = _
  rw [hset]

/-- A record but for the lamp last sent. -/
theorem MachineRecord.eq_of_lamped {q r p : MachineRecord} {a : Lamp} (h : q = r.lamped a) (hp : r.lamped q.lampSent = p) : q = p := by
  rw [← hp, h]
  rfl

theorem MachineRecord.completed_entering {r : MachineRecord} {after : AfterSettle} (h : r.afterSettle = after) (x : Session) (l : Link) :
    r.completed x l = ({ r with lastEnd := x.endCause, session := none, outstanding := .none } : MachineRecord).entering after l := by
  subst h
  rfl

/-- Settles O52: what is in REPLY is found, and completes as its after-settle state says. -/
theorem settlementsComplete : Obligations.SettlementsComplete := by
  intro s m c hr hother r done released awaits freed
  have hsettle {k : ContextNo} (h : ¬ awaits (s.context k).request) (q : PayRequest) (x : Handed) (hq : (s.context k).request = some q) :
      settleHanded m q x = none := settleHanded_none (fun hc => h (by rw [hq]; cases q <;> exact hc)) x
  have hrelease {k : ContextNo} (h : ¬ awaits (s.context k).request) (q : PayRequest) (x : Handed) (hq : (s.context k).request = some q) :
      releaseHanded m q x = none := releaseHanded_none (fun hc => h (by rw [hq]; cases q <;> exact hc)) x
  refine ⟨fun hnone => ⟨?_, ?_⟩, fun honly x hx => ⟨fun id cause e p parts code st hc => ?settled, fun id n p w st hc => ?released⟩⟩
  · refine leads_nothing ⟨nofun, nofun⟩ hr ?_
    show s.takeSettled m = s
    unfold State.takeSettled
    rw [State.findHanded_none fun k => hsettle (hnone k)]
  · refine leads_nothing ⟨nofun, nofun⟩ hr ?_
    show s.takeReleased m = s
    unfold State.takeReleased
    rw [State.findHanded_none fun k => hrelease (hnone k)]
  case settled =>
    intro ended after
    have hfound : s.findHanded (settleHanded m) = some (c, parts, code) :=
      State.findHanded_some hc (if_pos rfl) fun k hk => hsettle (honly k hk)
    have hclosing : Kept [.host, .payment, .engine, .line, .supervisor] s ((s.freeContext c).closing m x parts) :=
      ((s.kept_freeContext c).mono (by decide)).and ((s.freeContext c).kept_closing m x parts)
    have hunlocked (h : ∀ k, r.afterSettle ≠ .lockedOut k) :
        ((s.freeContext c).closing m x parts).marking m r.afterSettle code = (s.freeContext c).closing m x parts :=
      State.marking_of_open _ m h code
    refine ⟨fun hafter => ?_, fun hafter => ?_, fun k hafter => ?_⟩
    · have hopen : ∀ k, r.afterSettle ≠ .lockedOut k := by
        rintro k hk
        rcases hafter with h | h <;> rw [h] at hk <;> cases hk
      refine settlement_completes hr hother hx hfound (by rw [hunlocked hopen]; exact hclosing) (by simp) (by simp)
        fun t w ht hw hended => ⟨hended, ?_⟩
      obtain ⟨⟨a, hm⟩, -⟩ := hw.concludes ht
      rcases hafter with h | h
      · rw [MachineRecord.completed_entering h] at hm
        rw [if_pos h]
        exact MachineRecord.eq_of_lamped hm rfl
      · rw [MachineRecord.completed_entering h] at hm
        rw [if_neg (by rw [h]; decide)]
        exact MachineRecord.eq_of_lamped hm rfl
    · intro back
      have hopen : ∀ k, r.afterSettle ≠ .lockedOut k := fun k hk => by rw [hafter] at hk; cases hk
      refine settlement_completes hr hother hx hfound (by rw [hunlocked hopen]; exact hclosing) (by simp) (by simp)
        fun t w ht hw hended => ⟨hended, ?_⟩
      obtain ⟨⟨a, hm⟩, -⟩ := hw.concludes ht
      rw [MachineRecord.completed_entering hafter] at hm
      have hstate : (if r.enabled && ((s.link m).state == .online || (s.link m).state == .silent) then MachineState.idle else .offline) =
          if back then .idle else .offline := if_congr (by simp [back]) rfl rfl
      exact MachineRecord.eq_of_lamped hm (congrArg (fun st => ({ r with
        state := st, session := none, outstanding := .none, lastEnd := x.endCause, lampSent := (t.machine m).lampSent } : MachineRecord)) hstate)
    · refine settlement_completes hr hother hx hfound ((hclosing.mono (by decide)).and (State.kept_marking _ m _ code)) (by simp) (by simp)
        fun t w ht hw hended => ⟨hended, ?_, fun hl => ?_, ?_⟩
      · obtain ⟨⟨a, hm⟩, -⟩ := hw.concludes ht
        rw [MachineRecord.completed_entering hafter] at hm
        exact MachineRecord.eq_of_lamped hm rfl
      · obtain ⟨-, a, htable⟩ := hw.concludes ht
        rw [htable, show (s.machine m).afterSettle = .lockedOut k from hafter]
        show ((s.link m).sent (.lock true)).table.lock = some true
        rw [Link.sent_of_ne hl]
        rfl
      · have hfrom := hw.concludes_storeFrom ht
        have hstore : ((s.freeContext c).closing m x parts).store = s.store := hclosing.2 .store (by decide)
        rw [State.marking_store, hstore, show (s.machine m).afterSettle = .lockedOut k from hafter] at hfrom
        exact hfrom
  case released =>
    have hfound : s.findHanded (releaseHanded m) = some (c, ()) :=
      State.findHanded_some hc (if_pos rfl) fun k hk => hrelease (honly k hk)
    have heffect : effect (.partReleaseComplete m) s = (s.freeContext c).partReleased m := by
      show s.takeReleased m = _
      unfold State.takeReleased
      rw [hfound]
    obtain ⟨hopen, hsettling⟩ := State.partReleased_eq (b := s.freeContext c) hx
    refine ⟨fun hst => ?_, fun cause hst hcause => ?_⟩
    · rw [hopen hst] at heffect
      refine leads_of_effect ⟨nofun, nofun⟩ hr heffect ⟨rfl, fun y hy => ?_⟩ hr.2 fun t ht => ⟨ht.payment, ht.engine⟩
      cases y
      case payment | engine => simp at hy
      all_goals rfl
    · rw [hsettling cause hst hcause] at heffect
      refine leads_of_effect ⟨nofun, nofun⟩ hr heffect ⟨rfl, fun y hy => ?_⟩ hr.2 fun t ht => ⟨ht.payment, ht.engine⟩
      cases y
      case payment | engine => simp at hy
      all_goals rfl

end Sys2Proof.Machine
end

section
/-! SUPPORT. Vend results in REPLY: AUTHORISE and EXTEND, in time, abandoned and too late (R9, R18). -/
namespace Sys2Proof.Machine

/-! ## Requests that are not the machine's -/

/-- An AUTHORISE or EXTEND of machine `m`. -/
def PayRequest.vends (m : MachineNo) : PayRequest → Prop
  | .authorise k _ _ _ _ _ | .extend k _ _ _ _ => k = m
  | _ => False

theorem authoriseHanded_none {m : MachineNo} {q : PayRequest} (h : ¬ q.vends m) (x : Handed) : authoriseHanded m q x = none := by
  cases q with
  | authorise k => exact if_neg h
  | _ => rfl

theorem extendHanded_none {m : MachineNo} {q : PayRequest} (h : ¬ q.vends m) (x : Handed) : extendHanded m q x = none := by
  cases q with
  | extend k => exact if_neg h
  | _ => rfl

/-- What the session engine makes of an AUTHORISE's result (R9). -/
def State.authoriseTaken (u : State) (m : MachineNo) : VendResult → State
  | .part p _ => u.authorised m p
  | .refused card why => u.authoriseRefused m card why

/-- What it makes of an EXTEND's (R18). -/
def State.extendTaken (u : State) (m : MachineNo) : VendResult → State
  | .part p w => u.extended m p w
  | .refused card why => u.extendRefused m card why

theorem effect_authoriseResult {s : State} {m : MachineNo} {c : ContextNo} {v : VendResult}
    (h : s.findHanded (authoriseHanded m) = some (c, v)) : effect (.authoriseResult m) s = (s.freeContext c).authoriseTaken m v := by
  show s.takeAuthorise m = _
  unfold State.takeAuthorise
  rw [h]
  cases v <;> rfl

theorem effect_extendResult {s : State} {m : MachineNo} {c : ContextNo} {v : VendResult}
    (h : s.findHanded (extendHanded m) = some (c, v)) : effect (.extendResult m) s = (s.freeContext c).extendTaken m v := by
  show s.takeExtend m = _
  unfold State.takeExtend
  rw [h]
  cases v <;> rfl

/-! ## AUTHORISE succeeds -/

section
variable {s b t w : State} {m : MachineNo} {c : ContextNo} {r : MachineRecord} {l : Link} {gs : List MachineNo} {x : Session}

/-- A session with the one part that an AUTHORISE brings (R9). -/
def Session.vended (x : Session) (p : Part) : Session := { x with parts := [p], units := p.units }

/-- Its machine's record, no request outstanding and no abandonment standing. -/
def MachineRecord.vended (r : MachineRecord) (x : Session) (p : Part) : MachineRecord :=
  { r with outstanding := .none, abandoned := none, session := some (x.vended p) }

/-- The part taken into the session. -/
def State.vending (t : State) (m : MachineNo) (p : Part) : State :=
  (t.modMachine m fun r => { r with outstanding := .none, abandoned := none }).modSession m fun x => x.vended p

theorem State.Becomes.vending (h : s.Becomes b t m r l gs) (hx : r.session = some x) (p : Part) :
    s.Becomes b (t.vending m p) m (r.vended x p) l gs := by
  have hsession : r.session.map (fun x => x.vended p) = some (x.vended p) := by rw [hx]; rfl
  have hvended : r.vended x p = { r with outstanding := .none, abandoned := none, session := r.session.map fun x => x.vended p } := by
    rw [hsession]
    rfl
  rw [hvended]
  exact (h.modMachine fun r => { r with outstanding := .none, abandoned := none }).modSession fun x => x.vended p

theorem State.authorised_arms {u : State} (h : (u.machine m).abandoned = none) (p : Part) :
    u.authorised m p = (u.vending m p).arm m p.price := by
  unfold State.authorised
  rw [h]
  rfl

theorem State.authorised_abandoned {u : State} {a : Abandonment} (h : (u.machine m).abandoned = some a) (p : Part) :
    u.authorised m p = ((u.vending m p).endSession m (.fault a.code) a.after).completeIfEmpty m := by
  unfold State.authorised
  rw [h]
  rfl

/-- A record armed by an AUTHORISE that is not abandoned. -/
theorem MachineRecord.vended_armed (h : r.abandoned = none) (x : Session) (p : Part) (seconds : Nat) (a : Lamp) :
    ({ r.vended x p with state := .armed, armTimer := some seconds } : MachineRecord).lamped a =
      { r with state := .armed, outstanding := .none, armTimer := some seconds, lampSent := a, session := some (x.vended p) } := by
  unfold MachineRecord.vended MachineRecord.lamped
  rw [← h]

/-- A record whose authorisation was abandoned, its session ended. -/
theorem MachineRecord.vended_ending (h : r.state = .authorising) (x : Session) (p : Part) (cause : EndCause) (after : AfterSettle) (a : Lamp) :
    ((r.vended x p).ending (x.vended p) cause after).lamped a = { r.settling (x.vended p) cause after with
      outstanding := .settle, abandoned := none, stoppedId := x.id, lampSent := a } := by
  have hstate : (r.vended x p).state = .authorising := h
  unfold MachineRecord.ending
  rw [hstate]
  rfl

theorem Link.ending_authorising (hl : l.state ≠ .disabled) (cause : EndCause) (id : Nat) :
    (l.ending .authorising cause id).table.arm = some (.disable id) := by
  rw [Link.ending_table hl (was := .authorising) rfl]
  rfl

theorem State.kept_freed_notify (s : State) (c : ContextNo) (n : Notice) :
    Kept [.host, .payment, .engine, .line] s ((s.freeContext c).notify n) :=
  ((s.kept_freeContext c).mono (by decide)).and ((s.freeContext c).kept_notify n)

/-- An AUTHORISE succeeds (R9). -/
theorem authorised_arms_machine (hr : s.Runs) (hother : s.OtherRecovering m) (hx : (s.machine m).session = some x) {p : Part} {v : Bool}
    (hfound : s.findHanded (authoriseHanded m) = some (c, .part p v)) (hfree : (s.machine m).abandoned = none) :
    Leads (exec (.authoriseResult m) s) s [.host, .payment, .engine, .line] fun t =>
      t.host = (s.host.offered [.sessionArmed m x.id x.mode x.programme p.units (some p)]).transmit ∧
        t.payment = s.payment.freed c ∧ OthersKept [m] s t ∧
        t.machine m = { s.machine m with
          state := .armed, outstanding := .none, armTimer := some s.engine.armSeconds
          lampSent := (t.machine m).lampSent, session := some (x.vended p) } ∧
        ((s.link m).state ≠ .disabled → (t.link m).table.arm = some (.enable x.id x.programme p.price x.mode)) := by
  have heffect : effect (.authoriseResult m) s = ((s.freeContext c).vending m p).arm m p.price :=
    (effect_authoriseResult hfound).trans (State.authorised_arms (u := s.freeContext c) hfree p)
  have hw := ((s.freed_becomes c m).vending hx p).arm (fun hrec => hother hrec) rfl p.price
  refine leads_becomes ⟨nofun, nofun⟩ hr heffect hw (s.kept_freed_notify c _) (by simp) (by simp) fun t ht => ?_
  obtain ⟨⟨a, hm⟩, d, htable⟩ := hw.concludes ht
  refine ⟨hw.transmits ht rfl, hw.concludes_payment ht, hw.othersKept ht rfl rfl rfl rfl,
    MachineRecord.eq_of_lamped hm (MachineRecord.vended_armed hfree x p _ _), fun hl => ?_⟩
  rw [htable, Link.sent_of_ne hl]
  rfl

/-- An AUTHORISE that was abandoned succeeds (R9). -/
theorem authorised_settles (hr : s.Runs) (hother : s.OtherRecovering m) (hx : (s.machine m).session = some x) {p : Part} {v : Bool}
    (hfound : s.findHanded (authoriseHanded m) = some (c, .part p v)) (hst : (s.machine m).state = .authorising) {a : Abandonment}
    (hmark : (s.machine m).abandoned = some a) :
    LeadsNoticing (exec (.authoriseResult m) s) s [.payment, .engine, .line, .feeder] fun t =>
      OthersKept [m] s t ∧
        t.machine m = { (s.machine m).settling (x.vended p) (.fault a.code) a.after with
          outstanding := .settle, abandoned := none, stoppedId := x.id, lampSent := (t.machine m).lampSent } ∧
        t.feeder.holdsGrant m = false ∧ t.feeder.queued m = false ∧
        ((s.link m).state ≠ .disabled → (t.link m).table.arm = some (.disable x.id)) ∧
        t.payment = { s.payment.freed c with
          queue := s.payment.queue ++ [.settle m x.id (.fault a.code) x.elapsed x.paused] } := by
  have heffect := (effect_authoriseResult hfound).trans (State.authorised_abandoned (u := s.freeContext c) hmark p)
  have hw := (((s.freed_becomes c m).vending hx p).endSession (fun hrec => hother hrec) rfl (.fault a.code) a.after).completeIfEmpty_of_parts
    rfl (List.cons_ne_nil p [])
  have hplaced := ((s.freeContext c).releasing m).placing_of_parts m (r := (s.machine m).vended x p) (x := x.vended p) (.fault a.code)
    x.elapsed (List.cons_ne_nil p []) rfl
  unfold State.endingBase at hw
  rw [show (x.vended p).elapsed = x.elapsed from rfl, hplaced] at hw
  have hkept := (((s.kept_freeContext c).mono (ys := [.host, .payment, .engine, .line, .feeder]) (by decide)).and
    (State.kept_releasing _ m)).and (State.kept_enqueue _ (.settle m x.id (.fault a.code) x.elapsed x.paused))
  refine leadsNoticing_becomes _ ⟨nofun, nofun⟩ hr heffect hw rfl hkept (by simp) (by simp) fun t ht _ => ?_
  obtain ⟨⟨b, hm⟩, d, htable⟩ := hw.concludes ht
  obtain ⟨hgrant, hqueued⟩ := (s.freeContext c).releasing_absent m
  refine ⟨hw.othersKept ht rfl rfl rfl rfl, MachineRecord.eq_of_lamped hm (MachineRecord.vended_ending hst x p _ _ _), ?_, ?_,
    fun hl => ?_, hw.concludes_payment ht⟩
  · rw [hw.concludes_feeder ht]
    exact hgrant
  · rw [hw.concludes_feeder ht]
    exact hqueued
  · have hlink := Link.ending_authorising hl (.fault a.code) x.id
    rw [← hst] at hlink
    rw [htable]
    exact hlink

/-! ## A card refused -/

theorem State.Becomes.refuseCard (h : s.Becomes b t m r l gs) (card : CardId) (why : Reason) :
    s.Becomes (b.notify (.refusal m card why)) (t.refuseCard m card why) m r (l.sent (.refuse why)) gs :=
  (h.send (.refuse why)).notify _

theorem Link.sent_refuse_lock (l : Link) (why : Reason) : (l.sent (.refuse why)).table.lock = l.table.lock := by
  unfold Link.sent
  split <;> rfl

/-- A machine's record with its session discarded. -/
def MachineRecord.bare (r : MachineRecord) : MachineRecord := { r with outstanding := .none, session := none, abandoned := none }

/-- The session discarded, no ending record standing. -/
def State.discarding (t : State) (m : MachineNo) : State :=
  (t.setEnding m none).modMachine m fun r => { r with outstanding := .none, abandoned := none, session := none }

theorem State.Becomes.setEnding (h : s.Becomes b t m r l gs) (q : Option Nat) :
    s.Becomes (b.setEnding m q) (t.setEnding m q) m r l gs := h.through fun u => u.setEnding m q

theorem State.Becomes.discarding (h : s.Becomes b t m r l gs) : s.Becomes (b.setEnding m none) (t.discarding m) m r.bare l gs :=
  (h.setEnding none).modMachine fun r => { r with outstanding := .none, abandoned := none, session := none }

/-- Where an AUTHORISE's refusal leaves the machine, as its abandonment mark says (R9). -/
def State.refusing (t : State) (m : MachineNo) : Option Abandonment → State
  | none | some .leak => t.enter m .idle
  | some .nodeLoss => t.enterOffline m
  | some (.lockout k) => (t.enterLockedOut m k).markLockout m

theorem State.authoriseRefused_eq (u : State) (m : MachineNo) (card : CardId) (why : Reason) :
    u.authoriseRefused m card why = ((u.discarding m).refusing m (u.machine m).abandoned).refuseCard m card why := by
  unfold State.authoriseRefused State.refusing
  generalize (u.machine m).abandoned = a
  cases a with
  | none => rfl
  | some a => cases a <;> rfl

theorem State.kept_setEnding (s : State) (m : MachineNo) (q : Option Nat) : Kept [.supervisor] s (s.setEnding m q) := by
  refine ⟨rfl, fun y hy => ?_⟩
  cases y
  case supervisor => simp at hy
  all_goals rfl

/-- An AUTHORISE is refused: the machine's record is left as `q` and its link as `k`, REFUSE apart, and of the other blocks `b` (R9). -/
theorem authoriseRefused_leads (hr : s.Runs) {card : CardId} {why : Reason} {q : MachineRecord} {k : Link} {xs : List Block}
    {holds : State → Prop} (hfound : s.findHanded (authoriseHanded m) = some (c, .refused card why))
    (hw : s.Becomes b (((s.freeContext c).discarding m).refusing m (s.machine m).abandoned) m q k [])
    (hlink : k.state = (s.link m).state) (hkept : Kept xs ((s.freeContext c).setEnding m none) b) (hset : b.Settled)
    (hh : ∀ t, t.StoreFrom b.store → (∃ a, (t.link m).table = ((k.sent (.refuse why)).lamped a).table) → holds t)
    (hxs : ∀ y ∈ xs, y = .store := by decide) :
    Leads (exec (.authoriseResult m) s) s ([.host, .payment, .engine, .line, .supervisor] ++ xs) fun t =>
      t.host = (s.host.offered [.refusal m card why]).transmit ∧ t.payment = s.payment.freed c ∧ OthersKept [m] s t ∧
        t.supervisor = { s.supervisor with ending := s.supervisor.ending.set m.1 none } ∧
        t.machine m = { q with lampSent := (t.machine m).lampSent } ∧
        ((s.link m).state ≠ .disabled → (t.link m).table.refuse = some why) ∧ holds t := by
  have hsame (y : Block) (hy : y ≠ .store) : y.kept ((s.freeContext c).setEnding m none) b := hkept.2 y fun hin => hy (hxs y hin)
  have heffect := (effect_authoriseResult hfound).trans ((s.freeContext c).authoriseRefused_eq m card why)
  have hrefused := hw.refuseCard card why
  have hblocks : Kept ([.host, .payment, .engine, .line, .supervisor] ++ xs) s (b.notify (.refusal m card why)) :=
    ((((s.kept_freeContext c).mono (by simp)).and (State.kept_setEnding _ m none) (by simp)).and hkept fun y hy =>
      List.mem_append_right _ hy).and (b.kept_notify _) (by simp)
  have hhost : b.host = s.host := hsame .host (by decide)
  have hengine : (b.notify (.refusal m card why)).engine = s.engine := hsame .engine (by decide)
  have hline : (b.notify (.refusal m card why)).line = s.line := hsame .line (by decide)
  refine leads_becomes_settled ⟨nofun, nofun⟩ hr heffect hrefused hset hblocks (by simp) (by simp) fun t ht => ?_
  obtain ⟨⟨a, hm⟩, d, htable⟩ := hrefused.concludes ht
  refine ⟨hrefused.transmits ht (congrArg (HostLink.offer · _) hhost), (hrefused.concludes_payment ht).trans (hsame .payment (by decide)),
    hrefused.othersKept ht rfl rfl (by rw [hengine]) (by rw [hline]),
    (hrefused.concludes_supervisor ht).trans (hsame .supervisor (by decide)), MachineRecord.eq_of_lamped hm rfl, fun hl => ?_,
    hh t (hrefused.concludes_storeFrom ht) ⟨d, htable⟩⟩
  rw [htable, Link.sent_of_ne (by rw [hlink]; exact hl)]
  rfl

/-! ## EXTEND -/

theorem State.extendInTime_iff {u : State} (hx : (u.machine m).session = some x) :
    u.extendInTime m = true ↔ (u.machine m).state = .running ∧ x.finishSent = false := by
  have hsession : u.session m = some x := hx
  unfold State.extendInTime
  rw [hsession]
  simp

/-- The machine with no request outstanding, or with another one. -/
def State.awaiting (u : State) (m : MachineNo) (o : Outstanding) : State := u.modMachine m fun r => { r with outstanding := o }

theorem State.Becomes.awaiting (h : s.Becomes b t m r l gs) (o : Outstanding) :
    s.Becomes b (t.awaiting m o) m { r with outstanding := o } l gs := h.modMachine _

theorem State.awaiting_engine (u : State) (m : MachineNo) (o : Outstanding) : (u.awaiting m o).engine =
    { u.engine with machines := u.engine.machines.set m.1 { u.machine m with outstanding := o } } := rfl

theorem State.awaiting_session {u : State} (hx : (u.machine m).session = some x) (o : Outstanding) : (u.awaiting m o).session m = some x :=
  (congrArg MachineRecord.session (look_set_self u.engine.machines m { u.machine m with outstanding := o })).trans hx

theorem State.awaiting_modSession (u : State) (m : MachineNo) (o : Outstanding) (f : Session → Session) :
    (u.awaiting m o).modSession m f =
      u.placed m { u.machine m with outstanding := o, session := (u.machine m).session.map f } (u.link m) := by
  unfold State.awaiting State.modSession
  rw [State.modMachine_eq, State.modMachine_eq, State.placed_machine, State.placed_link, State.placed_placed]

theorem State.send_engine (u : State) (m : MachineNo) (q : NodeCommand) : (u.send m q).engine = u.engine := by
  rw [u.send_eq]
  exact u.placed_engine_self m _

/-- A session longer by a part (R18). -/
def Session.extended (x : Session) (p : Part) : Session :=
  { x with parts := x.parts ++ [{ p with start := x.units }], units := x.units + p.units }

theorem State.extended_inTime {u : State} (hx : (u.machine m).session = some x) (hst : (u.machine m).state = .running)
    (hfinish : x.finishSent = false) (p : Part) (v : Bool) : u.extended m p v =
      ((u.awaiting m .none).modSession m fun y => y.extended p).send m (.enable x.id x.programme p.price .immediate) := by
  have hsession : u.session m = some x := hx
  unfold State.extended
  rw [hsession]
  exact if_pos ((State.extendInTime_iff hx).mpr ⟨hst, hfinish⟩)

theorem State.extended_late {u : State} (hx : (u.machine m).session = some x)
    (hlate : (u.machine m).state ≠ .running ∨ x.finishSent = true) (p : Part) (v : Bool) : u.extended m p v =
      ((u.awaiting m .partRelease).enqueue (.partRelease m x.id (x.parts.length + 1) p v)).send m (.refuse .machineBusy) := by
  have hsession : u.session m = some x := hx
  have hnot : ¬ u.extendInTime m = true := by
    rw [State.extendInTime_iff hx]
    rintro ⟨hst, hfinish⟩
    rcases hlate with h | h
    · exact h hst
    · rw [hfinish] at h
      cases h
  unfold State.extended
  rw [hsession]
  exact if_neg hnot

/-- An EXTEND succeeds in time (R18). -/
theorem extended_inTime_leads (hr : s.Runs) (hx : (s.machine m).session = some x) {p : Part} {v : Bool}
    (hfound : s.findHanded (extendHanded m) = some (c, .part p v)) (hst : (s.machine m).state = .running) (hfinish : x.finishSent = false) :
    Leads (exec (.extendResult m) s) s [.payment, .engine, .line] fun t =>
      t.payment = s.payment.freed c ∧
        t.engine = { s.engine with
          machines := s.engine.machines.set m.1 { s.machine m with outstanding := .none, session := some (x.extended p) } } ∧
        OthersKept [m] s t ∧
        ((s.link m).state ≠ .disabled → (t.link m).table.arm = some (.enable x.id x.programme p.price .immediate)) := by
  have heffect := (effect_extendResult hfound).trans (State.extended_inTime (u := s.freeContext c) hx hst hfinish p v)
  have hw := (((s.freed_becomes c m).awaiting .none).modSession fun y => y.extended p).send
    (.enable x.id x.programme p.price .immediate)
  refine leads_becomes ⟨nofun, nofun⟩ hr heffect hw ((s.kept_freeContext c).mono (by decide)) (by simp) (by simp) fun t ht => ?_
  obtain ⟨-, d, htable⟩ := hw.concludes ht
  refine ⟨hw.concludes_payment ht, ?_, hw.othersKept ht rfl rfl rfl rfl, fun hl => ?_⟩
  · have hsession : (s.machine m).session.map (fun y => y.extended p) = some (x.extended p) := by rw [hx]; rfl
    rw [← hsession]
    exact ht.engine.trans ((State.send_engine _ _ _).trans (congrArg State.engine (State.awaiting_modSession ..)))
  · rw [htable, Link.sent_of_ne hl]
    rfl

/-- An EXTEND succeeds too late (R18). -/
theorem extended_late_leads (hr : s.Runs) (hx : (s.machine m).session = some x) {p : Part} {v : Bool}
    (hfound : s.findHanded (extendHanded m) = some (c, .part p v)) (hlate : (s.machine m).state ≠ .running ∨ x.finishSent = true) :
    Leads (exec (.extendResult m) s) s [.payment, .engine, .line] fun t =>
      t.payment = { s.payment.freed c with queue := s.payment.queue ++ [.partRelease m x.id (x.parts.length + 1) p v] } ∧
        t.engine = { s.engine with machines := s.engine.machines.set m.1 { s.machine m with outstanding := .partRelease } } ∧
        OthersKept [m] s t ∧ ((s.link m).state ≠ .disabled → (t.link m).table.refuse = some .machineBusy) := by
  have heffect := (effect_extendResult hfound).trans (State.extended_late (u := s.freeContext c) hx hlate p v)
  have hw := (((s.freed_becomes c m).awaiting .partRelease).enqueue (.partRelease m x.id (x.parts.length + 1) p v)).send
    (.refuse .machineBusy)
  have hkept := ((s.kept_freeContext c).mono (ys := [.payment, .engine, .line]) (by decide)).and
    (State.kept_enqueue _ (.partRelease m x.id (x.parts.length + 1) p v))
  refine leads_becomes ⟨nofun, nofun⟩ hr heffect hw hkept (by simp) (by simp) fun t ht => ?_
  obtain ⟨-, d, htable⟩ := hw.concludes ht
  refine ⟨hw.concludes_payment ht, ht.engine.trans (State.send_engine _ _ _), hw.othersKept ht rfl rfl rfl rfl, fun hl => ?_⟩
  rw [htable, Link.sent_of_ne hl]
  rfl

theorem State.awaiting_refuseCard (u : State) (m : MachineNo) (o : Outstanding) (card : CardId) (why : Reason) :
    (u.awaiting m o).refuseCard m card why =
      (u.placed m { u.machine m with outstanding := o } ((u.link m).sent (.refuse why))).notify (.refusal m card why) := by
  unfold State.awaiting State.refuseCard
  rw [State.send_eq, State.modMachine_eq, State.placed_machine, State.placed_link, State.placed_placed]

theorem State.awaiting_refused (u : State) (m : MachineNo) (o o' : Outstanding) (card : CardId) (why : Reason) :
    ((u.awaiting m o).refuseCard m card why).awaiting m o' = (u.awaiting m o').refuseCard m card why := by
  rw [State.awaiting_refuseCard, State.awaiting_refuseCard]
  show ((u.placed m _ _).awaiting m o').notify _ = _
  unfold State.awaiting
  rw [State.modMachine_eq, State.placed_machine, State.placed_link, State.placed_placed]

/-- A settlement held back is placed (R18). -/
theorem State.placeHeldBack_settling {u : State} {cause : EndCause} (hx : (u.machine m).session = some x)
    (hst : (u.machine m).state = .settling) (hcause : x.endCause = some cause) :
    u.placeHeldBack m = (u.awaiting m .settle).enqueue (.settle m x.id cause x.elapsed x.paused) := by
  have hsession : u.session m = some x := hx
  unfold State.placeHeldBack
  rw [if_pos hst]
  unfold State.placeSettle
  rw [hsession, Option.map_some, Option.getD_some]
  simp only [hcause]
  rfl

theorem State.placeHeldBack_none {u : State} (hst : (u.machine m).state ≠ .settling) : u.placeHeldBack m = u := if_neg hst

/-- What the machine's record is once a card is refused. -/
theorem State.refused_machine (u : State) (m : MachineNo) (o : Outstanding) (card : CardId) (why : Reason) :
    ((u.awaiting m o).refuseCard m card why).machine m = { u.machine m with outstanding := o } := by
  rw [State.awaiting_refuseCard]
  exact u.placed_machine m _ ((u.link m).sent (.refuse why))

theorem State.extendRefused_open {u : State} (hst : (u.machine m).state ≠ .settling) (card : CardId) (why : Reason) :
    u.extendRefused m card why = (u.awaiting m .none).refuseCard m card why := by
  have hstate : (((u.awaiting m .none).refuseCard m card why).machine m).state ≠ .settling := by
    rw [State.refused_machine]
    exact hst
  exact ite_eq_left_iff.mpr fun _ => State.placeHeldBack_none hstate

theorem State.extendRefused_settling {u : State} {cause : EndCause} (hx : (u.machine m).session = some x)
    (hst : (u.machine m).state = .settling) (hcause : x.endCause = some cause) (card : CardId) (why : Reason) :
    u.extendRefused m card why =
      ((u.awaiting m .settle).refuseCard m card why).enqueue (.settle m x.id cause x.elapsed x.paused) := by
  have hmachine := u.refused_machine m .none card why
  have hlate : ¬ u.extendInTime m = true := by
    rw [State.extendInTime_iff hx, hst]
    exact fun h => absurd h.1 (by decide)
  have hplaced := State.placeHeldBack_settling (u := (u.awaiting m .none).refuseCard m card why) (by rw [hmachine]; exact hx)
    (by rw [hmachine]; exact hst) hcause
  rw [State.awaiting_refused] at hplaced
  exact (if_neg hlate).trans hplaced

theorem State.refused_engine (u : State) (m : MachineNo) (o : Outstanding) (card : CardId) (why : Reason) :
    ((u.awaiting m o).refuseCard m card why).engine = (u.awaiting m o).engine := State.send_engine _ _ _

/-- An EXTEND is refused (R18). -/
theorem extendRefused_leads (hr : s.Runs) {card : CardId} {why : Reason} {o : Outstanding}
    (hfound : s.findHanded (extendHanded m) = some (c, .refused card why))
    (heffect : (s.freeContext c).extendRefused m card why = w)
    (hw : s.Becomes b w m { s.machine m with outstanding := o } ((s.link m).sent (.refuse why)) [])
    (hkept : Kept [.payment] ((s.freeContext c).notify (.refusal m card why)) b)
    (hengine : w.engine = ((s.freeContext c).awaiting m o).engine) :
    Leads (exec (.extendResult m) s) s [.host, .payment, .engine, .line] fun t =>
      t.host = (s.host.offered [.refusal m card why]).transmit ∧ t.payment = b.payment ∧
        t.engine = { s.engine with machines := s.engine.machines.set m.1 { s.machine m with outstanding := o } } ∧
        OthersKept [m] s t ∧ ((s.link m).state ≠ .disabled → (t.link m).table.refuse = some why) := by
  have hbengine : b.engine = s.engine := hkept.2 .engine (by decide)
  have hbline : b.line = s.line := hkept.2 .line (by decide)
  refine leads_becomes ⟨nofun, nofun⟩ hr ((effect_extendResult hfound).trans heffect) hw ((s.kept_freed_notify c _).and hkept)
    (by simp) (by simp) fun t ht => ?_
  obtain ⟨-, d, htable⟩ := hw.concludes ht
  refine ⟨hw.transmits ht (hkept.2 .host (by decide)), hw.concludes_payment ht, ht.engine.trans hengine,
    hw.othersKept ht rfl rfl (by rw [hbengine]) (by rw [hbline]), fun hl => ?_⟩
  rw [htable, Link.sent_of_ne hl]
  rfl

end

/-- Settles O51: what is in REPLY is found, and taken as the abandonment mark or the session's state says. -/
theorem vendResultsReachEngine : Obligations.VendResultsReachEngine := by
  intro s m c hr hother r auth ext awaits freed linked
  have hauth {k : ContextNo} (h : ¬ awaits (s.context k).request) (q : PayRequest) (x : Handed) (hq : (s.context k).request = some q) :
      authoriseHanded m q x = none := authoriseHanded_none (fun hv => h (by rw [hq]; cases q <;> exact hv)) x
  have hext {k : ContextNo} (h : ¬ awaits (s.context k).request) (q : PayRequest) (x : Handed) (hq : (s.context k).request = some q) :
      extendHanded m q x = none := extendHanded_none (fun hv => h (by rw [hq]; cases q <;> exact hv)) x
  refine ⟨fun hnone => ⟨?_, ?_⟩, fun honly => ⟨fun cls card p n id part v st hc x hx => ?success, fun cls card p n id why st hc => ?refused,
    fun card p n id part v st hc x hx => ?longer, fun card p n id why st hc x hx => ?kept⟩⟩
  · refine leads_nothing ⟨nofun, nofun⟩ hr ?_
    show s.takeAuthorise m = s
    unfold State.takeAuthorise
    rw [State.findHanded_none fun k => hauth (hnone k)]
  · refine leads_nothing ⟨nofun, nofun⟩ hr ?_
    show s.takeExtend m = s
    unfold State.takeExtend
    rw [State.findHanded_none fun k => hext (hnone k)]
  case success =>
    have hfound : s.findHanded (authoriseHanded m) = some (c, .part part v) :=
      State.findHanded_some hc (if_pos rfl) fun k hk => hauth (honly k hk)
    refine ⟨fun hfree => authorised_arms_machine hr hother hx hfound hfree, fun hst => ?_⟩
    exact ⟨fun hmark => authorised_settles hr hother hx hfound hst hmark, fun k hmark => authorised_settles hr hother hx hfound hst hmark,
      fun hmark => authorised_settles hr hother hx hfound hst hmark⟩
  case refused =>
    intro bare refuses
    have hfound : s.findHanded (authoriseHanded m) = some (c, .refused card why) :=
      State.findHanded_some hc (if_pos rfl) fun k hk => hauth (honly k hk)
    have hcalm : ((s.freeContext c).setEnding m none).KeepsStart s m := fun hrec => hother hrec
    have hw := (s.freed_becomes c m).discarding
    have hself := Kept.refl [] ((s.freeContext c).setEnding m none)
    refine ⟨fun hmark => ?_, fun hmark => ?_, fun k hmark => ?_⟩
    · have hidle : s.Becomes ((s.freeContext c).setEnding m none) (((s.freeContext c).discarding m).refusing m (s.machine m).abandoned) m
          { bare with state := .idle } (s.link m) [] := by
        rcases hmark with h | h <;> rw [show (s.machine m).abandoned = _ from h] <;> exact hw.enter hcalm .idle
      exact authoriseRefused_leads hr hfound hidle rfl hself hr.2 fun _ _ _ => trivial
    · intro back
      have hstate : (if r.enabled && ((s.link m).state == .online || (s.link m).state == .silent) then MachineState.idle else .offline) =
          if back then .idle else .offline := if_congr (by simp [back]) rfl rfl
      have hoffline : s.Becomes ((s.freeContext c).setEnding m none) (((s.freeContext c).discarding m).refusing m (s.machine m).abandoned) m
          { bare with state := if back then .idle else .offline } (s.link m) [] := by
        rw [show (s.machine m).abandoned = _ from hmark, ← hstate]
        exact hw.enterOffline hcalm
      exact authoriseRefused_leads hr hfound hoffline rfl hself hr.2 fun _ _ _ => trivial
    · have hlocked : s.Becomes (((s.freeContext c).setEnding m none).markLockout m)
          (((s.freeContext c).discarding m).refusing m (s.machine m).abandoned) m { bare with state := .lockedOut, lockout := some k }
          ((s.link m).sent (.lock true)) [] := by
        rw [show (s.machine m).abandoned = _ from hmark]
        exact (hw.enterLockedOut hcalm k).markLockout
      refine authoriseRefused_leads hr hfound hlocked ((s.link m).sent_state _) (State.kept_markLockout _ m)
        (State.Settled.markLockout hr.2 m) fun t hstore htable => ⟨fun hl => ?_, hstore⟩
      obtain ⟨d, htable⟩ := htable
      rw [htable]
      refine (Link.sent_refuse_lock _ why).trans ?_
      rw [Link.sent_of_ne hl]
      rfl
  case longer =>
    have hfound : s.findHanded (extendHanded m) = some (c, .part part v) :=
      State.findHanded_some hc (if_pos rfl) fun k hk => hext (honly k hk)
    exact ⟨fun hst hfinish => extended_inTime_leads hr hx hfound hst hfinish, fun hlate => extended_late_leads hr hx hfound hlate⟩
  case kept =>
    have hfound : s.findHanded (extendHanded m) = some (c, .refused card why) :=
      State.findHanded_some hc (if_pos rfl) fun k hk => hext (honly k hk)
    intro refuses
    refine ⟨fun hst => ?_, fun cause hst hcause => ?_⟩
    · exact extendRefused_leads hr hfound (State.extendRefused_open (u := s.freeContext c) hst card why)
        (((s.freed_becomes c m).awaiting .none).refuseCard card why) (Kept.refl _ _) (State.refused_engine _ m .none card why)
    · exact extendRefused_leads hr hfound (State.extendRefused_settling (u := s.freeContext c) hx hst hcause card why)
        ((((s.freed_becomes c m).awaiting .settle).refuseCard card why).enqueue _) (State.kept_enqueue _ _)
        (State.refused_engine _ m .settle card why)

end Sys2Proof.Machine
end

section
/-! SUPPORT. A heat request, as the unit answers it and the machine and its node are told (7.2, 7.4). -/
namespace Sys2Proof.Machine

section
variable {s b t w : State} {m : MachineNo} {r : MachineRecord} {l : Link} {gs as : List MachineNo} {x : Session}

/-! ## The machine told -/

/-- The machine told its heat state, and its node the command that goes with it (R13). -/
theorem State.Becomes.tell (h : s.Becomes b t m r l gs) (hx : r.session = some x) (heat : HeatState) (c : Nat → HeatCommand) :
    s.Becomes b (t.tell heat c m) m (r.heated heat) (l.sent (c x.id).command) gs := by
  have hsession : t.session m = some x := h.session.trans hx
  unfold State.tell
  rw [hsession]
  exact (h.setHeat heat).send _ fun a => by cases c x.id <;> exact NodeCommand.noConfusion

/-- With the same heat command too, links differ in their LAMP alone. -/
theorem Link.lamped_of_butHeat {k : Link} (h : l.butHeat = k.butHeat) (hheat : k.table.heat = l.table.heat) : ∃ a, k = l.lamped a := by
  refine ⟨k.table.lamp, (Link.eq_of_butHeat h).trans ?_⟩
  rw [hheat]
  rfl

/-- Grants told, the machine's own among them (R149). -/
theorem State.Becomes.grantsWith (h : s.Becomes b t m r l gs) (hx : r.session = some x) (hm : m ∈ as) :
    s.Becomes b (forEach as (fun k u => u.tell .granted .grant k) t) m (r.heated .granted) (l.sent (HeatCommand.grant x.id).command)
      (gs ++ as) := by
  have k := t.forEach_tell .granted .grant as
  obtain ⟨a, hmachine⟩ := h.machine
  obtain ⟨a', hlink⟩ := h.link
  have hsession : (t.machine m).session = some x := by rw [hmachine]; exact hx
  have hheat := k.heat m
  have htable := k.table m
  rw [hsession] at hheat htable
  exact {
    same := h.same.trans (t.forEach_tell_same _ _ _)
    machine := by
      refine MachineRecord.lamped_of_butHeat ?_ ?_
      · rw [k.record m, hmachine]
        exact r.heated_butHeat _
      · rw [hheat]
        simp [hm, MachineRecord.heated, hx]
    link := by
      refine Link.lamped_of_butHeat ?_ ?_
      · rw [k.link m, hlink]
        exact l.sent_heat_butHeat _
      · rw [htable, hlink, Link.sent_heat]
        by_cases hl : l.state = .disabled <;> simp [hl, hm, Link.lamped]
    record := fun i hi => (k.record i).trans (h.record i hi)
    links := fun i hi => (k.link i).trans (h.links i hi)
    told := h.told.andGrants (fun i hi => h.record i (List.ne_of_not_mem_cons hi)) (fun i hi => h.links i (List.ne_of_not_mem_cons hi)) k
    lamps := h.lamps.trans (State.forEach_lampsWait (fun k u => u.lampsWait_tell .granted .grant k) as t) }

/-! ## The unit's answer -/

/-- What a heat request makes of the unit, and the machines it grants (R142, R143). -/
def Feeder.answered (f : Feeder) (r : RoomNo) (m : MachineNo) (load : Nat) : Feeder × List MachineNo :=
  if load = 0 then (f.freed r m, []) else (f.joined r ⟨m, load⟩).pass

/-- Whether the request is granted at once. -/
def Feeder.answers (f : Feeder) (r : RoomNo) (m : MachineNo) (load : Nat) : Bool :=
  load == 0 || (f.joined r ⟨m, load⟩).pass.2.contains m

/-- The heat state it gives. -/
def heatGiven (granted : Bool) : HeatState := if granted then .granted else .waiting

/-- The command that goes with it. -/
def heatSent (granted : Bool) (id : Nat) : HeatCommand := if granted then .grant id else .hold id

/-- The unit and the host link once the answer is judged (R155). -/
def State.answering (b : State) (p : Feeder × List MachineNo) : State :=
  { b with feeder := p.1.judged.1, host := b.host.offered p.1.judged.2 }

theorem State.claimHeat_free (t : State) (m : MachineNo) : t.claimHeat m 0 =
    (({ t with feeder := t.feeder.freed (t.machine m).room m } : State).tell .granted .grant m).judgeBacklog := rfl

theorem State.claimHeat_granted {t : State} {load : Nat} (h : load ≠ 0)
    (hm : m ∈ (t.feeder.joined (t.machine m).room ⟨m, load⟩).pass.2) : t.claimHeat m load =
      (forEach (t.feeder.joined (t.machine m).room ⟨m, load⟩).pass.2 (fun k u => u.tell .granted .grant k)
        { t with feeder := (t.feeder.joined (t.machine m).room ⟨m, load⟩).pass.1 }).judgeBacklog := by
  unfold State.claimHeat
  rw [if_neg h]
  exact congrArg State.judgeBacklog (if_pos (List.contains_iff_mem.mpr hm))

theorem State.claimHeat_waits {t : State} {load : Nat} (h : load ≠ 0)
    (hm : m ∉ (t.feeder.joined (t.machine m).room ⟨m, load⟩).pass.2) : t.claimHeat m load =
      ((forEach (t.feeder.joined (t.machine m).room ⟨m, load⟩).pass.2 (fun k u => u.tell .granted .grant k)
        { t with feeder := (t.feeder.joined (t.machine m).room ⟨m, load⟩).pass.1 }).tell .waiting .hold m).judgeBacklog := by
  unfold State.claimHeat
  rw [if_neg h]
  exact congrArg State.judgeBacklog (if_neg (mt List.contains_iff_mem.mp hm))

/-- The machine and the others once the request is answered (R142, R143, R149, R155). -/
theorem State.Becomes.claimHeat (h : s.Becomes b t m r l gs) (hx : r.session = some x) (load : Nat) :
    s.Becomes (b.answering (b.feeder.answered r.room m load)) (t.claimHeat m load) m
      (r.heated (heatGiven (b.feeder.answers r.room m load)))
      (l.sent (heatSent (b.feeder.answers r.room m load) x.id).command) (gs ++ (b.feeder.answered r.room m load).2) := by
  have hfeeder : t.feeder = b.feeder := by rw [h.same]
  have hroom : (t.machine m).room = r.room := by
    obtain ⟨a, hm⟩ := h.machine
    rw [hm]
    rfl
  by_cases hload : load = 0
  · subst hload
    have hclaim := t.claimHeat_free m
    rw [hfeeder, hroom] at hclaim
    rw [hclaim]
    have hw := ((h.through fun u => { u with feeder := b.feeder.freed r.room m }).tell hx .granted .grant).judgeBacklog
    rw [show gs ++ (b.feeder.answered r.room m 0).2 = gs from List.append_nil gs]
    exact hw
  · have hanswered : b.feeder.answered r.room m load = (b.feeder.joined r.room ⟨m, load⟩).pass := if_neg hload
    have hjoined := h.through fun u => { u with feeder := (b.feeder.joined r.room ⟨m, load⟩).pass.1 }
    have hcontains : b.feeder.answers r.room m load = (b.feeder.joined r.room ⟨m, load⟩).pass.2.contains m := by
      unfold Feeder.answers
      rw [beq_eq_false_iff_ne.mpr hload, Bool.false_or]
    rw [hanswered, hcontains]
    by_cases hm : m ∈ (b.feeder.joined r.room ⟨m, load⟩).pass.2
    · have hclaim := State.claimHeat_granted (t := t) (m := m) hload (by rw [hfeeder, hroom]; exact hm)
      rw [hfeeder, hroom] at hclaim
      rw [hclaim, List.contains_iff_mem.mpr hm]
      exact (hjoined.grantsWith hx hm).judgeBacklog
    · have hclaim := State.claimHeat_waits (t := t) (m := m) hload (by rw [hfeeder, hroom]; exact hm)
      rw [hfeeder, hroom] at hclaim
      rw [hclaim, Bool.eq_false_iff.mpr (mt List.contains_iff_mem.mp hm)]
      exact ((hjoined.grants hm).tell hx .waiting .hold).judgeBacklog

/-- The same, what the machine held or waited for released first (R143, R144). -/
theorem State.Becomes.requestHeat (h : s.Becomes b t m r l gs) (hx : r.session = some x) :
    let f := (b.feeder.released m).1
    let load := b.tariff.heatLoad r.cls x.programme
    s.Becomes (b.answering (f.answered r.room m load)) (t.requestHeat m) m (r.heated (heatGiven (f.answers r.room m load)))
      (l.sent (heatSent (f.answers r.room m load) x.id).command) (gs ++ (b.feeder.released m).2 ++ (f.answered r.room m load).2) := by
  intro f load
  have hsession : t.session m = some x := h.session.trans hx
  have htariff : t.tariff = b.tariff := by rw [h.same]
  have hcls : (t.machine m).cls = r.cls := by
    obtain ⟨a, hm⟩ := h.machine
    rw [hm]
    rfl
  have heq : t.requestHeat m = (t.dropClaim m).claimHeat m load := by
    unfold State.requestHeat
    rw [hsession, htariff, hcls]
  rw [heq]
  exact h.dropClaim.claimHeat hx load

/-! ## The answer, seen once the event has ended -/

theorem Feeder.sameSettings_answered (f : Feeder) (room : RoomNo) (m : MachineNo) (load : Nat) :
    f.SameSettings (f.answered room m load).1 := by
  unfold Feeder.answered
  split
  · exact ⟨rfl, fun k => Feeder.freed_capacity⟩
  · exact Feeder.SameSettings.trans ⟨rfl, fun k => Feeder.joined_capacity⟩ (Feeder.sameSettings_pass _)

/-- The claim stands among the grants, or in the NEW queue (R142, R143). -/
theorem Feeder.answered_claim {f : Feeder} (h : m ∉ f.places) (room : RoomNo) (load : Nat) :
    (f.answers room m load = true → ⟨m, load⟩ ∈ (look (f.answered room m load).1.rooms room).grants) ∧
      (f.answers room m load = false → ⟨m, load⟩ ∈ (look (f.answered room m load).1.rooms room).newQueue) := by
  unfold Feeder.answered Feeder.answers
  by_cases hload : load = 0
  · subst hload
    rw [if_pos rfl, Feeder.freed_room_self]
    exact ⟨fun _ => List.mem_append_right _ List.mem_cons_self, fun h => absurd h (by simp)⟩
  · have hclaim := Feeder.pass_claim (f.joined room ⟨m, load⟩) (Feeder.joined_waitsAlone (c := ⟨m, load⟩) h)
      (by rw [Feeder.joined_room_self]; exact List.mem_append_right _ List.mem_cons_self)
    rw [if_neg hload, beq_eq_false_iff_ne.mpr hload, Bool.false_or]
    exact ⟨fun hin => hclaim.1 (List.contains_iff_mem.mp hin),
      fun hout => hclaim.2 (mt List.contains_iff_mem.mpr (Bool.eq_false_iff.mp hout))⟩

/-- The answer to the request, in the safety terms' words (R13, R142, R143). -/
theorem State.heatAnswered {load id : Nat} {room : RoomNo} (hfeeder : t.feeder =
      ((s.feeder.released m).1.answered room m load).1.judged.1)
    (htold : s.HeatTold t [m] [] ((s.feeder.released m).2 ++ ((s.feeder.released m).1.answered room m load).2))
    (htable : (t.link m).state ≠ .disabled →
      (t.link m).table.heat = some (heatSent ((s.feeder.released m).1.answers room m load) id)) :
    s.HeatAnswered t m room load id (heatGiven ((s.feeder.released m).1.answers room m load))
      ((s.feeder.released m).1.answered room m load).1.judged.2 := by
  obtain ⟨habsent, -⟩ := Feeder.released_absent s.feeder m
  obtain ⟨hin, hout⟩ := Feeder.answered_claim habsent room load
  have hrooms (g : Feeder) : g.judged.1.rooms = g.rooms := by
    rw [g.judged_eq]
  unfold State.HeatAnswered
  refine ⟨?_, fun hload => ?_, fun hload => ?_⟩
  · rw [hfeeder, hrooms]
    cases hgiven : (s.feeder.released m).1.answers room m load with
    | true =>
      rw [hgiven] at htable
      exact .inl ⟨rfl, hin hgiven, htable⟩
    | false =>
      rw [hgiven] at htable
      exact .inr ⟨rfl, hout hgiven, htable⟩
  · subst hload
    refine ⟨rfl, ?_, rfl, htold⟩
    rw [hfeeder]
    rfl
  · have hload := Nat.pos_iff_ne_zero.mp hload
    have hanswered : (s.feeder.released m).1.answered room m load = ((s.feeder.released m).1.joined room ⟨m, load⟩).pass := if_neg hload
    have hgiven : heatGiven ((s.feeder.released m).1.answers room m load) = .granted ↔
        m ∈ ((s.feeder.released m).1.joined room ⟨m, load⟩).pass.2 := by
      unfold heatGiven Feeder.answers
      rw [beq_eq_false_iff_ne.mpr hload, Bool.false_or, ← List.contains_iff_mem]
      cases ((s.feeder.released m).1.joined room ⟨m, load⟩).pass.2.contains m <;> simp
    rw [hanswered] at hfeeder htold ⊢
    refine ⟨⟨?_, rfl, htold⟩, hgiven, fun hd => hgiven.trans (Feeder.joined_pass_mem (c := ⟨m, load⟩) hd)⟩
    rw [hfeeder]
    rfl

end

end Sys2Proof.Machine
end

section
/-! SUPPORT. A session's minute in RUNNING and in DELAYED (1.4, 1.5). -/
namespace Sys2Proof.Machine

section
variable {s b t w : State} {m : MachineNo} {x y : Session}

/-! ## A session counted -/

/-- Machine `m` with the session `y`. -/
def State.counted (s : State) (m : MachineNo) (y : Session) : State := s.modMachine m fun r => { r with session := some y }

theorem State.counted_machine (s : State) (m : MachineNo) (y : Session) :
    (s.counted m y).machine m = { s.machine m with session := some y } := by
  unfold State.counted
  rw [State.modMachine_eq, State.placed_machine]

theorem State.counted_session (s : State) (m : MachineNo) (y : Session) : (s.counted m y).session m = some y :=
  congrArg MachineRecord.session (s.counted_machine m y)

theorem State.counted_counted (s : State) (m : MachineNo) (y z : Session) : (s.counted m y).counted m z = s.counted m z := by
  simp [State.counted, State.modMachine, update, look]

theorem State.modSession_counted (hx : s.session m = some x) (f : Session → Session) : s.modSession m f = s.counted m (f x) := by
  have hrecord : ({ s.machine m with session := (s.machine m).session.map f } : MachineRecord) =
      { s.machine m with session := some (f x) } := by
    rw [show (s.machine m).session = some x from hx]
    rfl
  unfold State.modSession State.counted
  rw [State.modMachine_eq, State.modMachine_eq, hrecord]

theorem State.counted_modSession (s : State) (m : MachineNo) (y : Session) (f : Session → Session) :
    (s.counted m y).modSession m f = s.counted m (f y) := by
  rw [State.modSession_counted (s.counted_session m y), State.counted_counted]

theorem State.Becomes.counted {r : MachineRecord} {l : Link} {gs : List MachineNo} (h : s.Becomes b t m r l gs) (y : Session) :
    s.Becomes b (t.counted m y) m { r with session := some y } l gs :=
  h.modMachine fun r => { r with session := some y }

/-! ## The refresh mark -/

theorem State.markRefresh_eq (s : State) (m : MachineNo) (x : Session) : s.markRefresh m x =
    { s with store := if x.mode = .immediate ∨ x.mode = .delayed then
      { s.store with refreshMarks := s.store.refreshMarks.set m.1 true } else s.store } := by
  unfold State.markRefresh
  split <;> rfl

theorem State.Settled.markRefresh (h : s.Settled) (m : MachineNo) (x : Session) : (s.markRefresh m x).Settled := by
  unfold State.markRefresh
  split
  · exact h
  · exact h

theorem State.kept_markRefresh (s : State) (m : MachineNo) (x : Session) : Kept [.store] s (s.markRefresh m x) := by
  rw [State.markRefresh_eq]
  refine ⟨rfl, fun y hy => ?_⟩
  cases y
  case store => simp at hy
  all_goals rfl

theorem State.Becomes.markRefresh {r : MachineRecord} {l : Link} {gs : List MachineNo} (h : s.Becomes b t m r l gs) (x : Session) :
    s.Becomes (b.markRefresh m x) (t.markRefresh m x) m r l gs :=
  h.through (fun u => u.markRefresh m x) fun u ms ls => by
    simp only [State.markRefresh]
    split <;> rfl

/-! ## The overrun comparison -/

/-- The session has run past its units and its allowance, and that was not raised before (R16). -/
def Session.beyond (y : Session) : Prop := y.mode ≠ .unbilled ∧ y.overrunRaised = false ∧ y.units + y.allowance < y.elapsed

/-- The session with its overrun raised. -/
def Session.raised (y : Session) : Session := { y with overrunRaised := true }

theorem State.checkOverrun_within (hy : t.session m = some y) (h : ¬ y.beyond) : t.checkOverrun m = t := by
  unfold State.checkOverrun
  rw [hy]
  exact if_neg h

theorem State.checkOverrun_beyond (hy : t.session m = some y) (h : y.beyond) :
    t.checkOverrun m = (t.counted m y.raised).reportFault m .overrun := by
  unfold State.checkOverrun
  rw [hy]
  refine (if_pos h).trans ?_
  rw [State.modSession_counted hy]
  rfl

/-! ## The minute by the machine's state -/

theorem State.minuteExpiry_off (h : (s.machine m).minuteTimer = false ∨ ((s.machine m).state ≠ .running ∧ (s.machine m).state ≠ .delayed)) :
    s.minuteExpiry m = s := by
  unfold State.minuteExpiry
  by_cases htimer : (s.machine m).minuteTimer = true
  · rw [if_pos htimer]
    obtain ⟨hrunning, hdelayed⟩ := h.resolve_left fun hoff => absurd (hoff.symm.trans htimer) (by decide)
    split
    · next hst _ => exact absurd hst hrunning
    · next hst _ => exact absurd hst hdelayed
    · rfl
  · exact if_neg htimer

theorem State.minuteExpiry_running (hx : (s.machine m).session = some x) (htimer : (s.machine m).minuteTimer = true)
    (hst : (s.machine m).state = .running) : s.minuteExpiry m = s.runningMinute m x := by
  unfold State.minuteExpiry
  rw [if_pos htimer, hst, show s.session m = some x from hx]

theorem State.minuteExpiry_delayed (hx : (s.machine m).session = some x) (htimer : (s.machine m).minuteTimer = true)
    (hst : (s.machine m).state = .delayed) : s.minuteExpiry m = s.delayedMinute m x := by
  unfold State.minuteExpiry
  rw [if_pos htimer, hst, show s.session m = some x from hx]

/-! ## The minute in RUNNING -/

/-- The session with its minute counted in e. -/
def Session.ticked (x : Session) : Session := { x with elapsed := x.elapsed + 1 }

/-- A dryer's increment counter after a minute, `length` being the increment length of its programme (R15). -/
def Session.countsDown (y : Session) (length : Nat) : Session :=
  { y with increment := if y.increment ≤ 1 ∧ y.elapsed < y.units then length else y.increment - 1 }

theorem Session.countsDown_late {y : Session} (h : y.units ≤ y.elapsed) (length : Nat) :
    y.countsDown length = { y with increment := y.increment - 1 } := by
  unfold Session.countsDown
  rw [if_neg fun hc => absurd hc.2 (by omega)]

/-- FINISH is due (R15). -/
abbrev Session.finishDue (y : Session) : Prop := y.units ≤ y.elapsed ∧ y.finishSent = false ∧ y.mode ≠ .unbilled

theorem State.markRefresh_machine (s : State) (m k : MachineNo) (x : Session) : (s.markRefresh m x).machine k = s.machine k := by
  rw [State.markRefresh_eq]
  rfl

theorem State.runningMinute_paused (hx : (s.machine m).session = some x) (h : x.heat = .waiting ∨ x.heat = .withdrawn) :
    s.runningMinute m x = (s.markRefresh m x).counted m { x with paused := x.paused + 1 } := by
  have hsession : (s.markRefresh m x).session m = some x := (congrArg MachineRecord.session (s.markRefresh_machine m m x)).trans hx
  unfold State.runningMinute
  simp only [State.modSession_counted hsession]
  rcases h with h | h <;> rw [h]

/-- The minute counted in e, a dryer's increment judged, the overrun compared (R12, R15, R16). -/
theorem State.runningMinute_counts (hx : (s.machine m).session = some x) (h : x.heat = .none ∨ x.heat = .granted) :
    s.runningMinute m x = (match (s.machine m).cls with
      | .washer => (s.markRefresh m x).counted m x.ticked
      | .dryer => ((s.markRefresh m x).counted m x.ticked).dryerMinute m).checkOverrun m := by
  have hsession : (s.markRefresh m x).session m = some x := (congrArg MachineRecord.session (s.markRefresh_machine m m x)).trans hx
  have hcls : ((s.markRefresh m x).machine m).cls = (s.machine m).cls := congrArg MachineRecord.cls (s.markRefresh_machine m m x)
  unfold State.runningMinute
  simp only [State.modSession_counted hsession, hcls]
  split
  case h_1 | h_2 => simp_all
  all_goals rfl

theorem State.dryerMinute_eq (t : State) (m : MachineNo) (y : Session) : (t.counted m y).dryerMinute m =
    if y.finishDue then
      (t.counted m (y.countsDown (t.lengthOf y.programme))).finish m
    else t.counted m (y.countsDown (t.lengthOf y.programme)) := by
  have hlength : (t.counted m y).lengthOf y.programme = t.lengthOf y.programme := rfl
  have hdown : ({ y with increment := if y.increment - 1 = 0 ∧ y.elapsed < y.units then t.lengthOf y.programme else y.increment - 1 } :
      Session) = y.countsDown (t.lengthOf y.programme) := by
    unfold Session.countsDown
    have hiff : y.increment - 1 = 0 ∧ y.elapsed < y.units ↔ y.increment ≤ 1 ∧ y.elapsed < y.units := by omega
    rw [if_congr hiff rfl rfl]
  unfold State.dryerMinute
  rw [State.counted_session]
  simp only [hlength, State.counted_modSession, hdown]

/-- The session counted, after a minute in which FINISH is not due (R12, R15). -/
def Session.minuted (x : Session) (cls : MachineClass) (length : Nat) : Session :=
  match cls with
  | .washer => x.ticked
  | .dryer => x.ticked.countsDown length

theorem Session.beyond_minuted {cls : MachineClass} {length : Nat} : (x.minuted cls length).beyond ↔ x.ticked.beyond := by
  cases cls <;> exact Iff.rfl

theorem State.runningMinute_minuted (hx : (s.machine m).session = some x) (h : x.heat = .none ∨ x.heat = .granted)
    (hdue : (s.machine m).cls = .washer ∨ ¬ x.ticked.finishDue) :
    s.runningMinute m x =
      ((s.markRefresh m x).counted m (x.minuted (s.machine m).cls (s.lengthOf x.programme))).checkOverrun m := by
  have hlength : (s.markRefresh m x).lengthOf x.programme = s.lengthOf x.programme := by
    rw [State.markRefresh_eq]
    rfl
  rw [State.runningMinute_counts hx h]
  cases hcls : (s.machine m).cls with
  | washer => rfl
  | dryer =>
    have hnot : ¬ x.ticked.finishDue := hdue.resolve_left fun hw => absurd (hcls.symm.trans hw) (by decide)
    simp only [State.dryerMinute_eq]
    rw [if_neg hnot, ← hlength]
    rfl


/-- FINISH sent, its flag set and the heat released (R15). -/
theorem State.Becomes.finish {r : MachineRecord} {l : Link} {gs : List MachineNo} (h : s.Becomes b t m r l gs) (hy : r.session = some y) :
    s.Becomes (b.releasing m) (t.finish m) m { r with session := some { y with finishSent := true, heat := .none } }
      (l.sent (.finish y.id)) (gs ++ (b.feeder.released m).2) := by
  have hsession : t.session m = some y := h.session.trans hy
  have hfinished := (((h.send (.finish y.id)).modSession fun y => { y with finishSent := true }).releaseHeat).setHeat .none
  have hrecord : ({ r with session := r.session.map fun y => { y with finishSent := true } } : MachineRecord).heated .none =
      { r with session := some { y with finishSent := true, heat := .none } } := by
    rw [hy]
    rfl
  rw [hrecord] at hfinished
  unfold State.finish
  rw [hsession]
  exact hfinished

theorem State.runningMinute_finishes (hx : (s.machine m).session = some x) (h : x.heat = .none ∨ x.heat = .granted)
    (hcls : (s.machine m).cls = .dryer) (hdue : x.ticked.finishDue) (hin : ¬ x.ticked.beyond) :
    s.runningMinute m x = ((s.markRefresh m x).counted m { x.ticked with increment := x.increment - 1 }).finish m := by
  have hfinish := ((((s.becomes_self m).markRefresh x).counted { x.ticked with increment := x.increment - 1 }).finish rfl).session
  rw [State.runningMinute_counts hx h, hcls]
  simp only [State.dryerMinute_eq]
  rw [if_pos hdue, Session.countsDown_late hdue.1]
  exact State.checkOverrun_within hfinish hin

/-! ## What a minute in RUNNING leads to -/

/-- The event of a minute that only counts. -/
theorem minute_counts {y : Session} (hr : s.Runs) (he : s.minuteExpiry m = (s.markRefresh m x).counted m y) :
    Leads (exec (.minuteTimerExpiry m) s) s [.engine, .store] fun t =>
      t.engine = { s.engine with machines := s.engine.machines.set m.1 { s.machine m with session := some y } } ∧
        t.StoreFrom (s.markRefresh m x).store := by
  refine leads_of_effect ⟨nofun, nofun⟩ hr he ?_ (hr.2.markRefresh m x) fun t ht => ⟨ht.engine.trans ?_, ht.storeFrom⟩
  · refine (((Kept.refl [.engine, .store] s).and (s.kept_markRefresh m x))).and (ys := [.engine]) ⟨rfl, fun y hy => ?_⟩
    cases y
    case engine => simp at hy
    all_goals rfl
  · rw [State.markRefresh_eq]
    rfl

/-- The event of a minute past units and allowance that is no overrun for the supervisor, its rule disabled (R16, R159). -/
theorem State.overrun_off {y : Session} (hy : y.beyond) (hrule : look t.supervisor.enables 1 = false) :
    (t.counted m y).checkOverrun m = t.counted m y.raised := by
  rw [State.checkOverrun_beyond (t.counted_session m y) hy, State.counted_counted]
  exact if_neg (Bool.eq_false_iff.mp hrule)

theorem State.overrun_on {y : Session} (hy : y.beyond) (hrule : look t.supervisor.enables 1 = true) :
    (t.counted m y).checkOverrun m = (t.counted m y.raised).recordReport m .overrun .lockout := by
  rw [State.checkOverrun_beyond (t.counted_session m y) hy, State.counted_counted]
  exact if_pos hrule


theorem leadsNoticing_becomes_settled {c : Instr} {xs : List Block} {holds : State → Prop} {r : MachineRecord} {l : Link}
    {gs : List MachineNo} (ns : List Notice) (hc : isEvent c) (hr : s.Runs) (he : effect c s = w) (hw : s.Becomes b w m r l gs)
    (hset : b.Settled) (hhost : b.host = s.host.offered ns) (hb : Kept (.host :: xs) s b) (hengine : .engine ∈ xs) (hline : .line ∈ xs)
    (hh : ∀ t, w.Concludes t → holds t) : LeadsNoticing (exec c s) s xs holds :=
  leads_becomes_settled hc hr he hw hset hb (.tail _ hengine) (.tail _ hline) fun t ht => ⟨⟨ns, hw.transmits ht hhost⟩, hh t ht⟩

/-- The overrun of a session with parts, its rule enabled: FAULT OVERRUN towards LOCKED_OUT (R16, R158, R162). -/
theorem overrun_ends {z : Session} (hr : s.Runs) (he : s.minuteExpiry m = ((s.markRefresh m x).counted m z).recordReport m .overrun .lockout)
    (hst : (s.machine m).state = .running) (hparts : z.parts ≠ []) (hout : (s.machine m).outstanding = .none)
    (hlog : s.supervisor.log.length < 80) (hother : s.OtherRecovering m) :
    LeadsNoticing (exec (.minuteTimerExpiry m) s) s [.engine, .store, .line, .feeder, .payment, .supervisor] fun t =>
      OthersKept [m] s t ∧ t.StoreFrom (s.markRefresh m x).store ∧ (t.machine m).state = .settling ∧
        (t.machine m).session = some { z with heat := .none, endCause := some (.fault .overrun) } ∧
        (t.machine m).afterSettle = .lockedOut .overrun ∧ (t.machine m).lastEnd = some (.fault .overrun) ∧
        (t.machine m).outstanding = .settle ∧ (t.machine m).minuteTimer = false ∧
        t.feeder.holdsGrant m = false ∧ t.feeder.queued m = false ∧
        ((s.link m).state ≠ .disabled → (t.link m).table.stop = some z.id) ∧
        t.payment = { s.payment with queue := s.payment.queue ++ [.settle m z.id (.fault .overrun) z.elapsed z.paused] } ∧
        t.supervisor = { s.supervisor with
          log := s.supervisor.log ++ [⟨s.supervisor.next, s.clock.day, s.clock.minute, .machine m, .overrun, .lockout, .session z.id,
            none, false⟩]
          counter := s.supervisor.next
          locking := s.supervisor.locking.set m.1 (some s.supervisor.next)
          ending := s.supervisor.ending.set m.1 (some s.supervisor.next) } := by
  have hkept := s.kept_markRefresh m x
  have hset := hr.2.markRefresh m x
  have hself := ((s.becomes_self m).markRefresh x).counted z
  generalize s.markRefresh m x = B at *
  have hstart : B.startUp = s.startUp := hkept.2 .startUp (by decide)
  have hsupervisor : B.supervisor = s.supervisor := hkept.2 .supervisor (by decide)
  have hclock : B.clock = s.clock := hkept.2 .clock (by decide)
  obtain ⟨ns, hw⟩ := hself.recordReport_ends (fun hrec => hother (hstart.symm.trans hrec)) (.inr (.inr (.inl hst))) rfl hparts .overrun
    .lockout
  have href : ({ s.machine m with session := some z } : MachineRecord).ref = .session z.id := rfl
  rw [href, State.endingBase, State.placing_of_parts _ _ _ _ hparts (r := { s.machine m with session := some z }) hout,
    show (Order.lockout == Order.lockout) = true from rfl] at hw
  dsimp only at hw
  have hrecorded := B.linked_supervisor m .overrun .lockout (.session z.id) true true
  rw [hsupervisor, hclock, s.supervisor.makeRoom_room hlog] at hrecorded
  have hkeptR : Kept [.store, .supervisor] s ((B.writeRecord (.machine m) .overrun .lockout (.session z.id)).linked m true true) :=
    ((hkept.mono (by decide)).and (State.kept_writeRecord _ _ _ _ _)).and (State.kept_linked _ _ _ _)
  have hstore : ((B.writeRecord (.machine m) .overrun .lockout (.session z.id)).linked m true true).store = B.store := rfl
  generalize hR : (B.writeRecord (.machine m) .overrun .lockout (.session z.id)).linked m true true = R at *
  have hfeeder : R.feeder = s.feeder := hkeptR.2 .feeder (by decide)
  have hhost : R.host = s.host := hkeptR.2 .host (by decide)
  have hpayment : R.payment = s.payment := hkeptR.2 .payment (by decide)
  have hengine : R.engine = s.engine := hkeptR.2 .engine (by decide)
  have hline : R.line = s.line := hkeptR.2 .line (by decide)
  have hsetR : R.Settled := hset.of_store hstore
  have hwhole : (((R.releasing m).enqueue (.settle m z.id (.fault .overrun) z.elapsed z.paused)).offering ns).payment =
      { s.payment with queue := s.payment.queue ++ [.settle m z.id (.fault .overrun) z.elapsed z.paused] } := by
    rw [← hpayment]
    rfl
  have hreleasing : (R.releasing m).feeder = (s.releasing m).feeder := by
    unfold State.releasing
    rw [hfeeder]
  refine leadsNoticing_becomes_settled ((s.feeder.released m).1.judged.2 ++ ns) ⟨nofun, nofun⟩ hr he hw (hsetR.of_store rfl) ?_ ?_ (by simp)
    (by simp) fun t ht => ?_
  · rw [HostLink.offered_append, ← hhost, ← hfeeder]
    rfl
  · exact (((hkeptR.mono (by decide)).and (State.kept_releasing _ m)).and (State.kept_enqueue _ _)).and (State.kept_offering _ _)
  · obtain ⟨hothers, hstate, hsession, hafter, hlast, hplaced, -, htimer, -, -, hgrant, hqueued, hpay⟩ :=
      hw.settles ht hparts hout (hengine ▸ rfl) (hline ▸ rfl) hreleasing hwhole
    obtain ⟨-, c, htable⟩ := hw.concludes ht
    refine ⟨hothers, hstore ▸ hw.concludes_storeFrom ht, hstate, hsession, hafter, hlast, hplaced, htimer, hgrant, hqueued,
      fun hl => ?_, hpay, (hw.concludes_supervisor ht).trans hrecorded⟩
    rw [htable]
    exact Link.ending_stop hl (.inl hst) (by simp) _


/-- The minute at which a dryer's FINISH is sent (R15). -/
theorem finish_leads {z : Session} (hr : s.Runs) (he : s.minuteExpiry m = ((s.markRefresh m x).counted m z).finish m) :
    Leads (exec (.minuteTimerExpiry m) s) s [.engine, .store, .line, .feeder, .host] fun t =>
      OthersKept [m] s t ∧ t.StoreFrom (s.markRefresh m x).store ∧
        t.machine m = { s.machine m with
          lampSent := (t.machine m).lampSent
          session := some { z with finishSent := true, heat := .none } } ∧
        ((s.link m).state ≠ .disabled → (t.link m).table.finish = some z.id) ∧
        t.feeder.holdsGrant m = false ∧ t.feeder.queued m = false ∧ t.feeder.heaterFault = s.feeder.heaterFault ∧
        ∃ ns, s.HeatReleased t m ns ∧ t.host = (s.host.offered ns).transmit := by
  have hkept := s.kept_markRefresh m x
  have hset := hr.2.markRefresh m x
  have hself := ((s.becomes_self m).markRefresh x).counted z
  generalize s.markRefresh m x = B at *
  have hfeeder : B.feeder = s.feeder := hkept.2 .feeder (by decide)
  have hhost : B.host = s.host := hkept.2 .host (by decide)
  have hw := hself.finish rfl
  rw [List.nil_append, hfeeder] at hw
  have hunit : (B.releasing m).feeder = (s.releasing m).feeder := by
    unfold State.releasing
    rw [hfeeder]
  have hnotices : (B.releasing m).host = s.host.offered (s.feeder.released m).1.judged.2 := by
    unfold State.releasing
    rw [hfeeder, hhost]
  have hbase : Kept [.store, .feeder, .host] s (B.releasing m) := (hkept.mono (by decide)).and (State.kept_releasing _ m)
  refine leads_becomes_settled ⟨nofun, nofun⟩ hr he hw (hset.of_store rfl) (hbase.mono (by decide)) (by simp) (by simp) fun t ht => ?_
  obtain ⟨⟨a, hm⟩, c, htable⟩ := hw.concludes ht
  obtain ⟨hgrant, hqueue, hfault, hreleased⟩ := hw.heatReleased ht hunit
  refine ⟨hw.othersKept_of_kept ht hbase, hw.concludes_storeFrom ht, ?_, fun hl => ?_, hgrant, hqueue, hfault, _, hreleased,
    hw.transmits ht hnotices⟩
  · rw [hm]
    rfl
  · rw [htable, Link.sent_of_ne hl]
    rfl

/-! ## The minute in DELAYED -/

/-- The session as GO makes it run (R12, R16). -/
def Session.going (y : Session) (c : Timebase) (allowance : Nat) : Session :=
  { y with startDay := c.day, startMinute := c.minute, allowance := allowance }

/-- GO sent, the machine RUNNING and SESSION STARTED offered (R12). -/
theorem State.Becomes.go {r : MachineRecord} {l : Link} {gs : List MachineNo} (h : s.Becomes b t m r l gs) (hcalm : b.KeepsStart s m)
    (hy : r.session = some y) : ∃ u,
    s.Becomes (b.notify (.sessionStarted m y.id y.mode b.clock.day b.clock.minute)) u m
      { r with state := .running, armTimer := none, minuteTimer := true
               session := some (y.going b.clock b.engine.overrunMinutes) } (l.sent (.go y.id)) gs ∧
      t.goRunning m = match r.cls with
        | .washer => u
        | .dryer => ((u.modSession m fun z => { z with increment := (look b.tariff.dryers y.programme).length }).setHeat m
            .waiting).requestHeat m := by
  have hsession : t.session m = some y := h.session.trans hy
  have hclock : t.clock = b.clock := by rw [h.same]
  have htariff : t.tariff = b.tariff := by rw [h.same]
  have hminutes : t.engine.overrunMinutes = b.engine.overrunMinutes := by rw [h.same]
  have hcls : (t.machine m).cls = r.cls := by
    obtain ⟨a, hm⟩ := h.machine
    rw [hm]
    rfl
  have hgone := ((((h.send (.go y.id)).modMachine fun r => { r with armTimer := none, minuteTimer := true }).modSession
    fun y => y.going b.clock b.engine.overrunMinutes).enter hcalm .running).notify
    (.sessionStarted m y.id y.mode b.clock.day b.clock.minute)
  have hrecord : (({ r with armTimer := none, minuteTimer := true,
                             session := r.session.map fun y => y.going b.clock b.engine.overrunMinutes } : MachineRecord).inState .running) =
      { r with state := .running, armTimer := none, minuteTimer := true
               session := some (y.going b.clock b.engine.overrunMinutes) } := by
    rw [hy]
    rfl
  rw [hrecord] at hgone
  refine ⟨_, hgone, ?_⟩
  unfold State.goRunning State.lengthOf
  rw [hsession]
  simp only [hclock, htariff, hminutes, hcls]
  rfl


theorem State.delayedMinute_goes (hx : (s.machine m).session = some x) (h : x.delay ≤ 1) :
    s.delayedMinute m x = (s.counted m { x with delay := 0 }).goRunning m := by
  unfold State.delayedMinute State.delayOver
  rw [if_pos h, State.modSession_counted hx]

/-- A washer's delay over (R11, R12). -/
theorem washer_goes {y : Session} (hr : s.Runs) (he : s.minuteExpiry m = (s.counted m y).goRunning m)
    (htimer : (s.machine m).minuteTimer = true) (hcls : (s.machine m).cls = .washer) (hother : s.OtherRecovering m) :
    Leads (exec (.minuteTimerExpiry m) s) s [.engine, .line, .host] fun t =>
      OthersKept [m] s t ∧
        t.host = (s.host.offered [.sessionStarted m y.id y.mode s.clock.day s.clock.minute]).transmit ∧
        t.machine m = { s.machine m with
          state := .running, armTimer := none, lampSent := (t.machine m).lampSent
          session := some (y.going s.clock s.engine.overrunMinutes) } ∧
        ((s.link m).state ≠ .disabled → (t.link m).table.go = some y.id) := by
  obtain ⟨u, hw, hgone⟩ := ((s.becomes_self m).counted y).go hother rfl
  have heffect : effect (.minuteTimerExpiry m) s = u := (he.trans hgone).trans (by rw [hcls])
  have hbase := (Kept.refl [.host] s).and (State.kept_notify s (.sessionStarted m y.id y.mode s.clock.day s.clock.minute))
  refine leads_becomes ⟨nofun, nofun⟩ hr heffect hw (hbase.mono (by decide)) (by simp) (by simp) fun t ht => ?_
  obtain ⟨⟨a, hm⟩, c, htable⟩ := hw.concludes ht
  refine ⟨hw.othersKept_of_kept ht hbase, hw.transmits ht rfl, ?_, fun hl => ?_⟩
  · rw [hm, ← htimer]
    rfl
  · rw [htable, Link.sent_of_ne hl]
    rfl

/-- Heat asked for, and what the event leaves of the answer (R13, R142, R143). -/
theorem State.Becomes.asks {r : MachineRecord} {l : Link} {room : RoomNo} {load : Nat} {ns : List Notice} (h : s.Becomes b t m r l [])
    (hx : r.session = some x) (hfeeder : b.feeder = s.feeder) (hhost : b.host = s.host.offered ns) (hroom : r.room = room)
    (hload : b.tariff.heatLoad r.cls x.programme = load) :
    let p := (s.feeder.released m).1.answered room m load
    ∃ granted,
      s.Becomes (b.answering p) (t.requestHeat m) m (r.heated (heatGiven granted)) (l.sent (heatSent granted x.id).command)
          ((s.feeder.released m).2 ++ p.2) ∧
        ∀ t', (t.requestHeat m).Concludes t' → t'.feeder.heaterFault = s.feeder.heaterFault ∧
          s.HeatAnswered t' m room load x.id (heatGiven granted) p.1.judged.2 ∧
          t'.host = (s.host.offered (ns ++ p.1.judged.2)).transmit := by
  intro p
  have hw := h.requestHeat hx
  dsimp only at hw
  rw [hfeeder, hroom, hload, List.nil_append] at hw
  have hsettings : s.feeder.SameSettings p.1.judged.1 :=
    ((Feeder.sameSettings_released _ m).trans (Feeder.sameSettings_answered _ room m load)).trans (Feeder.sameSettings_judged _)
  refine ⟨_, hw, fun t' ht => ?_⟩
  have hunit : t'.feeder = p.1.judged.1 := hw.concludes_feeder ht
  refine ⟨by rw [hunit]; exact hsettings.heaterFault, State.heatAnswered hunit (hw.told.concludes ht rfl rfl) fun hl => ?_,
    hw.transmits ht ?_⟩
  · obtain ⟨-, c, htable⟩ := hw.concludes ht
    rw [(hw.concludes_link ht).1, Link.sent_state] at hl
    rw [htable, Link.sent_of_ne hl]
    cases (s.feeder.released m).1.answers room m load <;> rfl
  · rw [HostLink.offered_append, ← hhost]
    rfl

theorem State.kept_answering (b : State) (p : Feeder × List MachineNo) : Kept [.feeder, .host] b (b.answering p) := by
  refine ⟨rfl, fun y hy => ?_⟩
  cases y
  case feeder | host => simp at hy
  all_goals rfl

/-- A dryer's delay over: its heat is asked for (R11, R12, R13). -/
theorem dryer_goes {y : Session} (hr : s.Runs) (he : s.minuteExpiry m = (s.counted m y).goRunning m)
    (htimer : (s.machine m).minuteTimer = true) (hcls : (s.machine m).cls = .dryer) (hother : s.OtherRecovering m) :
    let p := look s.tariff.dryers y.programme
    Leads (exec (.minuteTimerExpiry m) s) s [.engine, .line, .host, .feeder] fun t =>
      OthersKept [m] s t ∧ t.feeder.heaterFault = s.feeder.heaterFault ∧
        (∃ h ns, t.machine m = { s.machine m with
            state := .running, armTimer := none, lampSent := (t.machine m).lampSent
            session := some { y.going s.clock s.engine.overrunMinutes with increment := p.length, heat := h } } ∧
          s.HeatAnswered t m (s.machine m).room p.heat y.id h ns ∧
          t.host = (s.host.offered (.sessionStarted m y.id y.mode s.clock.day s.clock.minute :: ns)).transmit) ∧
        ((s.link m).state ≠ .disabled → (t.link m).table.go = some y.id) := by
  intro p
  obtain ⟨u, hu, hgone⟩ := ((s.becomes_self m).counted y).go hother rfl
  have heffect : effect (.minuteTimerExpiry m) s =
      ((u.modSession m fun z => { z with increment := p.length }).setHeat m .waiting).requestHeat m :=
    (he.trans hgone).trans (by rw [hcls])
  have hload : (s.notify (.sessionStarted m y.id y.mode s.clock.day s.clock.minute)).tariff.heatLoad (s.machine m).cls y.programme =
      p.heat := by
    rw [hcls]
    rfl
  obtain ⟨granted, hw, hanswer⟩ := ((hu.modSession fun z => { z with increment := p.length }).setHeat .waiting).asks rfl rfl
    (ns := [.sessionStarted m y.id y.mode s.clock.day s.clock.minute]) rfl rfl hload
  have hbase := ((Kept.refl [.feeder, .host] s).and (State.kept_notify s (.sessionStarted m y.id y.mode s.clock.day s.clock.minute))).and
    (State.kept_answering _ ((s.feeder.released m).1.answered (s.machine m).room m p.heat))
  refine leads_becomes ⟨nofun, nofun⟩ hr heffect hw (hbase.mono (by decide)) (by simp) (by simp) fun t ht => ?_
  obtain ⟨⟨a, hm⟩, c, htable⟩ := hw.concludes ht
  obtain ⟨hfault, hanswered, hhost⟩ := hanswer t ht
  refine ⟨hw.othersKept_of_kept ht hbase, hfault, ⟨_, _, ?_, hanswered, hhost⟩, fun hl => ?_⟩
  · rw [hm, ← htimer]
    rfl
  · rw [htable, Link.sent_of_ne (by rw [Link.sent_state]; exact hl), Link.sent_of_ne hl]
    cases granted <;> rfl

end

/-- Settles O50: the minute by the machine's state, in RUNNING by what of the counters, FINISH and the overrun is due. -/
theorem minuteAdvancesSession : Obligations.MinuteAdvancesSession := by
  intro s m hr r out
  refine ⟨fun h => leads_nothing ⟨nofun, nofun⟩ hr (State.minuteExpiry_off h), fun x hx htimer => ?_⟩
  intro sets marked e beyond counts down steps
  have hmarked : (s.markRefresh m x).store = marked := by rw [State.markRefresh_eq]
  refine ⟨fun hst => ?running, fun hst => ?delayed⟩
  case running =>
    have hminute := State.minuteExpiry_running hx htimer hst
    have hcounts (y : Session) (he : s.runningMinute m x = (s.markRefresh m x).counted m y) : counts y := by
      have h := minute_counts hr (hminute.trans he)
      rw [hmarked] at h
      exact h
    have hrules : (s.markRefresh m x).supervisor = s.supervisor := (s.kept_markRefresh m x).2 .supervisor (by decide)
    have hsteps (hbeyond : beyond) :
        x.minuted (s.machine m).cls (s.lengthOf x.programme) = { x with elapsed := e, increment := steps } := by
      cases hcls : (s.machine m).cls with
      | washer => rw [show steps = x.increment from if_neg fun h => absurd (hcls.symm.trans h) (by decide)]; rfl
      | dryer =>
        have hunits : x.ticked.units ≤ x.ticked.elapsed := Nat.le_of_lt (Nat.lt_of_le_of_lt (Nat.le_add_right _ _) hbeyond.2.2)
        rw [show steps = x.increment - 1 from if_pos hcls]
        exact Session.countsDown_late hunits _
    refine ⟨fun hheat => hcounts _ (State.runningMinute_paused hx hheat), fun hheat => ⟨fun hcls hin => hcounts _ ?_,
      fun hlate hbeyond hrule => hcounts _ ?_, fun hlate hbeyond hrule hparts hout hlog hother => ?ends, fun hcls hin hdue => hcounts _ ?_,
      fun hcls hin hunits hsent hmode => ?finish⟩⟩
    · rw [State.runningMinute_minuted hx hheat (.inl hcls),
        State.checkOverrun_within (State.counted_session _ _ _) (mt Session.beyond_minuted.mp hin), show (s.machine m).cls = _ from hcls]
      rfl
    · rw [State.runningMinute_minuted hx hheat (hlate.imp id fun hs hdue => absurd (hs.symm.trans hdue.2.1) (by decide)),
        State.overrun_off (Session.beyond_minuted.mpr hbeyond) (by rw [hrules]; exact hrule), hsteps hbeyond]
      rfl
    case ends =>
      have he : s.runningMinute m x = ((s.markRefresh m x).counted m ({ x with elapsed := e, increment := steps } : Session).raised).recordReport
          m .overrun .lockout := by
        rw [State.runningMinute_minuted hx hheat (hlate.imp id fun hs hdue => absurd (hs.symm.trans hdue.2.1) (by decide)),
          State.overrun_on (Session.beyond_minuted.mpr hbeyond) (by rw [hrules]; exact hrule), hsteps hbeyond]
      have h := overrun_ends hr (hminute.trans he) hst hparts hout hlog hother
      rw [hmarked] at h
      exact h
    · have hnot : ¬ x.ticked.finishDue := fun h => hdue.elim (fun hlt => absurd h.1 (Nat.not_le_of_lt hlt)) fun h' =>
        h'.elim (fun hs => absurd (hs.symm.trans h.2.1) (by decide)) h.2.2
      rw [State.runningMinute_minuted hx hheat (.inr hnot),
        State.checkOverrun_within (State.counted_session _ _ _) (mt Session.beyond_minuted.mp hin), show (s.machine m).cls = _ from hcls]
      rfl
    case finish =>
      have h := finish_leads hr (hminute.trans (State.runningMinute_finishes hx hheat hcls ⟨hunits, hsent, hmode⟩ hin))
      rw [hmarked] at h
      exact h
  case delayed =>
    have hminute := State.minuteExpiry_delayed hx htimer hst
    refine ⟨fun hdelay => ?_, fun hdelay hcls hother => ?_, fun hdelay hcls hother => ?_⟩
    · have he : effect (.minuteTimerExpiry m) s = s.counted m { x with delay := x.delay - 1 } := by
        refine hminute.trans ((if_neg (Nat.not_le_of_lt hdelay)).trans ?_)
        rw [State.modSession_counted hx]
      refine leads_of_effect ⟨nofun, nofun⟩ hr he ⟨rfl, fun y hy => ?_⟩ (hr.2.of_store rfl) fun t ht => ht.engine
      cases y
      case engine => simp at hy
      all_goals rfl
    · exact washer_goes hr (hminute.trans (State.delayedMinute_goes hx hdelay)) htimer hcls hother
    · exact dryer_goes hr (hminute.trans (State.delayedMinute_goes hx hdelay)) htimer hcls hother

end Sys2Proof.Machine
end

section
/-! SUPPORT. The steps of a payment context: its stage, its lock, its transaction and what a store that is not UP makes of it (R97 to R101,
R183), and with them the account steps of a vend (R59, R100, R103). -/
namespace Sys2Proof.Machine

/-! ## The payment unit and the store port replaced -/

/-- The payment unit with context `c` replaced. -/
def PaymentUnit.put (p : PaymentUnit) (c : ContextNo) (x : Context) : PaymentUnit := { p with contexts := p.contexts.set c.1 x }

/-- The payment unit with its lock list replaced. -/
def PaymentUnit.lockedBy (p : PaymentUnit) (l : List LockEntry) : PaymentUnit := { p with locks := l }

/-- The state with its payment unit and its store port replaced. -/
def State.paid (s : State) (p : PaymentUnit) (port : StorePort) : State := { s with payment := p, store := port }

/-- A store port with a transaction of context `c` issued. -/
def StorePort.issued (port : StorePort) (c : ContextNo) (a : Access) : StorePort :=
  { port with queue := port.queue ++ [⟨.context c, a⟩] }

section
variable {s u w : State} {c : ContextNo} {x : Context} {p : PaymentUnit} {port : StorePort}

@[simp] theorem PaymentUnit.put_put (p : PaymentUnit) (c : ContextNo) (x y : Context) : (p.put c x).put c y = p.put c y := by
  simp [PaymentUnit.put]

@[simp] theorem PaymentUnit.look_put (p : PaymentUnit) (c : ContextNo) (x : Context) : look (p.put c x).contexts c = x := by
  simp [PaymentUnit.put, look]

theorem State.paid_self (s : State) : s.paid s.payment s.store = s := rfl

@[simp] theorem State.paid_paid (s : State) (p q : PaymentUnit) (x y : StorePort) : (s.paid p x).paid q y = s.paid q y := rfl

@[simp] theorem State.paid_context (s : State) (p : PaymentUnit) (port : StorePort) (c : ContextNo) :
    (s.paid p port).context c = look p.contexts c := rfl

/-- A context at a step, in a state whose payment unit and store port are given. -/
theorem State.paid_stage (s : State) (p : PaymentUnit) (port : StorePort) (c : ContextNo) (g : Stage) :
    (s.paid p port).stage c g = s.paid (p.put c { look p.contexts c with stage := g }) port := rfl

theorem State.stage_eq (hx : s.context c = x) (g : Stage) : s.stage c g = s.paid (s.payment.put c { x with stage := g }) s.store := by
  subst hx
  rfl

theorem State.goTo_eq (hx : s.context c = x) (g : Stage) (a : Access) :
    s.goTo c g a = s.paid (s.payment.put c { x with stage := g }) (s.store.issued c a) := by
  subst hx
  rfl

/-! ## A flow -/

/-- A flow that lets no context go on. -/
theorem Flow.run_nil (u : State) : Flow.run (u, []) = u := rfl

/-- A flow that lets one context go on, which lets no other. -/
theorem Flow.run_one (h : u.gotLock c = (w, [])) : Flow.run (u, [c]) = w := by
  have hgo : Flow.run (u, [c]) = State.goOn 63 ((u.gotLock c).2 ++ []) (u.gotLock c).1 := rfl
  rw [hgo, h]
  rfl

/-! ## Locks -/

/-- A lock asked for that no context holds. -/
theorem State.askLock_free {a : AccountNo} (h : ∀ e ∈ u.payment.locks, e.account ≠ a) :
    u.askLock c a = (u.paid (u.payment.lockedBy (u.payment.locks ++ [⟨a, c, []⟩])) u.store, [c]) := by
  have hany : (u.payment.locks.any fun e => e.account == a) = false := by simpa using h
  unfold State.askLock
  rw [hany]
  rfl

/-- A lock asked for that another context holds. -/
theorem State.askLock_held {a : AccountNo} (h : ¬ ∀ e ∈ u.payment.locks, e.account ≠ a) :
    u.askLock c a = (u.paid (u.payment.lockedBy (waitingFor u.payment.locks a c)) u.store, []) := by
  have hany : (u.payment.locks.any fun e => e.account == a) = true := by simpa using h
  unfold State.askLock
  rw [hany]
  rfl

/-- A lock that nobody awaits, released (R98). -/
theorem State.releaseLock_alone {l : List LockEntry} {a : AccountNo} (hl : u.payment.locks = l ++ [⟨a, c, []⟩])
    (h : ∀ e ∈ l, e.account ≠ a) : u.releaseLock a = (u.paid (u.payment.lockedBy l) u.store, []) := by
  have hfind : ((l ++ [⟨a, c, []⟩] : List LockEntry).find? fun e => e.account == a) = some ⟨a, c, []⟩ := by
    rw [List.find?_append, List.find?_eq_none.mpr fun e he => by simpa using h e he]
    simp
  have hkeep : l.filterMap (fun x => if x.account = a then x.released else some x) = l := by
    refine (List.filterMap_congr fun x hx => if_neg (h x hx)).trans ?_
    simp
  have hgone : (l ++ [⟨a, c, []⟩] : List LockEntry).filterMap (fun x => if x.account = a then x.released else some x) = l := by
    rw [List.filterMap_append, hkeep, List.filterMap_cons, if_pos rfl]
    exact List.append_nil l
  unfold State.releaseLock
  rw [hl, hfind]
  exact congrArg (fun k => (u.paid (u.payment.lockedBy k) u.store, ([] : List ContextNo))) hgone

/-! ## Transactions issued to a store that is not UP (R183) -/

theorem State.failIssued_up (h : u.storeUp = true) : u.failIssued = u := if_pos h

theorem State.drain_settled (h : ∀ t ∈ u.store.queue, t.isProbe = true) (n : Nat) : State.drain (n + 1) u = u := by
  have hnone : (u.store.queue.filter fun t => !t.isProbe) = [] := List.filter_eq_nil_iff.mpr fun t ht => by simp [h t ht]
  unfold State.drain
  rw [hnone]

/-- A transaction issued to a store that is not UP fails back to its context, which leaves the store port. -/
theorem State.failIssued_issued {a : Access} (hset : u.Settled) (hdown : u.storeUp = false)
    (hfail : (u.contextFailed c).run = w) (hw : w.store = u.store) : (u.issueFor c a).failIssued = w := by
  have hprobes : ∀ t ∈ u.store.queue, t.isProbe = true := hset.resolve_left (by simp [hdown])
  have hothers : ((u.store.queue ++ [(⟨.context c, a⟩ : Transaction)]).filter fun t => !t.isProbe) = [⟨.context c, a⟩] := by
    rw [List.filter_append, List.filter_eq_nil_iff.mpr fun t ht => by simp [hprobes t ht]]
    rfl
  have hprobing : (u.store.queue ++ [(⟨.context c, a⟩ : Transaction)]).filter Transaction.isProbe = u.store.queue := by
    rw [List.filter_append, List.filter_eq_self.mpr hprobes]
    exact List.append_nil _
  have hleft : (u.issueFor c a).withQueue u.store.queue = u := rfl
  have hstep : (u.issueFor c a).failIssued = State.drain 63 (w.withQueue (w.store.queue ++ [])) := by
    refine (if_neg (by rw [show (u.issueFor c a).storeUp = u.storeUp from rfl, hdown]; decide)).trans ?_
    rw [State.drain]
    rw [show (u.issueFor c a).store.queue = u.store.queue ++ [⟨.context c, a⟩] from rfl, hothers, hprobing, hleft]
    exact congrArg (fun v : State => State.drain 63 (v.withQueue (v.store.queue ++ []))) hfail
  rw [hstep, List.append_nil]
  exact State.drain_settled (u := w) (by rw [hw]; exact hprobes) 62

/-- The event ends as that of the state its failures lead to. -/
theorem State.conclude_of_failIssued (h : w.failIssued = u) (hset : u.Settled) : w.conclude = u.conclude := by
  unfold State.conclude
  rw [h, State.failIssued_settled u hset]

/-- An event whose effect may issue to a store that is not UP. -/
theorem leads_of_failed {i : Instr} {xs : List Block} {holds : State → Prop} (hc : isEvent i) (hr : s.Runs) (he : effect i s = w)
    (hf : w.failIssued = u) (hk : Kept xs s u) (hset : u.Settled) (hh : ∀ t, u.Concludes t → holds t) : Leads (exec i s) s xs holds := by
  refine ⟨u.conclude, ?_, hk.conclude hset, hh _ hset.concludes⟩
  rw [exec_powered hc hr.1, he, State.conclude_of_failIssued hf hset]

end

/-! ## The account steps of a vend -/

section
variable {s u w : State} {c : ContextNo} {q : PayRequest} {g : Stage} {stale : Bool} {v : Vend} {y : Payer}

/-- What the part of a vend's PRICE step is (R101). -/
def Price.part (z : Price) (payer : Option AccountNo) (source : PayerSource) : Part :=
  { payer := payer, source := source, start := 0, units := z.units, price := z.price, hold := z.price, charge := none
    factor := z.factor, band := z.band, surcharged := z.surcharged }

/-- The slot's update of a vend (R102). -/
def Vend.slotAccess (v : Vend) (copy : SlotCopy) (p : Part) : Access :=
  if v.extends_ then .slotAppend v.machine p else .writeSlot v.machine ⟨none, some copy⟩

/-- A part with no account step goes to the slot write while the store is UP (R102). -/
theorem State.holdSlotStep_up (hx : u.context c = ⟨some q, g, stale⟩) (hup : u.storeUp = true) (p : Part) :
    u.holdSlotStep c v p =
      u.paid (u.payment.put c ⟨some q, .holdSlot p, stale⟩) (u.store.issued c (v.slotAccess (u.newCopy v p) p)) := by
  unfold State.holdSlotStep
  refine (if_neg (by simp [hup])).trans ?_
  unfold Vend.slotAccess
  cases v.extends_ <;> exact State.goTo_eq hx _ _

/-- While the store is not UP such a part is granted without it (R103). -/
theorem State.holdSlotStep_down (hx : u.context c = ⟨some q, g, stale⟩) (hdown : u.storeUp = false) {p : Part}
    (hp : p.takesAccount = false) :
    u.holdSlotStep c v p = u.paid (u.payment.put c ⟨some q, .reply (.success p false) none, stale⟩) u.store := by
  unfold State.holdSlotStep
  refine (if_pos (by simp [hdown, hp])).trans ?_
  exact State.stage_eq hx _

/-- A zero-priced programme's price is 0 (R103). -/
theorem Tariff.priceOf_zeroPriced {t : Tariff} {clock : Timebase} {demand : Bool} {r : PriceRequest} {z : Price}
    (h : t.zeroPriced r.cls r.programme = true) (hz : t.priceOf clock demand r = some z) : z.price = 0 := by
  unfold Tariff.priceOf at hz
  split at hz
  · obtain rfl := Option.some.inj hz
    have hgross := t.gross_of_zeroPriced (t.factor (t.bandInForce clock) (demand && !r.peakExempt)) h
    have hnet := t.net_le_gross (t.gross r (t.factor (t.bandInForce clock) (demand && !r.peakExempt))) r.group
    show (if r.free then 0 else min _ _) = 0
    split
    · rfl
    · rw [hgross] at hnet ⊢
      omega
  · cases hz

/-- What the steps of a context lead to is `leads` of the payment unit and the store port that the event's end finds. -/
def State.LeadsFrom (u w : State) (leads : PaymentUnit → StorePort → Prop) : Prop :=
  ∀ p port, w.failIssued = u.paid p port → (u.paid p port).Settled → leads p port

theorem State.LeadsFrom.settled {leads : PaymentUnit → StorePort → Prop} (h : u.LeadsFrom w leads) (hset : u.Settled)
    {p : PaymentUnit} (he : w = u.paid p u.store) : leads p u.store :=
  h p u.store (by rw [he]; exact State.failIssued_settled _ (hset.of_store rfl)) (hset.of_store rfl)

theorem State.LeadsFrom.issues {leads : PaymentUnit → StorePort → Prop} (h : u.LeadsFrom w leads) (hup : u.storeUp = true)
    {p : PaymentUnit} {a : Access} (he : w = u.paid p (u.store.issued c a)) : leads p (u.store.issued c a) :=
  h p _ (by rw [he]; exact State.failIssued_up hup) (.inl hup)

theorem Tariff.zeroPriced_iff {t : Tariff} {cls : MachineClass} {p : ProgrammeNo} : t.zeroPriced cls p = true ↔
    match cls with
    | .washer => (look t.washers p).price = 0
    | .dryer => (look t.dryers p).price = 0 := by
  cases cls <;> exact beq_iff_eq

/-- The state of a context asking for a lock that no other holds. -/
def State.locking (u : State) (c : ContextNo) (x : Context) (a : AccountNo) : State :=
  u.paid ((u.payment.put c x).lockedBy (u.payment.locks ++ [⟨a, c, []⟩])) u.store

theorem State.locking_release {x : Context} {a : AccountNo} (h : ∀ e ∈ u.payment.locks, e.account ≠ a) (z : Context) :
    ((u.locking c x a).paid ((u.locking c x a).payment.put c z) u.store).releaseLock a = (u.paid (u.payment.put c z) u.store, []) := by
  rw [State.releaseLock_alone (l := u.payment.locks) rfl h]
  refine Prod.ext ?_ rfl
  simp [State.locking, State.paid, PaymentUnit.lockedBy, PaymentUnit.put]

/-- What the account steps lead to, by the terms said once of them (R59, R100, R103). -/
theorem State.accountSteps_charges {leads : PaymentUnit → StorePort → Prop} (hset : u.Settled) (hx : u.context c = ⟨some q, g, stale⟩)
    (hl : u.LeadsFrom (u.accountSteps c v y).run leads) : u.Charges leads u.payment u.store c q v stale y := by
  unfold State.Charges
  intro sets refused goes unlocked free price
  refine ⟨fun hfree => ?free, fun hfree => ?charged⟩
  case free =>
    have hzero : u.tariff.zeroPriced v.cls v.programme = true := Tariff.zeroPriced_iff.mpr hfree
    have hsteps : (u.accountSteps c v y).run = u.priceOnly c v (some y.account) y.source y.attributes false := by
      unfold State.accountSteps
      rw [if_pos hzero]
      rfl
    rw [hsteps] at hl
    have hpart : u.pricePart v (some y.account) y.source y.attributes 0 false = price.map fun z => z.part (some y.account) y.source := rfl
    refine ⟨fun hprice => hl.settled hset ?_, fun z hz => ?_⟩
    · unfold State.priceOnly
      rw [hpart, hprice]
      exact State.stage_eq hx _
    · have hprice0 : z.price = 0 := Tariff.priceOf_zeroPriced hzero hz
      have honly : u.priceOnly c v (some y.account) y.source y.attributes false =
          u.holdSlotStep c v (z.part (some y.account) y.source) := by
        unfold State.priceOnly
        rw [hpart, hz]
        rfl
      have hfreepart : z.part (some y.account) y.source =
          ⟨some y.account, y.source, 0, z.units, 0, 0, none, z.factor, z.band, z.surcharged⟩ := by
        unfold Price.part
        rw [hprice0]
      rw [honly, hfreepart] at hl
      refine ⟨hprice0, fun hup => hl.issues hup (State.holdSlotStep_up hx hup _), fun hdown => hl.settled hset ?_⟩
      exact State.holdSlotStep_down hx hdown rfl
  case charged =>
    have hzero : ¬ u.tariff.zeroPriced v.cls v.programme = true := mt Tariff.zeroPriced_iff.mp hfree
    have hsteps : u.accountSteps c v y = (u.paid (u.payment.put c ⟨some q, .holdLock y, stale⟩) u.store).askLock c y.account := by
      unfold State.accountSteps
      rw [if_neg hzero, State.stage_eq hx]
    have hasked (h : unlocked) : u.accountSteps c v y = (u.locking c ⟨some q, .holdLock y, stale⟩ y.account, [c]) :=
      hsteps.trans (State.askLock_free h)
    have hstage : (u.locking c ⟨some q, .holdLock y, stale⟩ y.account).context c = ⟨some q, .holdLock y, stale⟩ :=
      PaymentUnit.look_put u.payment c _
    have hgot : (u.locking c ⟨some q, .holdLock y, stale⟩ y.account).gotLock c =
        (u.locking c ⟨some q, .holdLock y, stale⟩ y.account).holdLocked c y := by
      unfold State.gotLock
      rw [hstage]
    have hlisted : (u.locking c ⟨some q, .holdLock y, stale⟩ y.account).isDamaged y.account = true ↔ y.account ∈ u.payment.damaged :=
      List.contains_iff_mem
    have hreads (hsafe : y.account ∉ u.payment.damaged) (h : unlocked) : (u.accountSteps c v y).run =
        (u.locking c ⟨some q, .holdRead y, stale⟩ y.account).issueFor c (.readAccount y.account) := by
      rw [hasked h]
      refine Flow.run_one (hgot.trans ?_)
      unfold State.holdLocked
      rw [if_neg (mt hlisted.mp hsafe)]
      refine congrArg (·, ([] : List ContextNo)) ((State.goTo_eq hstage _ _).trans ?_)
      simp [State.locking, State.paid, PaymentUnit.lockedBy, PaymentUnit.put, State.issueFor, State.issue, StorePort.issued]
    refine ⟨fun h hdamaged => hl.settled hset ?_, fun h hsafe hup => ?_, fun h hsafe hdown => ?_, fun h => hl.settled hset ?_⟩
    · rw [hasked h]
      refine Flow.run_one (hgot.trans ?_)
      unfold State.holdLocked State.refuseLocked State.refuseVend
      rw [if_pos (hlisted.mpr hdamaged), State.stage_eq hstage]
      exact State.locking_release h _
    · exact hl.issues hup (hreads hsafe h)
    · refine hl _ u.store ?_ (hset.of_store rfl)
      rw [hreads hsafe h]
      have hread : (u.locking c ⟨some q, .holdRead y, stale⟩ y.account).context c = ⟨some q, .holdRead y, stale⟩ :=
        PaymentUnit.look_put u.payment c _
      refine State.failIssued_issued (hset.of_store rfl) hdown ?_ rfl
      unfold State.contextFailed
      rw [hread]
      unfold State.refuseLocked State.refuseVend
      simp only [State.stage_eq hread]
      exact congrArg Flow.run (State.locking_release h _)
    · rw [hsteps, State.askLock_held (u := u.paid (u.payment.put c ⟨some q, .holdLock y, stale⟩) u.store) h]
      rfl


/-- What a resolved card leads to, by the terms said once of it (R59). -/
theorem State.vendResolved_judges {leads : PaymentUnit → StorePort → Prop} {hold : Bool} {a : AccountNo} {attrs : Attributes}
    (hset : u.Settled) (hx : u.context c = ⟨some q, g, stale⟩) (hl : u.LeadsFrom (u.vendResolved c v hold a attrs).run leads) :
    u.Judges leads u.store u.store c q v stale hold a attrs := by
  unfold State.Judges
  intro refused barred
  have hrefuses (why : Reason) (hjudge : judgeResolution v.cls hold attrs = some why) : refused why := by
    refine hl.settled hset ?_
    unfold State.vendResolved
    rw [hjudge]
    exact State.stage_eq hx _
  refine ⟨fun hhold => hrefuses _ ?_, fun hhold hbarred => hrefuses _ ?_, fun hhold hopen => State.accountSteps_charges hset hx ?_⟩
  · rw [hhold]
    rfl
  · rw [hhold]
    rcases hbarred with ⟨hcls, hattr⟩ | ⟨hcls, hattr⟩ <;> rw [hcls] <;> exact if_pos hattr
  · have hjudge : judgeResolution v.cls hold attrs = none := by
      rw [hhold]
      cases hcls : v.cls with
      | washer => exact if_neg fun hattr => hopen (.inl ⟨hcls, hattr⟩)
      | dryer => exact if_neg fun hattr => hopen (.inr ⟨hcls, hattr⟩)
    unfold State.vendResolved at hl
    rw [hjudge] at hl
    exact hl

/-! ## A walk begun -/

/-- A walk begun: the stale mark cleared and the floor table's read issued (R57). -/
theorem State.startWalk_eq (hx : u.context c = ⟨some q, g, stale⟩) (p : CardPath) (cls : MachineClass) (restarted : Bool) :
    u.startWalk c p cls restarted =
      (u.paid (u.payment.put c ⟨some q, .walk (Walk.start p cls restarted), false⟩) u.store).issueFor c .readFloors := by
  have hclear : u.modContext c (fun x => { x with stale := false }) = u.paid (u.payment.put c ⟨some q, g, false⟩) u.store := by
    refine (show _ = u.paid (u.payment.put c { u.context c with stale := false }) u.store from rfl).trans ?_
    rw [hx]
  have hstage : (u.paid (u.payment.put c ⟨some q, g, false⟩) u.store).context c = ⟨some q, g, false⟩ := PaymentUnit.look_put _ _ _
  unfold State.startWalk
  simp only [hclear]
  refine (State.goTo_eq hstage _ _).trans ?_
  simp [State.paid, PaymentUnit.put, State.issueFor, State.issue, StorePort.issued] <;> rfl

/-- Begun while the store is not UP, its read fails back at once (R60, R74). -/
theorem State.startWalk_down (hset : u.Settled) (hdown : u.storeUp = false) (hx : u.context c = ⟨some q, g, stale⟩) (p : CardPath)
    (cls : MachineClass) (restarted : Bool)
    (hfail : (u.paid (u.payment.put c ⟨some q, .walk (Walk.start p cls restarted), false⟩) u.store).walkFailed c = w)
    (hw : w.store = u.store) : (u.startWalk c p cls restarted).failIssued = w := by
  rw [State.startWalk_eq hx]
  refine State.failIssued_issued (hset.of_store rfl) hdown ?_ hw
  have hstage : (u.paid (u.payment.put c ⟨some q, .walk (Walk.start p cls restarted), false⟩) u.store).context c =
      ⟨some q, .walk (Walk.start p cls restarted), false⟩ := PaymentUnit.look_put _ _ _
  unfold State.contextFailed
  rw [hstage]
  exact hfail

end

end Sys2Proof.Machine
end

section
/-! SUPPORT. A lookup of the authorisation cache, carried out and judged (4.2). -/
namespace Sys2Proof.Machine

section
variable {s u w : State} {c : ContextNo} {rest : List ContextNo} {q : PayRequest} {g : Stage} {stale : Bool} {p : CardPath}
  {sets : Vector CacheSet 8} {hit : Option CacheEntry}

/-! ## The array -/

/-- The state once the array has carried out its oldest lookup, its sets being as given (R78). -/
def State.looked (s : State) (rest : List ContextNo) (sets : Vector CacheSet 8) : State :=
  { s with cache := { s.cache with lookups := rest, access := none, sets := sets } }

/-- The sets with one replaced. -/
def Cache.setsWith (k : Cache) (i : Fin 8) (t : CacheSet) : Vector CacheSet 8 := k.sets.set i.1 t

theorem Cache.lookup_absent {k : Cache} (h : (look k.sets (CardPath.set p)).find p = none) : k.lookup p = (none, k) := by
  unfold Cache.lookup
  simp only [h]

theorem Cache.lookup_swept {k : Cache} {n : Fin 4} {e : CacheEntry} (h : (look k.sets (CardPath.set p)).find p = some n)
    (he : look (look k.sets (CardPath.set p)).ways n = some e) (hs : (k.targets.any fun x => x.matches e) = true) :
    k.lookup p = (none, { k with sets := k.setsWith (CardPath.set p) <|
      { look k.sets (CardPath.set p) with ways := (look k.sets (CardPath.set p)).ways.set n.1 none } }) := by
  unfold Cache.lookup
  simp only [h, he, hs, if_true]
  rfl

theorem Cache.lookup_hit {k : Cache} {n : Fin 4} {e : CacheEntry} (h : (look k.sets (CardPath.set p)).find p = some n)
    (he : look (look k.sets (CardPath.set p)).ways n = some e) (hs : (k.targets.any fun x => x.matches e) = false) :
    k.lookup p = (some e, { k with sets := k.setsWith (CardPath.set p) <|
      { look k.sets (CardPath.set p) with order := (look k.sets (CardPath.set p)).order.filter (· != n) ++ [n] } }) := by
  unfold Cache.lookup
  simp only [h, he, hs]
  rfl

/-- The oldest lookup carried out, and judged (R78). -/
theorem State.cacheLookup_eq (haccess : s.cache.access = some .lookup) (hl : s.cache.lookups = c :: rest)
    (hx : s.context c = ⟨some q, g, stale⟩) (hp : lookupPath q = some p) (hr : s.cache.lookup p = (hit, { s.cache with sets := sets })) :
    s.cacheLookup = ((s.looked rest sets).lookupDone c hit).run := by
  have hpath : (s.context c).request.bind lookupPath = some p := by
    rw [hx]
    exact hp
  unfold State.cacheLookup State.carryLookup
  rw [if_pos haccess, hl]
  simp only [hpath, hr]
  rfl

/-! ## What it leads to -/

theorem State.kept_looked (s : State) (rest : List ContextNo) (sets : Vector CacheSet 8) : Kept [.cache] s (s.looked rest sets) := by
  refine ⟨rfl, fun y hy => ?_⟩
  cases y
  case cache => simp at hy
  all_goals rfl

theorem State.kept_paid (u : State) (x : PaymentUnit) (port : StorePort) : Kept [.payment, .store] u (u.paid x port) := by
  refine ⟨rfl, fun y hy => ?_⟩
  cases y
  case payment | store => simp at hy
  all_goals rfl

/-- With the store port as it was. -/
theorem State.kept_paidAlone (u : State) (x : PaymentUnit) : Kept [.payment] u (u.paid x u.store) :=
  (u.kept_paid x u.store).without (y := .store) rfl (by simp)

/-- A lookup whose judgement changes the payment unit and the store port. -/
theorem looked_leads {x : PaymentUnit} {port : StorePort} (hr : s.Runs) (he : s.cacheLookup = w)
    (hf : w.failIssued = (s.looked rest sets).paid x port) (hset : ((s.looked rest sets).paid x port).Settled) :
    Leads (exec .cacheLookup s) s [.cache, .payment, .store] fun t =>
      t.cache = ({ s.cache with lookups := rest, access := none, sets := sets } : Cache).arbitrate ∧ t.payment = x ∧ t.StoreFrom port :=
  leads_of_failed ⟨nofun, nofun⟩ hr he hf
    (((s.kept_looked rest sets).mono (ys := [.cache, .payment, .store]) (by decide)).and (State.kept_paid _ _ _)) hset
    fun _ ht => ⟨ht.cache, ht.payment, ht.storeFrom⟩

/-- A lookup that begins a walk (R57, R78). -/
theorem walk_begins {cls : MachineClass} (hr : s.Runs) (hx : s.context c = ⟨some q, g, stale⟩)
    (he : s.cacheLookup = (s.looked rest sets).startWalk c p cls false) (hup : s.storeUp = true) :
    Leads (exec .cacheLookup s) s [.cache, .payment, .store] fun t =>
      t.cache = ({ s.cache with lookups := rest, access := none, sets := sets } : Cache).arbitrate ∧
        t.payment = s.payment.put c ⟨some q, .walk ⟨p, cls, none, .floor, false, [], false⟩, false⟩ ∧
        t.StoreFrom (s.store.issued c .readFloors) :=
  looked_leads hr (he.trans (State.startWalk_eq (u := s.looked rest sets) hx p cls false)) (State.failIssued_up hup) (.inl hup)

/-- A probe answered (R74). -/
theorem State.probeReply_eq {f : Frame} (hf : u.host.buffer = [f]) (r : ProbeResult) : u.probeReply c r =
    ({ u with host := u.host.answering f .ok r.payload } : State).paid (u.payment.put c Context.initial) u.store := by
  unfold State.probeReply State.replyHost
  rw [State.reply_eq u f _ _ hf]
  rfl

theorem probe_replies {f : Frame} {r : ProbeResult} {bytes : List Byte} {x : PaymentUnit} (hr : s.Runs) (hf : s.host.buffer = [f])
    (hbytes : r.payload = bytes) (he : s.cacheLookup = w)
    (hfail : w.failIssued = ((s.looked rest sets).paid x s.store).probeReply c r)
    (hx : x.put c Context.initial = s.payment.put c Context.initial) :
    Leads (exec .cacheLookup s) s [.cache, .host, .payment] fun t =>
      t.cache = ({ s.cache with lookups := rest, access := none, sets := sets } : Cache).arbitrate ∧
        t.host = (s.host.answering f .ok bytes).transmit ∧ t.payment = s.payment.put c Context.initial := by
  have hreplied := State.probeReply_eq (u := (s.looked rest sets).paid x s.store) (c := c) hf r
  rw [hbytes] at hreplied
  refine leads_of_failed ⟨nofun, nofun⟩ hr he (hfail.trans hreplied) ?_ (hr.2.of_store rfl) fun t ht => ⟨ht.cache, ht.host, ht.payment.trans hx⟩
  exact ((((s.kept_looked rest sets).mono (ys := [.cache, .host, .payment]) (by decide)).and (State.kept_paidAlone _ x)).and
    (State.kept_host _ _)).and (State.kept_paidAlone _ _)

/-! ## Probes -/

theorem State.lookupDone_probe {card : CardId} {cls : MachineClass} (hx : u.context c = ⟨some (.probe card cls), g, stale⟩) :
    (u.lookupDone c none).run = u.startWalk c card.path cls false ∧
      ∀ e, (u.lookupDone c (some e)).run = u.probeReply c (ProbeResult.resolved e.account e.attributes e.hold e.via 0) := by
  unfold State.lookupDone
  rw [hx]
  exact ⟨rfl, fun _ => rfl⟩

theorem State.walkFailed_probe {card : CardId} {cls : MachineClass} (hx : u.context c = ⟨some (.probe card cls), g, stale⟩) :
    u.walkFailed c = u.probeReply c (ProbeResult.bare 4) := by
  unfold State.walkFailed
  rw [hx]

theorem ProbeResult.payload_eq (r : ProbeResult) : r.payload =
    [u8 r.outcome, u8 r.level, u8 r.window, u8 r.action, accountIndexBytes r.account, u8 (attributeBits r.attributes), yesNo r.hold,
      yesNo r.via.isSome, match r.via with | some p => u8 p.floor.1 ++ u8 p.flat.1 ++ u8 p.ordinal.1 | none => [0#8, 0#8, 0#8],
      u8 r.foundBy].flatten := by
  unfold ProbeResult.payload
  simp only [List.flatten_cons, List.flatten_nil, List.append_assoc, List.append_nil]
  cases r.via <;> rfl

/-! ## Vends -/

theorem State.lookupDone_vend {v : Vend} (hx : u.context c = ⟨some q, g, stale⟩) (hv : q.vend? = some v) :
    (u.lookupDone c none).run = u.startWalk c v.card.path v.cls false ∧
      ∀ e, u.lookupDone c (some e) = u.vendResolved c v e.hold e.account e.attributes := by
  unfold State.lookupDone
  rw [hx]
  cases q <;> simp only [PayRequest.vend?, reduceCtorEq, Option.some.injEq] at hv <;> subst hv <;> exact ⟨rfl, fun _ => rfl⟩

theorem lookupPath_vend {v : Vend} (hv : q.vend? = some v) : lookupPath q = some v.card.path := by
  cases q <;> simp only [PayRequest.vend?, reduceCtorEq, Option.some.injEq] at hv <;> subst hv <;> rfl

theorem State.walkFailed_vend {v : Vend} (hx : u.context c = ⟨some q, g, stale⟩) (hv : q.vend? = some v) :
    u.walkFailed c = u.paid (u.payment.put c ⟨some q, .reply (.refused .storeUnavailable) none, stale⟩) u.store := by
  refine Eq.trans ?_ (State.stage_eq hx _)
  unfold State.walkFailed
  rw [hx]
  cases q <;> simp only [PayRequest.vend?, reduceCtorEq] at hv <;> rfl

/-! ## Hit, swept hit and miss -/

/-- What a lookup leads to, from what a miss and a hit lead to (R78). -/
theorem lookup_decides {found : Vector CacheSet 8 → CacheEntry → Prop} {miss : Vector CacheSet 8 → Prop}
    (haccess : s.cache.access = some .lookup) (hl : s.cache.lookups = c :: rest) (hx : s.context c = ⟨some q, g, stale⟩)
    (hp : lookupPath q = some p) (hmiss : ∀ v, s.cacheLookup = ((s.looked rest v).lookupDone c none).run → miss v)
    (hfound : ∀ v e, s.cacheLookup = ((s.looked rest v).lookupDone c (some e)).run → found v e) :
    let t := look s.cache.sets (CardPath.set p)
    (t.find p = none → miss s.cache.sets) ∧
      ∀ w, t.find p = some w → ∀ e, look t.ways w = some e →
        ((s.cache.targets.any fun x => x.matches e) = true →
          miss (s.cache.setsWith (CardPath.set p) { t with ways := t.ways.set w.1 none })) ∧
        ((s.cache.targets.any fun x => x.matches e) = false →
          found (s.cache.setsWith (CardPath.set p) { t with order := t.order.filter (· != w) ++ [w] }) e) := by
  intro t
  refine ⟨fun hnone => hmiss _ ?_, fun w hw e he => ⟨fun hswept => hmiss _ ?_, fun hkept => hfound _ _ ?_⟩⟩
  · exact State.cacheLookup_eq haccess hl hx hp (Cache.lookup_absent hnone)
  · exact State.cacheLookup_eq haccess hl hx hp (Cache.lookup_swept hw he hswept)
  · exact State.cacheLookup_eq haccess hl hx hp (Cache.lookup_hit hw he hkept)

end

/-- Settles O38: a hit's answer or judgement, and a miss's walk, by the request. -/
theorem lookupIsJudged : Obligations.LookupIsJudged := by
  intro s c rest q stale hr haccess hl hx out arrays sets looksUp walks
  have hlooked (v : Vector CacheSet 8) : (s.looked rest v).context c = ⟨some q, .lookup, stale⟩ := hx
  have hwalks {p : CardPath} {cls : MachineClass} {v : Vector CacheSet 8}
      (he : s.cacheLookup = (s.looked rest v).startWalk c p cls false) : walks p cls v := walk_begins hr hx he
  have hwalking (v : Vector CacheSet 8) (x : Context) : ((s.looked rest v).paid (s.payment.put c x) s.store).context c = x :=
    PaymentUnit.look_put _ _ _
  have hlooks {p : CardPath} {found : Vector CacheSet 8 → CacheEntry → Prop} {miss : Vector CacheSet 8 → Prop} (hp : lookupPath q = some p)
      (hmiss : ∀ v, s.cacheLookup = ((s.looked rest v).lookupDone c none).run → miss v)
      (hfound : ∀ v e, s.cacheLookup = ((s.looked rest v).lookupDone c (some e)).run → found v e) : looksUp p found miss :=
    lookup_decides haccess hl hx hp hmiss hfound
  clear_value looksUp
  refine ⟨fun card cls hq f hf => ?probe, fun v hv => ?vend⟩
  case probe =>
    intro replies
    subst hq
    refine hlooks rfl (fun v he => ?_) fun v e he => ?_
    · have hstart := he.trans (State.lookupDone_probe (hlooked v)).1
      refine ⟨hwalks hstart, fun hdown => ?_⟩
      refine probe_replies (x := s.payment.put c ⟨some (.probe card cls), .walk (Walk.start card.path cls false), false⟩) hr hf
        (ProbeResult.payload_eq (ProbeResult.bare 4)) hstart ?_ (PaymentUnit.put_put _ _ _ _)
      refine State.startWalk_down (u := s.looked rest v) (hr.2.of_store rfl) hdown (hlooked v) _ _ _ ?_ ?_
      · exact State.walkFailed_probe (hwalking v _)
      · rw [State.probeReply_eq (by exact hf)]
        rfl
    · refine probe_replies (x := s.payment) hr hf
        (ProbeResult.payload_eq (ProbeResult.resolved e.account e.attributes e.hold e.via 0)) he ?_ rfl
      rw [(State.lookupDone_probe (hlooked v)).2]
      refine State.failIssued_settled _ (hr.2.of_store ?_)
      rw [State.probeReply_eq (by exact hf)]
      rfl
  case vend =>
    refine hlooks (lookupPath_vend hv) (fun x he => ?_) fun x e he => ?_
    · have hstart := he.trans (State.lookupDone_vend (hlooked x) hv).1
      refine ⟨hwalks hstart, fun hdown => ?_⟩
      have hfail := State.startWalk_down (u := s.looked rest x) (hr.2.of_store rfl) hdown (hlooked x) v.card.path v.cls false
        (State.walkFailed_vend (hwalking x _) hv) rfl
      refine leads_of_failed ⟨nofun, nofun⟩ hr hstart hfail ?_ (hr.2.of_store rfl) fun t ht => ⟨ht.cache, ht.payment.trans ?_⟩
      · exact ((s.kept_looked rest x).mono (ys := [.cache, .payment]) (by decide)).and
          (State.kept_paidAlone (s.looked rest x) _)
      · exact PaymentUnit.put_put _ _ _ _
    · show (s.looked rest x).Judges (fun p port => Leads out s [.cache, .payment, .store] fun t =>
          t.cache = arrays x ∧ t.payment = p ∧ t.StoreFrom port) s.store s.store c q v stale e.hold e.account e.attributes
      refine State.vendResolved_judges (u := s.looked rest x) (hr.2.of_store rfl) (hlooked x) fun p port hp hset => ?_
      rw [← (State.lookupDone_vend (hlooked x) hv).2] at hp
      exact looked_leads hr he hp hset

end Sys2Proof.Machine
end
